-- ==== Sys2Proof/Word.lean ====
section
/-! DEFINITION. The words and names that commands carry: bytes, stamps, numbers of seats, links, ports and
lamps, a microphone's payload, a console arrival, the activity of a receive line. -/

namespace Sys2Proof

/-- One byte on a line. -/
abbrev Byte := BitVec 8

/-- A chamber clock value: a 32-bit count of tenths (00, Conventions). -/
abbrev Stamp := BitVec 32

/-- A 32-bit microphone identity (00, Terms). -/
abbrev RadioId := BitVec 32

/-- A seat; seat number n of the manual (1 to 192) is `n - 1` here. -/
abbrev SeatId := Fin 192

/-- An antenna link, 0 to 5. -/
abbrev LinkId := Fin 6

/-- A console port, 0 to 3. -/
abbrev PortId := Fin 4

/-- A chamber warning lamp, 0 to 3. -/
abbrev LampId := Fin 4

/-- The seat number the manual gives a seat. -/
abbrev seatNumber (i : SeatId) : Nat := i.val + 1

/-- The microphone payload of a COPY, field by field as it is carried (11.2). -/
structure MicPayload where
  radio : RadioId
  boot : BitVec 8
  frame : BitVec 16
  format : Byte
  cls : Byte
  level : Byte
  audio : Byte
  echo : Byte
deriving DecidableEq, Repr

/-- The key of an open frame (3.1). -/
structure FrameKey where
  radio : RadioId
  boot : BitVec 8
  frame : BitVec 16
deriving DecidableEq, Repr

/-- The two role straps of one port: `true` is high (9.1). -/
structure Strap where
  a : Bool
  b : Bool
deriving DecidableEq, Repr

/-- An arrival at a console port (R144): a bad frame, with the request code byte if one was received, or a good
request, with its code and its argument bytes. -/
inductive Arrival where
  | badFrame (code : Option Byte)
  | request (code : Byte) (args : List Byte)
deriving DecidableEq, Repr

/-- What a receive line does: a character with its stop bit, a character without it, the line going to its active
level and staying there, the line returning to idle. -/
inductive LineEvent where
  | byte (b : Byte)
  | framingError (b : Byte)
  | active
  | idle
deriving DecidableEq, Repr

/-- Activity of one receive line of the part. -/
inductive LineInput where
  | uplink (l : LinkId) (e : LineEvent)
  | console (p : PortId) (e : LineEvent)
deriving DecidableEq, Repr

end Sys2Proof
end

