-- ==== Sys2Proof/Syntax.lean ====
section
/-! DEFINITION. The commands of the part: one constructor for each row of spec/opcode_table.json. -/

namespace Sys2Proof

/-- The steps of the part. Requests carry their port and their argument bytes as 11.3 lays them out, so that the
number of argument bytes is checked where R150 checks it. -/
inductive Instr where
  /-- POWER_ON: the reset input releases the part; the straps of ports 0 to 3 (R141, R147). -/
  | powerOn (straps : Vector Strap 4)
  /-- INITIALISATION_COMPLETE (R147, R149). -/
  | initialisationComplete
  /-- RESTART: the DESK request (R148). -/
  | restart (p : PortId) (args : List Byte)
  /-- RESTART_BEGIN: the end of the RESTART response of a port (R149). -/
  | restartBegin (p : PortId)
  /-- COPY: a good COPY frame with its payload and raw strength byte (R29). -/
  | copy (l : LinkId) (payload : MicPayload) (raw : Byte)
  /-- STATUS: a good STATUS frame with the receiver identity (R30). -/
  | status (l : LinkId) (identity : BitVec 32)
  /-- UPLINK_BAD_FRAME: a frame that R26 ends early or R27 discards. -/
  | uplinkBadFrame (l : LinkId)
  /-- UPLINK_INTER_BYTE_TIMEOUT: the 1 ms inter-byte timer expires (R26). -/
  | uplinkInterByteTimeout (l : LinkId)
  /-- BREAK_DETECTED: the line has been held for 2 ms (R32). -/
  | breakDetected (l : LinkId)
  /-- BREAK_END: the line returns to idle (R33). -/
  | breakEnd (l : LinkId)
  /-- SILENCE_TIMER_EXPIRY (R31). -/
  | silenceTimerExpiry (l : LinkId)
  /-- DOWNLINK_SLOT: the slot timer expires (R39). -/
  | downlinkSlot (l : LinkId)
  /-- MERGE_WINDOW_EXPIRY of the open frame with the key (R48). -/
  | mergeWindowExpiry (key : FrameKey)
  /-- STRANGER_AGING_EXPIRY of the entry with the radio ID (R9). -/
  | strangerAgingExpiry (radio : RadioId)
  /-- LOSS_TIMER_EXPIRY (R21). -/
  | lossTimerExpiry (i : SeatId)
  /-- RECOVERY_GRACE_EXPIRY (R82). -/
  | recoveryGraceExpiry (i : SeatId)
  /-- VOICE_QUALIFY_EXPIRY (R96). -/
  | voiceQualifyExpiry (i : SeatId)
  /-- VOICE_END_EXPIRY (R96). -/
  | voiceEndExpiry (i : SeatId)
  /-- OPEN_GRACE_EXPIRY (R96). -/
  | openGraceExpiry (i : SeatId)
  /-- FLOOR_MUTED_QUALIFY_EXPIRY (R97). -/
  | floorMutedQualifyExpiry (i : SeatId)
  /-- CHATTER_WINDOW_EXPIRY (R98). -/
  | chatterWindowExpiry (i : SeatId)
  /-- SYNC_WINDOW_EXPIRY: the confirmation window of the seat's IN_FLIGHT SYNC expires (R135). -/
  | syncWindowExpiry (i : SeatId)
  /-- REMINDER_TIMER_EXPIRY (R164). -/
  | reminderTimerExpiry (p : PortId)
  /-- LAMP_ON_TIME_END (R167). -/
  | lampOnTimeEnd (m : LampId)
  /-- LAMP_PERIOD_END (R168). -/
  | lampPeriodEnd (m : LampId)
  /-- CONSOLE_INTER_BYTE_TIMEOUT: the 20 ms inter-byte timer expires (R142). -/
  | consoleInterByteTimeout (p : PortId)
  /-- FRAME_ERROR: a bad frame arrives, with the request code byte if one was received (R143). -/
  | frameError (p : PortId) (code : Option Byte)
  /-- ARRIVAL_WAITING: an arrival on a port that is sending a response (R144). -/
  | arrivalWaiting (p : PortId) (a : Arrival)
  /-- RESPONSE_END: the response in progress ends on the line (R144). -/
  | responseEnd (p : PortId)
  /-- PORT_BREAK: the line has been held for 100 ms (R146). -/
  | portBreak (p : PortId)
  /-- UNKNOWN_REQUEST: a good request whose code names no request (R150). -/
  | unknownRequest (p : PortId) (code : Byte) (args : List Byte)
  /-- SUMMARY (R153). -/
  | summary (p : PortId) (args : List Byte)
  /-- READ_ROSTER (R127). -/
  | readRoster (p : PortId) (args : List Byte)
  /-- READ_SEAT (R154). -/
  | readSeat (p : PortId) (args : List Byte)
  /-- READ_LINK (R154). -/
  | readLink (p : PortId) (args : List Byte)
  /-- READ_STRANGERS (R154). -/
  | readStrangers (p : PortId) (args : List Byte)
  /-- READ_PARAM (R154). -/
  | readParam (p : PortId) (args : List Byte)
  /-- ACK (R121). -/
  | ack (p : PortId) (args : List Byte)
  /-- SET_VIEW (R155). -/
  | setView (p : PortId) (args : List Byte)
  /-- SET_REMIND (R156, R163). -/
  | setRemind (p : PortId) (args : List Byte)
  /-- SET_MASK (R156). -/
  | setMask (p : PortId) (args : List Byte)
  /-- CLEAR_OVERFLOW (R114, R156). -/
  | clearOverflow (p : PortId) (args : List Byte)
  /-- MARK (R138). -/
  | mark (p : PortId) (args : List Byte)
  /-- TAG_FIRST (R151). -/
  | tagFirst (p : PortId) (args : List Byte)
  /-- TAG_LAST (R151). -/
  | tagLast (p : PortId) (args : List Byte)
  /-- QUIET (R10). -/
  | quiet (p : PortId) (args : List Byte)
  /-- UNQUIET (R10). -/
  | unquiet (p : PortId) (args : List Byte)
  /-- HOLD (R92). -/
  | hold (p : PortId) (args : List Byte)
  /-- FREE (R93). -/
  | free (p : PortId) (args : List Byte)
  /-- SWAP (R65). -/
  | swap (p : PortId) (args : List Byte)
  /-- GRANT (R89). -/
  | grant (p : PortId) (args : List Byte)
  /-- REVOKE (R90). -/
  | revoke (p : PortId) (args : List Byte)
  /-- REVOKE_ALL (R90). -/
  | revokeAll (p : PortId) (args : List Byte)
  /-- BIND (R5). -/
  | bind (p : PortId) (args : List Byte)
  /-- UNBIND (R6). -/
  | unbind (p : PortId) (args : List Byte)
  /-- SET_PARAM (R157). -/
  | setParam (p : PortId) (args : List Byte)
  /-- SET_LAMP (R158). -/
  | setLamp (p : PortId) (args : List Byte)
  /-- CHAMBER_CLOCK_TICK (R147). -/
  | chamberClockTick
  /-- PORT_BREAK_END: the held line returns to idle (R146). -/
  | portBreakEnd (p : PortId)
  /-- ORDER_FRAME_END: an ORDER frame is finished on the line (R40). -/
  | orderFrameEnd (l : LinkId)
deriving DecidableEq, Repr

end Sys2Proof
end

