-- ==== Sys2Proof/Config.lean ====
section
/-! DEFINITION. What the part fixes: table sizes, fixed timer lengths, parameter defaults, start bytes. The manual
leaves no value free, so no constant here is opaque. -/

namespace Sys2Proof.Config

/-- Entries the alert roster holds (R109). -/
def rosterSize : Nat := 48
/-- Entries the Downlink Queue holds (R128). -/
def queueSize : Nat := 24
/-- Markers of one port the queue holds (R128, R138). -/
def markersPerPort : Nat := 2
/-- Open frames the open-frame table holds (R42). -/
def openFrameSize : Nat := 16
/-- Stranger entries the list holds (R7). -/
def strangerSize : Nat := 8
/-- Slots of a reception history (5.4). -/
def historySize : Nat := 64
/-- Issues of a SYNC before it fails (R135). -/
def maxIssues : Nat := 3

/-- Initialisation, in ms (R147). -/
def initMs : Nat := 40
/-- Silence timer, in tenths (R28). -/
def silenceTenths : Nat := 15
/-- Slot timer, in ms (R39). -/
def slotMs : Nat := 50
/-- Break of an antenna link, in ms (R32). -/
def linkBreakMs : Nat := 2
/-- Break of a console port, in ms (R146). -/
def portBreakMs : Nat := 100
/-- Confirmation window, in ms (R132). -/
def syncWindowMs : Nat := 600
/-- Stranger aging, in tenths (R7). -/
def agingTenths : Nat := 600
/-- Voice end timer, in tenths (6.1). -/
def voiceEndTenths : Nat := 30
/-- Chatter window, in tenths (6.1). -/
def chatterWindowTenths : Nat := 100

/-- Greatest rank and greatest value of a 32-bit count (R106). -/
def maxRank : Nat := 4294967295
/-- Greatest tag (R105). -/
def maxTag : Nat := 65535
/-- Greatest bad-frame count, break duration and weighted time (2.1, R56). -/
def max16 : Nat := 65535

/-- Start bytes (R170). -/
def uplinkStart : Byte := 0xE7
def downlinkStart : Byte := 0xE8
def requestStart : Byte := 0x5A
def responseStart : Byte := 0x5B

/-- The longer of the two legal uplink lengths (11.2), and the greatest request length (R142). -/
def maxUplinkLength : Nat := 14
def maxRequestLength : Nat := 60

/-- The request codes of 11.3. -/
def requestCodes : List Byte :=
  [0x01, 0x02, 0x03, 0x04, 0x05, 0x06] ++
  [0x10, 0x11, 0x12, 0x13, 0x14, 0x15, 0x16, 0x17] ++
  [0x20, 0x21, 0x22, 0x23, 0x24, 0x25, 0x26, 0x27, 0x28, 0x29] ++
  [0x30, 0x31, 0x3F]

/-- The default drains of classes 0 to 3 (4.9). -/
def defaultDrain : Vector Nat 4 := #v[40, 32, 56, 24]

/-- The straps `State.reset` is taken to have sampled: ports 0 to 3 CHAIR, DESK, MONITOR, OFF, as in 7.9.
DESIGN CHOICE, unsafe: the manual gives no board (log 1). -/
def resetStraps : Vector Strap 4 := #v[⟨true, true⟩, ⟨true, false⟩, ⟨false, true⟩, ⟨false, false⟩]

end Sys2Proof.Config
end

