-- ==== Sys2Proof/Machine/State.lean ====
section
/-! DEFINITION. The state of the part, block by block as 00 (Block overview) lists it, as plain data, and its value
right after reset. Values the manual treats as words are bit vectors; counts are Nat, strengths Int. -/

namespace Sys2Proof.Machine

open Sys2Proof

/-- A timer: stopped, or running with the length it started with (00, Timers). How much of the length has gone by
is not held: its expiry is a command (log 3). -/
abbrev Timer := Option Nat

inductive PartState where
  | starting | ready
deriving DecidableEq, Repr

/-- Audio states (00, Conventions); `openMic` is the manual's OPEN. -/
inductive AudioState where
  | muted | mutedVoice | openMic | openVoice | standby
deriving DecidableEq, Repr

inductive Severity where
  | notice | warning | urgent
deriving DecidableEq, Repr

/-- The nine seat kinds, in kind order (00, Conventions). -/
inductive SeatKind where
  | battery | signalWeak | linkErratic | signalLoss | voiceInMute | openNoFloor | floorMuted | muteChatter
  | formatRefused
deriving DecidableEq, Repr

/-- Origin and kind of a condition or an entry (7.1): a seat with one of the nine seat kinds, or a link, whose kind
is RECEIVER_LINK. -/
inductive Source where
  | seat (i : SeatId) (k : SeatKind)
  | link (l : LinkId)
deriving DecidableEq, Repr

/-- Ring indicator patterns (6.6). -/
inductive Pattern where
  | dark | muteFlash | floorPrompt | batteryFast | floorSteady | batterySlow
deriving DecidableEq, Repr

/-- Desired, carried and confirmed hold (6.6). -/
inductive HoldOrder where
  | free | held
deriving DecidableEq, Repr

inductive MuteHold where
  | none | auto | console
deriving DecidableEq, Repr

inductive SeatState where
  | vacant | awaiting | active | standby | lost | refused
deriving DecidableEq, Repr

inductive LinkState where
  | disabled | down | up | silent | broken
deriving DecidableEq, Repr

inductive BatteryState where
  | ok | low | critical
deriving DecidableEq, Repr

/-- Why a seat is LOST (5.1). LINK carries the link the seat is attributed to, its best link when it was lost
(log 8). -/
inductive LossCause where
  | none | signal | link (l : LinkId)
deriving DecidableEq, Repr

/-- Port roles (9.1). -/
inductive Role where
  | off | monitor | desk | chair
deriving DecidableEq, Repr

/-! ## Conditions and the roster -/

inductive Listing where
  | listed | waiting | quieted
deriving DecidableEq, Repr

/-- The part of a condition's detail that is fixed at its raising (R95, R17): the audio state of a mute condition,
the format level of FORMAT_REFUSED. It is held with the condition, since a WAITING one is listed later (log 7). -/
inductive FixedDetail where
  | none
  | audio (a : AudioState)
  | format (level : Byte)
deriving DecidableEq, Repr

/-- What a RAISED slot holds (1.1). -/
structure Raised where
  severity : Severity
  listing : Listing
  stamp : Stamp
  fixed : FixedDetail
deriving DecidableEq, Repr

/-- A condition slot (1.1, 2.1). -/
inductive Slot where
  | clear
  | qualifying
  | raised (r : Raised)
deriving DecidableEq, Repr

/-- The detail of an entry, by kind (7.1). -/
inductive Detail where
  | battery (level minutes drain : Nat)
  | signalWeak (strength : Int)
  | linkErratic (misses : Nat)
  | signalLoss (start : Stamp) (duration : Option Stamp)
  | audio (a : AudioState)
  | format (level : Byte)
  | link (state : LinkState) (attributed : Nat)
deriving DecidableEq, Repr

/-- Phase of an entry; the ended stamp is present only while ENDED. -/
inductive Phase where
  | live
  | ended (stamp : Stamp)
deriving DecidableEq, Repr

/-- A roster entry (7.1). -/
structure Entry where
  tag : Nat
  source : Source
  severity : Severity
  phase : Phase
  stamp : Stamp
  rank : Nat
  acks : Vector Bool 4
  detail : Detail
deriving DecidableEq, Repr

/-- The Alert Roster block: entries in roster order, counters, the condition slots, the overflow marks. -/
structure Alerts where
  roster : List Entry
  nextTag : Nat
  rankCounter : Nat
  seatSlots : Vector (Vector Slot 9) 192
  linkSlots : Vector Slot 6
  overflow : Vector Bool 4
deriving DecidableEq, Repr

/-! ## Antenna links and merging -/

/-- A frame under assembly (R26, R142). The inter-byte timer runs exactly while the state is not `hunting`. -/
inductive Assembly where
  | hunting
  | started
  | body (length : Nat) (got : List Byte)
deriving DecidableEq, Repr

/-- An ORDER frame (11.2). -/
structure Order where
  radio : RadioId
  tag : BitVec 4
  pattern : Pattern
  hold : HoldOrder
deriving DecidableEq, Repr

/-- A link record (2.1) with its receive and transmit lines. The link condition slot is in `Alerts.linkSlots`. -/
structure LinkRec where
  enable : Bool
  state : LinkState
  offset : Int
  badFrames : Nat
  identity : Option (BitVec 32)
  breakStart : Option Stamp
  lastBreak : Option Nat
  silence : Timer
  slot : Timer
  attributed : Nat
  rx : Assembly
  lineActive : Bool
  breakTimer : Timer
  tx : Option Order
deriving DecidableEq, Repr

/-- An open frame (3.1); its merge window timer runs while it stands in the table, with the length `window`. -/
structure OpenFrame where
  payload : MicPayload
  bestStrength : Int
  bestLink : LinkId
  heard : List LinkId
  window : Nat
deriving DecidableEq, Repr

/-! ## Seats -/

/-- The Seat Table's part of a seat record (1.1). The binding map is the list of the present radio IDs. -/
structure SeatRec where
  radio : Option RadioId
  state : SeatState
  lastBoot : Option (BitVec 8)
  lastFrame : Option (BitVec 16)
  bestLink : Option LinkId
  copies : Nat
  lastAudio : Option AudioState
  lastHeard : Option Stamp
  quiet : Bool
deriving DecidableEq, Repr

/-- A stranger entry (1.3); its aging timer runs while it stands in the list. -/
structure Stranger where
  radio : RadioId
  boot : BitVec 8
  format : Byte
  firstHeard : Stamp
  lastHeard : Stamp
  strength : Int
  aging : Nat
deriving DecidableEq, Repr

/-- The battery section (4.1). -/
structure Battery where
  cls : Fin 4
  level : Option Nat
  ref : Nat
  weighted : Nat
  drain : Nat
  samples : Nat
  minutes : Nat
  lowStreak : Nat
  critStreak : Nat
  status : BatteryState
deriving DecidableEq, Repr

/-- The signal section (5.1). The history is oldest first, `true` for a received slot; the fill count is its
length. -/
structure Signal where
  strength : Option Int
  weakStreak : Nat
  history : List Bool
  lossTimer : Timer
  grace : Timer
  cause : LossCause
  lossStart : Option Stamp
deriving DecidableEq, Repr

/-- The mute section (6.1). -/
structure Mute where
  voiceQualify : Timer
  voiceEnd : Timer
  openGrace : Timer
  floorMutedQualify : Timer
  toggles : Nat
  chatterWindow : Timer
  floor : Bool
  hold : MuteHold
  pattern : Pattern
  order : HoldOrder
deriving DecidableEq, Repr

/-! ## Downlink queue -/

/-- The indicator fields of a seat (1.1, 8). -/
structure SyncRec where
  orderTag : BitVec 4
  confirmed : Option (Pattern × HoldOrder)
  owed : Bool
  stalled : Bool
deriving DecidableEq, Repr

/-- What a SYNC holds once it is IN_FLIGHT (8.1). -/
structure InFlight where
  tag : BitVec 4
  pattern : Pattern
  hold : HoldOrder
  issues : Nat
  window : Timer
  reissueDue : Bool
deriving DecidableEq, Repr

inductive SyncState where
  | queued
  | inFlight (f : InFlight)
deriving DecidableEq, Repr

/-- A queue entry (8.1). -/
inductive QEntry where
  | sync (i : SeatId) (st : SyncState)
  | marker (p : PortId) (number : Nat)
deriving DecidableEq, Repr

/-- Marker counters of a port (8.1). -/
structure Markers where
  next : Nat
  last : Nat
deriving DecidableEq, Repr

/-! ## Console ports, reminders, lamps -/

/-- Completion codes (9.5). -/
inductive Completion where
  | done | clamped | starting | frameError | unknownRequest | notPermitted | badArgument | vacant | seatTaken
  | idTaken | floorFull | stale | sequence | range | queueFull | markLimit | absent
deriving DecidableEq, Repr

/-- A response on a transmit line (9.2). `restarts` marks a RESTART response whose end begins the restart (R148). -/
structure Response where
  code : Byte
  completion : Completion
  overrun : Bool
  result : List Byte
  restarts : Bool
deriving DecidableEq, Repr

/-- Tag state of a port (9.6). -/
inductive TagState where
  | none
  | first (s : SeatId)
  | range (s t : SeatId)
deriving DecidableEq, Repr

/-- A view (9.8): base and limit seat numbers, lowest severity, kind set (bit k−1 for kind k). -/
structure View where
  base : Nat
  limit : Nat
  lowest : Severity
  kinds : BitVec 10
deriving DecidableEq, Repr

/-- A console port (9, 10.1). -/
structure PortRec where
  role : Role
  rx : Assembly
  lineActive : Bool
  inBreak : Bool
  breakTimer : Timer
  response : Option Response
  waiting : Option Arrival
  overrun : Bool
  tag : TagState
  view : View
  mask : Bool
deriving DecidableEq, Repr

/-- Reminder state of a port (10.2); periods in seconds. -/
structure Reminder where
  staged : Nat
  active : Nat
  timer : Timer
deriving DecidableEq, Repr

inductive LampMode where
  | off | on | function
deriving DecidableEq, Repr

inductive LampScope where
  | any
  | unackedBy (p : PortId)
deriving DecidableEq, Repr

/-- The running part of a blink cycle, with its timer's length in tenths. -/
inductive LampPart where
  | lit (length : Nat)
  | dark (length : Nat)
deriving DecidableEq, Repr

/-- The blink cycle (10.3): stopped, or running from its start moment. -/
inductive LampCycle where
  | stopped
  | running (start : Stamp) (part : LampPart)
deriving DecidableEq, Repr

/-- A lamp (10.3). Its output is computed from these fields (R167). -/
structure Lamp where
  mode : LampMode
  lowest : Severity
  scope : LampScope
  activeP : Nat
  activeO : Nat
  stagedP : Nat
  stagedO : Nat
  demanded : Bool
  cycle : LampCycle
deriving DecidableEq, Repr

/-- The parameters of 9.9 but for link enable and signal offset, which are held in the link records. -/
structure Params where
  lossTime : Nat
  weakThreshold : Int
  lowMinutes : Nat
  critMinutes : Nat
  drain : Vector Nat 4
  voiceQualify : Nat
  openGrace : Nat
  floorMutedQualify : Nat
  chatterThreshold : Nat
  autoMute : Bool
  floorLimit : Nat
  mergeWindow : Nat
deriving DecidableEq, Repr

/-- The state of the part. -/
structure State where
  part : PartState
  clock : Stamp
  initTimer : Timer
  params : Params
  links : Vector LinkRec 6
  openFrames : List OpenFrame
  seats : Vector SeatRec 192
  strangers : List Stranger
  battery : Vector Battery 192
  signal : Vector Signal 192
  mute : Vector Mute 192
  floorCount : Nat
  alerts : Alerts
  attention : Vector Bool 4
  queue : List QEntry
  syncs : Vector SyncRec 192
  markers : Vector Markers 4
  ports : Vector PortRec 4
  reminders : Vector Reminder 4
  lamps : Vector Lamp 4
  pending : List Instr
  rxInput : List LineInput
deriving DecidableEq, Repr

/-- Why the part stops: the manual names nothing that stops it, so there is no constructor. -/
inductive Fault where
deriving DecidableEq, Repr

/-- Why a command has no meaning. -/
inductive Refusal where
  /-- Raised by `exec` for a command not modelled yet (none is). Safe: nothing is claimed of it. -/
  | notModelled (mnemonic : String)
deriving DecidableEq, Repr

/-! ## Values after power-on -/

/-- The empty set of ports. -/
def noPorts : Vector Bool 4 := Vector.replicate 4 false

/-- The Seat Table fields of R1. -/
def SeatRec.vacant : SeatRec where
  radio := none
  state := .vacant
  lastBoot := none
  lastFrame := none
  bestLink := none
  copies := 0
  lastAudio := none
  lastHeard := none
  quiet := false

/-- The battery section of R53, with the default drain of class 0 in force. -/
def Battery.fresh (drain0 : Nat) : Battery where
  cls := 0
  level := none
  ref := 0
  weighted := 0
  drain := drain0
  samples := 0
  minutes := 0
  lowStreak := 0
  critStreak := 0
  status := .ok

/-- The signal section of R70. -/
def Signal.fresh : Signal where
  strength := none
  weakStreak := 0
  history := []
  lossTimer := none
  grace := none
  cause := .none
  lossStart := none

/-- The mute section of R87. -/
def Mute.fresh : Mute where
  voiceQualify := none
  voiceEnd := none
  openGrace := none
  floorMutedQualify := none
  toggles := 0
  chatterWindow := none
  floor := false
  hold := .none
  pattern := .dark
  order := .free

/-- The indicator fields of R1. -/
def SyncRec.fresh : SyncRec where
  orderTag := 0
  confirmed := none
  owed := false
  stalled := false

/-- The nine CLEAR slots of R1. -/
def clearSlots : Vector Slot 9 := Vector.replicate 9 .clear

/-- A link record of R23. The receive line is idle (log 10). -/
def LinkRec.initial : LinkRec where
  enable := true
  state := .down
  offset := 0
  badFrames := 0
  identity := none
  breakStart := none
  lastBreak := none
  silence := none
  slot := none
  attributed := 0
  rx := .hunting
  lineActive := false
  breakTimer := none
  tx := none

/-- The roster block of R104, with every slot CLEAR (R1, R23). -/
def Alerts.initial : Alerts where
  roster := []
  nextTag := 1
  rankCounter := 0
  seatSlots := Vector.replicate 192 clearSlots
  linkSlots := Vector.replicate 6 .clear
  overflow := noPorts

/-- The view of R147; an OFF port's is disabled, with base above limit (log 9). -/
def View.initial (role : Role) : View :=
  if role = .off then { base := 192, limit := 1, lowest := .notice, kinds := BitVec.allOnes 10 }
  else { base := 1, limit := 192, lowest := .notice, kinds := BitVec.allOnes 10 }

/-- A port after power-on (R147). The receive line is idle (log 10). -/
def PortRec.initial (role : Role) : PortRec where
  role := role
  rx := .hunting
  lineActive := false
  inBreak := false
  breakTimer := none
  response := none
  waiting := none
  overrun := false
  tag := .none
  view := View.initial role
  mask := false

/-- Marker counters after power-on and RESTART (R128). -/
def Markers.initial : Markers where
  next := 1
  last := 0

/-- Reminder state after power-on (R165). -/
def Reminder.initial : Reminder where
  staged := 0
  active := 0
  timer := none

/-- A lamp after power-on (R169). -/
def Lamp.initial : Lamp where
  mode := .off
  lowest := .notice
  scope := .any
  activeP := 10
  activeO := 5
  stagedP := 10
  stagedO := 5
  demanded := false
  cycle := .stopped

/-- The parameter defaults of 9.9. -/
def Params.initial : Params where
  lossTime := 12
  weakThreshold := -85
  lowMinutes := 30
  critMinutes := 8
  drain := Config.defaultDrain
  voiceQualify := 20
  openGrace := 10
  floorMutedQualify := 50
  chatterThreshold := 6
  autoMute := false
  floorLimit := 4
  mergeWindow := 6

/-- The part right after power-on, for the roles the straps give (R147). -/
def State.afterPowerOn (roles : Vector Role 4) : State where
  part := .starting
  clock := 0
  initTimer := some Config.initMs
  params := Params.initial
  links := Vector.replicate 6 LinkRec.initial
  openFrames := []
  seats := Vector.replicate 192 SeatRec.vacant
  strangers := []
  battery := Vector.replicate 192 (Battery.fresh Params.initial.drain[0])
  signal := Vector.replicate 192 Signal.fresh
  mute := Vector.replicate 192 Mute.fresh
  floorCount := 0
  alerts := Alerts.initial
  attention := noPorts
  queue := []
  syncs := Vector.replicate 192 SyncRec.fresh
  markers := Vector.replicate 4 Markers.initial
  ports := roles.map PortRec.initial
  reminders := Vector.replicate 4 Reminder.initial
  lamps := Vector.replicate 4 Lamp.initial
  pending := []
  rxInput := []

/-- The part right after reset. The roles are those of 7.9, ports 0 to 3 CHAIR, DESK, MONITOR, OFF: the manual
gives none without the board's straps (DESIGN CHOICE, log 1). -/
def State.reset : State := State.afterPowerOn #v[.chair, .desk, .monitor, .off]

end Sys2Proof.Machine
end

