-- ==== Sys2Proof/Machine/Ops.lean ====
section
/-! DEFINITION. Named operations over the blocks of the state: reading and writing one record, slots, attention,
orders of severities, kinds and stamps. -/

namespace Sys2Proof.Machine

open Sys2Proof

/-! ## Orders and numbers -/

/-- The number of a severity (00, Severities). -/
def Severity.num : Severity → Nat
  | .notice => 1
  | .warning => 2
  | .urgent => 3

/-- The position of a seat kind in the kind order, less 1. -/
def SeatKind.idx : SeatKind → Fin 9
  | .battery => 0
  | .signalWeak => 1
  | .linkErratic => 2
  | .signalLoss => 3
  | .voiceInMute => 4
  | .openNoFloor => 5
  | .floorMuted => 6
  | .muteChatter => 7
  | .formatRefused => 8

/-- The nine seat kinds in kind order. -/
def seatKinds : List SeatKind :=
  [.battery, .signalWeak, .linkErratic, .signalLoss, .voiceInMute, .openNoFloor, .floorMuted, .muteChatter,
    .formatRefused]

/-- The kind's position in the kind order, 1 to 10. -/
def Source.kindNum : Source → Nat
  | .seat _ k => k.idx.val + 1
  | .link _ => 10

/-- The seat an entry or condition is about, if any. -/
def Source.seat? : Source → Option SeatId
  | .seat i _ => some i
  | .link _ => none

/-- How old a stamp is: the greater, the older (00, Time). -/
def age (clock stamp : Stamp) : Nat := (clock - stamp).toNat

/-- The seats in number order, and the links and ports in theirs. -/
def allSeats : List SeatId := List.finRange 192
def allLinks : List LinkId := List.finRange 6
def allPorts : List PortId := List.finRange 4
def allLamps : List LampId := List.finRange 4

/-- A live audio state (00, Audio states). -/
def AudioState.isLive : AudioState → Bool
  | .openMic | .openVoice => true
  | _ => false

/-- A state of the muted group (00, Audio states). -/
def AudioState.isMuted : AudioState → Bool
  | .muted | .mutedVoice => true
  | _ => false

/-- A value brought into `lo..hi` (9.9). -/
def clampInt (lo hi v : Int) : Int := max lo (min hi v)

/-- A count that stops at a limit. -/
def satSucc (limit n : Nat) : Nat := min limit (n + 1)

/-! ## One record of a block -/

def State.modLink (s : State) (l : LinkId) (f : LinkRec → LinkRec) : State :=
  { s with links := s.links.set l (f s.links[l]) }

def State.modSeat (s : State) (i : SeatId) (f : SeatRec → SeatRec) : State :=
  { s with seats := s.seats.set i (f s.seats[i]) }

def State.modBattery (s : State) (i : SeatId) (f : Battery → Battery) : State :=
  { s with battery := s.battery.set i (f s.battery[i]) }

def State.modSignal (s : State) (i : SeatId) (f : Signal → Signal) : State :=
  { s with signal := s.signal.set i (f s.signal[i]) }

def State.modMute (s : State) (i : SeatId) (f : Mute → Mute) : State :=
  { s with mute := s.mute.set i (f s.mute[i]) }

def State.modSync (s : State) (i : SeatId) (f : SyncRec → SyncRec) : State :=
  { s with syncs := s.syncs.set i (f s.syncs[i]) }

def State.modMarkers (s : State) (p : PortId) (f : Markers → Markers) : State :=
  { s with markers := s.markers.set p (f s.markers[p]) }

def State.modPort (s : State) (p : PortId) (f : PortRec → PortRec) : State :=
  { s with ports := s.ports.set p (f s.ports[p]) }

def State.modReminder (s : State) (p : PortId) (f : Reminder → Reminder) : State :=
  { s with reminders := s.reminders.set p (f s.reminders[p]) }

def State.modLamp (s : State) (m : LampId) (f : Lamp → Lamp) : State :=
  { s with lamps := s.lamps.set m (f s.lamps[m]) }

/-! ## Slots, roster, attention -/

/-- The condition slot of an origin and kind. -/
def Alerts.slot (a : Alerts) : Source → Slot
  | .seat i k => a.seatSlots[i][k.idx]
  | .link l => a.linkSlots[l]

/-- Writes one condition slot. -/
def Alerts.setSlot (a : Alerts) (src : Source) (x : Slot) : Alerts :=
  match src with
  | .seat i k => { a with seatSlots := a.seatSlots.set i (a.seatSlots[i].set k.idx x) }
  | .link l => { a with linkSlots := a.linkSlots.set l x }

/-- The condition slot of an origin and kind in the state. -/
abbrev State.slot (s : State) (src : Source) : Slot := s.alerts.slot src

def State.setSlot (s : State) (src : Source) (x : Slot) : State :=
  { s with alerts := s.alerts.setSlot src x }

def State.setRoster (s : State) (r : List Entry) : State :=
  { s with alerts := { s.alerts with roster := r } }

/-- What the slot holds while RAISED. -/
def Slot.raised? : Slot → Option Raised
  | .raised r => some r
  | _ => none

/-- The slot is RAISED. -/
def Slot.isRaised (x : Slot) : Bool := x.raised?.isSome

/-- The slot is QUALIFYING. -/
def Slot.isQualifying : Slot → Bool
  | .qualifying => true
  | _ => false

/-- The severity of a RAISED slot. -/
def Slot.severity? (x : Slot) : Option Severity := x.raised?.map (·.severity)

/-- Rewrites what a RAISED slot holds. -/
def Slot.mapRaised (f : Raised → Raised) : Slot → Slot
  | .raised r => .raised (f r)
  | x => x

/-- Sets the listing of a RAISED condition. -/
def State.setListing (s : State) (src : Source) (l : Listing) : State :=
  s.setSlot src ((s.slot src).mapRaised fun r => { r with listing := l })

/-- Sets attention pending on the ports `f` names (R159); a flag already set stays set. -/
def State.attend (s : State) (f : PortId → Bool) : State :=
  { s with attention := Vector.ofFn fun p => f p || s.attention[p] }

/-- Clears attention pending of a port (R160). -/
def State.clearAttention (s : State) (p : PortId) : State :=
  { s with attention := s.attention.set p false }

/-- The entry is ENDED. -/
def Entry.isEnded (e : Entry) : Bool :=
  match e.phase with
  | .live => false
  | .ended _ => true

/-- The seat has a bound microphone (R4). -/
def State.bound (s : State) (i : SeatId) : Bool := s.seats[i].state != .vacant

/-- The seat with the radio ID, if one is bound to it (R3, R4). -/
def State.seatOf (s : State) (r : RadioId) : Option SeatId :=
  allSeats.find? fun i => s.seats[i].radio == some r

end Sys2Proof.Machine
end

