-- ==== Sys2Proof/Machine/Flags.lean ====
section
/-! DEFINITION. Due sets, overflow marks, the attention line, reminders and lamps: what is computed from the roster
and the views (7.2, 7.3, chapter 10). -/

namespace Sys2Proof.Machine

open Sys2Proof

/-! ## Due (R107) -/

/-- The view admits a condition of this origin, kind and severity (R107). -/
def View.admits (v : View) (src : Source) (sev : Severity) : Bool :=
  decide (v.base ≤ v.limit) &&
  (match src with
    | .seat i _ => decide (v.base ≤ seatNumber i) && decide (seatNumber i ≤ v.limit)
    | .link _ => true) &&
  decide (v.lowest.num ≤ sev.num) && v.kinds.getLsbD (src.kindNum - 1)

/-- A condition or entry of this origin, kind and severity is due to the port (R107). -/
def State.dueTo (s : State) (p : PortId) (src : Source) (sev : Severity) : Bool :=
  s.ports[p].role != .off && s.ports[p].view.admits src sev

/-- The entry is due to the port. -/
def State.due (s : State) (p : PortId) (e : Entry) : Bool := s.dueTo p e.source e.severity

/-- The entry is due to the port and the port has not acknowledged it (R108). -/
def State.dueUnacked (s : State) (p : PortId) (e : Entry) : Bool := s.due p e && !e.acks[p]

/-- Every port the entry is due to is in its ack set (R108). -/
def State.fullyAcked (s : State) (e : Entry) : Bool := allPorts.all fun p => !s.due p e || e.acks[p]

/-! ## Overflow marks (R114) -/

/-- Sets the overflow mark of every port to which the condition is due; a mark that goes from clear to set sets the
port's attention pending (R114, R159). -/
def State.markOverflow (s : State) (src : Source) (sev : Severity) : State :=
  { s with
    alerts := { s.alerts with overflow := Vector.ofFn fun p => s.dueTo p src sev || s.alerts.overflow[p] }
    attention := Vector.ofFn fun p => (s.dueTo p src sev && !s.alerts.overflow[p]) || s.attention[p] }

/-! ## The attention line (R161) -/

/-- The attention line of a port: active while its role is not OFF, attention is pending and the mask is off. -/
def State.attentionLine (s : State) (p : PortId) : Bool :=
  s.ports[p].role != .off && s.attention[p] && !s.ports[p].mask

/-! ## Reminders (R162) -/

/-- The reminder condition: the active period is not 0, and an entry of WARNING or above is due and
unacknowledged. -/
def State.remindCondition (s : State) (p : PortId) : Bool :=
  s.reminders[p].active != 0 &&
    s.alerts.roster.any fun e => s.dueUnacked p e && decide (2 ≤ e.severity.num)

/-- Starts or stops a reminder timer by its condition. -/
def Reminder.evaluate (r : Reminder) (condition : Bool) : Reminder :=
  match r.timer, condition with
  | none, true => { r with timer := some (10 * r.active) }
  | some _, false => { r with timer := none, active := r.staged }
  | _, _ => r

/-- The evaluation of every port's reminder condition at the end of an event (R162). -/
def State.evalReminders (s : State) : State :=
  { s with reminders := Vector.ofFn fun p => s.reminders[p].evaluate (s.remindCondition p) }

/-! ## Lamps (R166 to R168) -/

/-- The active values make a demanded lamp blink: 0 < O < P (10.3). -/
def Lamp.blinks (m : Lamp) : Bool := decide (0 < m.activeO) && decide (m.activeO < m.activeP)

/-- The lamp is blinking (10.3). -/
def Lamp.blinking (m : Lamp) : Bool := m.demanded && m.blinks

/-- An entry matches the lamp's selector (R166). -/
def State.lampMatches (s : State) (m : Lamp) (e : Entry) : Bool :=
  decide (m.lowest.num ≤ e.severity.num) &&
    match m.scope with
    | .any => true
    | .unackedBy p => s.dueUnacked p e

/-- The demand of a lamp (R166). -/
def State.lampDemand (s : State) (m : Lamp) : Bool :=
  match m.mode with
  | .off => false
  | .on => true
  | .function => s.alerts.roster.any fun e => s.lampMatches m e

/-- A cycle that starts now, with the lit part (R167). -/
def Lamp.freshCycle (m : Lamp) (clock : Stamp) : LampCycle :=
  if m.blinks then .running clock (.lit m.activeO) else .stopped

/-- The lamp's cycle while it is demanded: it runs on if it ran, and starts if the active values blink. -/
def Lamp.keepCycle (m : Lamp) (clock : Stamp) : LampCycle :=
  match m.cycle with
  | .stopped => m.freshCycle clock
  | .running start part => if m.blinks then .running start part else .stopped

/-- The lamp follows its demand: a lamp that is not demanded stops its cycle and takes its staged values at once
(R167, R168). -/
def Lamp.follow (m : Lamp) (clock : Stamp) (demand : Bool) : Lamp :=
  if demand then { m with demanded := true, cycle := m.keepCycle clock }
  else { m with demanded := false, cycle := .stopped, activeP := m.stagedP, activeO := m.stagedO }

/-- The evaluation of every lamp's demand at the end of an event (R166). -/
def State.evalLamps (s : State) : State :=
  { s with lamps := s.lamps.map fun m => m.follow s.clock (s.lampDemand m) }

/-- The output of a lamp, `true` for lit (R167). -/
def Lamp.output (m : Lamp) : Bool :=
  if !m.demanded || m.activeO == 0 then false
  else if m.activeP ≤ m.activeO then true
  else match m.cycle with
    | .running _ (.lit _) => true
    | _ => false

/-- The end of an event that can change the roster, the ack sets or the views: reminders and lamps are evaluated
(R162, R166). -/
def State.evalOutputs (s : State) : State := s.evalReminders.evalLamps

end Sys2Proof.Machine
end

