-- ==== Sys2Proof/Machine/Roster.lean ====
section
/-! DEFINITION. The Alert Roster (chapter 7): tags, ranks, listing attempts, supersession, displacement, escalation,
ending, removal, re-listing, and the quiet flag's clearing (R12). -/

namespace Sys2Proof.Machine

open Sys2Proof

/-! ## Details (7.1) -/

/-- The number of missed slots of a reception history (5.4). -/
def misses (h : List Bool) : Nat := h.count false

/-- The audio state or format level fixed at the raising of a condition (R95, R17). -/
def State.fixedOf (s : State) (src : Source) : FixedDetail :=
  match s.slot src with
  | .raised r => r.fixed
  | _ => .none

/-- The detail an audio or format condition was raised with. -/
def FixedDetail.toDetail : FixedDetail → Detail
  | .none => .audio .muted
  | .audio a => .audio a
  | .format f => .format f

/-- The evaluator's values for the detail of a condition, as they stand (7.1, R109). -/
def State.detailOf (s : State) (src : Source) : Detail :=
  match src with
  | .seat i k =>
    match k with
    | .battery => .battery ((s.battery[i].level).getD 0) s.battery[i].minutes s.battery[i].drain
    | .signalWeak => .signalWeak ((s.signal[i].strength).getD 0)
    | .linkErratic => .linkErratic (misses s.signal[i].history)
    | .signalLoss => .signalLoss ((s.signal[i].lossStart).getD 0) none
    | .voiceInMute | .openNoFloor | .floorMuted | .muteChatter | .formatRefused => (s.fixedOf src).toDetail
  | .link l => .link s.links[l].state s.links[l].attributed

/-- Escalation rewrites the detail of BATTERY and RECEIVER_LINK only (R115). -/
def Source.detailAtEscalation : Source → Bool
  | .seat _ .battery => true
  | .seat _ _ => false
  | .link _ => true

/-- Rewrites the LIVE entry of a condition (R126). -/
def State.mapLive (s : State) (src : Source) (f : Entry → Entry) : State :=
  s.setRoster (s.alerts.roster.map fun e => if e.source = src ∧ e.phase = .live then f e else e)

/-- Refreshes the detail of the LIVE entry of a condition from its evaluator's values (R126). -/
def State.refresh (s : State) (src : Source) : State :=
  s.mapLive src fun e => { e with detail := s.detailOf src }

/-! ## Tags and ranks (R105, R106) -/

/-- The value after a tag, 65535 being followed by 1. -/
def succTag (t : Nat) : Nat := if t < Config.maxTag then t + 1 else 1

/-- The first value from `t` on that no present entry holds, in at most `fuel` tries. -/
def freeTag (used : List Nat) : Nat → Nat → Nat
  | 0, t => t
  | fuel + 1, t => if used.contains t then freeTag used fuel (succTag t) else t

/-- The tag the next entry takes (R105). -/
def Alerts.newTag (a : Alerts) : Nat :=
  freeTag (a.roster.map (·.tag)) (Config.rosterSize + 1) a.nextTag

/-- Ranks 1 to n given in roster order (R106). -/
def renumber : Nat → List Entry → List Entry
  | _, [] => []
  | n, e :: es => { e with rank := n } :: renumber (n + 1) es

/-- Makes room for one more rank: at 4,294,967,295 the present entries are first renumbered (R106). -/
def Alerts.beforeRank (a : Alerts) : Alerts :=
  if a.rankCounter < Config.maxRank then a
  else { a with roster := renumber 1 a.roster, rankCounter := a.roster.length }

/-- The place of a new or escalated entry: behind every entry of its severity or above (R106). -/
def insertEntry (e : Entry) : List Entry → List Entry
  | [] => [e]
  | x :: xs => if x.severity.num < e.severity.num then e :: x :: xs else x :: insertEntry e xs

/-! ## Creation, removal, escalation -/

/-- Creates the entry of a RAISED condition at the tail of its severity, makes the condition LISTED, and sets
attention on every port it is due to (R109, R159). -/
def State.createEntry (s : State) (src : Source) (r : Raised) : State :=
  let a := s.alerts.beforeRank
  let e : Entry :=
    { tag := a.newTag, source := src, severity := r.severity, phase := .live, stamp := r.stamp,
      rank := a.rankCounter + 1, acks := noPorts, detail := s.detailOf src }
  let s1 := { s with alerts :=
    { a with roster := insertEntry e a.roster, nextTag := succTag a.newTag, rankCounter := a.rankCounter + 1 } }
  (s1.setListing src .listed).attend fun p => s.dueTo p src r.severity

/-- Takes the entry of an origin and kind out of the roster; its tag is released (R118). -/
def State.dropEntry (s : State) (src : Source) : State :=
  s.setRoster (s.alerts.roster.filter fun e => e.source != src)

/-- `b` gives way before `a` does, among candidates for displacement (R111): an ENDED entry of oldest rank first,
else the lowest severity and, among equals, the newest rank. -/
def Entry.yieldsBefore (b a : Entry) : Bool :=
  match b.isEnded, a.isEnded with
  | true, true => decide (b.rank < a.rank)
  | true, false => true
  | false, true => false
  | false, false =>
    decide (b.severity.num < a.severity.num) || (decide (b.severity = a.severity) && decide (a.rank < b.rank))

/-- The victim for a condition of severity `sev`: among the entries of lower severity, the first to give way
(R111). -/
def findVictim (sev : Severity) (roster : List Entry) : Option Entry :=
  (roster.filter fun e => decide (e.severity.num < sev.num)).foldl
    (fun best e => match best with
      | none => some e
      | some a => if e.yieldsBefore a then some e else some a) none

/-- The quiet flag of a condition's origin; a link cannot be quiet (2.1). -/
def State.isQuiet (s : State) (src : Source) : Bool :=
  match src with
  | .seat i _ => s.seats[i].quiet
  | .link _ => false

/-- A victim leaves the roster: overflow marks are set for it, and a LIVE victim's condition becomes WAITING, or
QUIETED on a quiet seat (R112, R114). -/
def State.displace (s : State) (v : Entry) : State :=
  let s1 := (s.markOverflow v.source v.severity).dropEntry v.source
  if v.isEnded then s1
  else s1.setListing v.source (if s.isQuiet v.source then .quieted else .waiting)

/-- A listing attempt for a RAISED condition (R109 to R113): supersession, a free place, a victim, or WAITING. A
supersession by a lower severity while another condition waits is taken as R110 gives, with no re-listing (log 26). -/
def State.attempt (s : State) (src : Source) : State :=
  match s.slot src with
  | .raised r =>
    if s.alerts.roster.any fun e => e.source == src && e.isEnded then (s.dropEntry src).createEntry src r
    else if s.alerts.roster.length < Config.rosterSize then s.createEntry src r
    else
      match findVictim r.severity s.alerts.roster with
      | some v => (s.displace v).createEntry src r
      | none => (s.setListing src .waiting).markOverflow src r.severity
  | _ => s

/-- Raises a condition: on a quiet seat it is QUIETED, else a listing attempt is made (R11, R109). -/
def State.raise (s : State) (src : Source) (sev : Severity) (fixed : FixedDetail) : State :=
  if s.isQuiet src then s.setSlot src (.raised ⟨sev, .quieted, s.clock, fixed⟩)
  else (s.setSlot src (.raised ⟨sev, .waiting, s.clock, fixed⟩)).attempt src

/-- The LISTED entry of a condition takes a new severity and a new rank, its ack set emptied (R115). -/
def State.escalateEntry (s : State) (src : Source) (sev : Severity) : State :=
  let a := s.alerts.beforeRank
  match a.roster.find? fun e => e.source == src with
  | some e =>
    let e' : Entry :=
      { e with severity := sev, rank := a.rankCounter + 1, acks := noPorts,
               detail := if src.detailAtEscalation then s.detailOf src else e.detail }
    ({ s with alerts :=
        { a with roster := insertEntry e' (a.roster.filter fun x => x.source != src),
                 rankCounter := a.rankCounter + 1 } }).attend fun p => s.dueTo p src sev
  | none => s

/-- Escalates a RAISED condition (R115, R116). -/
def State.escalate (s : State) (src : Source) (sev : Severity) : State :=
  match s.slot src with
  | .raised r =>
    let s1 := s.setSlot src (.raised { r with severity := sev })
    match r.listing with
    | .listed => s1.escalateEntry src sev
    | .waiting => s1.attempt src
    | .quieted => s1
  | _ => s

/-! ## Re-listing (R119) -/

/-- Every WAITING condition, seats by number and kind order, then links by number. -/
def State.waitingList (s : State) : List (Source × Raised) :=
  let sources := (allSeats.flatMap fun i => seatKinds.map fun k => Source.seat i k) ++ allLinks.map Source.link
  sources.filterMap fun src =>
    match s.slot src with
    | .raised r => if r.listing = .waiting then some (src, r) else none
    | _ => none

/-- `b` comes before `a` in listing order: higher severity, then the older raised stamp (R12, R119). -/
def Raised.before (clock : Stamp) (b a : Raised) : Bool :=
  decide (a.severity.num < b.severity.num) ||
    (decide (a.severity = b.severity) && decide (age clock a.stamp < age clock b.stamp))

/-- The first waiting condition in re-listing order (R119). -/
def State.firstWaiting (s : State) : Option (Source × Raised) :=
  s.waitingList.foldl
    (fun best c => match best with
      | none => some c
      | some b => if c.2.before s.clock b.2 then some c else some b) none

/-- The re-listing that follows a removal (R119). -/
def State.relist (s : State) : State :=
  match s.firstWaiting with
  | some (src, _) => s.attempt src
  | none => s

/-- The removal test on the entry of an origin and kind: an ENDED entry that is NOTICE or fully acknowledged is
removed, with one re-listing (R118, R119). -/
def State.removalTest (s : State) (src : Source) : State :=
  match s.alerts.roster.find? fun e => e.source == src with
  | some e =>
    if e.isEnded && (decide (e.severity = .notice) || s.fullyAcked e) then (s.dropEntry src).relist else s
  | none => s

/-- The removal test on several entries, in order. -/
def State.removalTests (s : State) (srcs : List Source) : State := srcs.foldl State.removalTest s

/-- Ends a RAISED condition (R117): its slot becomes CLEAR; a LISTED one's entry becomes ENDED and is tested for
removal. -/
def State.endCondition (s : State) (src : Source) : State :=
  match s.slot src with
  | .raised r =>
    let s1 := s.setSlot src .clear
    match r.listing with
    | .listed => (s1.mapLive src fun e => { e with phase := .ended s.clock }).removalTest src
    | .waiting | .quieted => s1
  | _ => s

/-- Ends a RAISED condition, or cancels a QUALIFYING one back to CLEAR (R16). -/
def State.endOrCancel (s : State) (src : Source) : State :=
  match s.slot src with
  | .raised _ => s.endCondition src
  | .qualifying => s.setSlot src .clear
  | .clear => s

/-- Removes every entry whose origin is the seat, in roster order, each with a re-listing (R120). -/
def State.removeSeatEntries (s : State) (i : SeatId) : State :=
  ((s.alerts.roster.filter fun e => e.source.seat? == some i).map (·.source)).foldl
    (fun t src => (t.dropEntry src).relist) s

/-! ## The quiet flag (R10 to R12) -/

/-- Puts a QUIETED condition in its place among others: those that come before it, or equal ones met earlier, stay
ahead (R12). -/
def insertByOrder (clock : Stamp) (c : Source × Raised) : List (Source × Raised) → List (Source × Raised)
  | [] => [c]
  | x :: xs => if c.2.before clock x.2 then c :: x :: xs else x :: insertByOrder clock c xs

/-- The seat's QUIETED conditions in the order of their listing attempts (R12). -/
def State.quietedList (s : State) (i : SeatId) : List (Source × Raised) :=
  (seatKinds.filterMap fun k =>
    match s.slot (.seat i k) with
    | .raised r => if r.listing = .quieted then some (Source.seat i k, r) else none
    | _ => none).foldl (fun acc c => insertByOrder s.clock c acc) []

/-- Every condition of the seat with one listing takes another. -/
def State.relabel (s : State) (i : SeatId) (old new : Listing) : State :=
  { s with alerts := { s.alerts with
      seatSlots := s.alerts.seatSlots.set i
        (s.alerts.seatSlots[i].map (Slot.mapRaised fun r => if r.listing = old then { r with listing := new } else r)) } }

/-- Sets the quiet flag: WAITING conditions of the seat become QUIETED (R11). -/
def State.setQuiet (s : State) (i : SeatId) : State :=
  (s.modSeat i fun q => { q with quiet := true }).relabel i .waiting .quieted

/-- Clears the quiet flag: QUIETED conditions become WAITING, and one listing attempt is made for each (R12). -/
def State.clearQuiet (s : State) (i : SeatId) : State :=
  if s.seats[i].quiet then
    (s.quietedList i).foldl (fun t c => t.attempt c.1)
      ((s.modSeat i fun q => { q with quiet := false }).relabel i .quieted .waiting)
  else s

end Sys2Proof.Machine
end

