-- ==== Sys2Proof/Machine/Downlink.lean ====
section
/-! DEFINITION. The Downlink Queue (chapter 8): SYNC requests, issue and reissue, confirmation, entries leaving,
owed service, markers. -/

namespace Sys2Proof.Machine

open Sys2Proof

/-- The entry is a QUEUED SYNC of the seat. -/
def QEntry.isQueuedOf (i : SeatId) : QEntry → Bool
  | .sync j .queued => j == i
  | _ => false

/-- What the entry holds as an IN_FLIGHT SYNC of the seat. -/
def QEntry.inFlightOf? (i : SeatId) : QEntry → Option InFlight
  | .sync j (.inFlight f) => if j = i then some f else none
  | _ => none

/-- The entry is an IN_FLIGHT SYNC of the seat. -/
def QEntry.isInFlightOf (i : SeatId) (e : QEntry) : Bool := (e.inFlightOf? i).isSome

/-- The entry is a marker of the port. -/
def QEntry.isMarkerOf (p : PortId) : QEntry → Bool
  | .marker q _ => q == p
  | _ => false

/-- The seat holds a QUEUED SYNC. -/
def State.hasQueued (s : State) (i : SeatId) : Bool := s.queue.any (·.isQueuedOf i)

/-- The seat's IN_FLIGHT SYNC, if any. -/
def State.inFlight (s : State) (i : SeatId) : Option InFlight := s.queue.findSome? (·.inFlightOf? i)

/-! ## Asking for a SYNC (R129) -/

/-- A SYNC request for a seat, taken in the first of the four ways that applies (R129). -/
def State.requestSync (s : State) (i : SeatId) : State :=
  if s.seats[i].state ≠ .active then s.modSync i fun y => { y with owed := true }
  else if s.hasQueued i then s.modSync i fun y => { y with owed := false }
  else if Config.queueSize ≤ s.queue.length then s.modSync i fun y => { y with owed := true }
  else ({ s with queue := s.queue ++ [QEntry.sync i .queued] }).modSync i fun y => { y with owed := false }

/-! ## An entry leaving (R130, R139) -/

/-- The seat may be given owed service: ACTIVE, owed, no QUEUED SYNC, and not the seat passed over (R130, R137). -/
def State.owedSeat (s : State) (skip : Option SeatId) (i : SeatId) : Bool :=
  s.seats[i].state == .active && s.syncs[i].owed && !s.hasQueued i && skip != some i

/-- Owed service: the lowest-numbered seat that qualifies is given one SYNC request (R130, step 2). -/
def State.serveOwed (s : State) (skip : Option SeatId) : State :=
  match allSeats.find? fun i => s.owedSeat skip i with
  | some i => s.requestSync i
  | none => s

/-- A marker completes: last completed marker and attention (R139, steps 1 and 2). -/
def State.completeMarker (s : State) (p : PortId) (n : Nat) : State :=
  (s.modMarkers p fun m => { m with last := n }).attend fun q => q == p

/-- The two steps taken each time an entry has left the queue (R130); a marker that now stands first completes and
leaves in turn. `fuel` bounds the markers that can complete. -/
def State.afterLeave (skip : Option SeatId) : Nat → State → State
  | 0, s => s.serveOwed skip
  | fuel + 1, s =>
    match s.queue with
    | .marker p n :: rest =>
      (State.afterLeave skip fuel ({ s with queue := rest }.completeMarker p n)).serveOwed skip
    | _ => s.serveOwed skip

/-- The first entry that `f` names leaves the queue, with the steps of R130. -/
def State.leave (s : State) (skip : Option SeatId) (f : QEntry → Bool) : State :=
  if s.queue.any f then
    let rest := s.queue.eraseP f
    State.afterLeave skip rest.length { s with queue := rest }
  else s

/-- Every SYNC of the seat leaves without confirmation: the IN_FLIGHT one, then the QUEUED one; the owed service
passes over the seat (R137). -/
def State.dropSyncs (s : State) (i : SeatId) : State :=
  (s.leave (some i) (·.isInFlightOf i)).leave (some i) (·.isQueuedOf i)

/-! ## Issue (R131 to R133) -/

/-- The link is the seat's best link. -/
def State.heardBestOn (s : State) (i : SeatId) (l : LinkId) : Bool := s.seats[i].bestLink == some l

/-- An IN_FLIGHT SYNC with reissue due whose seat is best heard on the link (R131, 1). -/
def State.reissueFor (s : State) (l : LinkId) : QEntry → Option (SeatId × InFlight)
  | .sync i (.inFlight f) => if f.reissueDue && s.heardBestOn i l then some (i, f) else none
  | _ => none

/-- A QUEUED SYNC whose seat is best heard on the link and holds no IN_FLIGHT SYNC (R131, 2). -/
def State.firstIssueFor (s : State) (l : LinkId) : QEntry → Option SeatId
  | .sync i .queued => if s.heardBestOn i l && (s.inFlight i).isNone then some i else none
  | _ => none

/-- Replaces the first entry that `f` names. -/
def replaceFirst (f : QEntry → Bool) (e : QEntry) : List QEntry → List QEntry
  | [] => []
  | x :: xs => if f x then e :: xs else x :: replaceFirst f e xs

/-- The ORDER frame of an IN_FLIGHT SYNC goes out on the link's downlink (R132, R133, R39). -/
def State.sendOrder (s : State) (l : LinkId) (i : SeatId) (f : InFlight) : State :=
  let o : Order := ⟨(s.seats[i].radio).getD 0, f.tag, f.pattern, f.hold⟩
  s.modLink l fun r => { r with tx := some o }

/-- The first issue of the seat's QUEUED SYNC in a slot of the link (R132). -/
def State.firstIssue (s : State) (l : LinkId) (i : SeatId) : State :=
  let tag := s.syncs[i].orderTag + 1
  let f : InFlight :=
    { tag := tag, pattern := s.mute[i].pattern, hold := s.mute[i].order, issues := 1,
      window := some Config.syncWindowMs, reissueDue := false }
  ({ s with queue := replaceFirst (·.isQueuedOf i) (.sync i (.inFlight f)) s.queue }.modSync i
    fun y => { y with orderTag := tag }).sendOrder l i f

/-- The reissue of the seat's IN_FLIGHT SYNC in a slot of the link (R133). -/
def State.reissue (s : State) (l : LinkId) (i : SeatId) (f : InFlight) : State :=
  let f' : InFlight :=
    { f with issues := f.issues + 1, window := some Config.syncWindowMs, reissueDue := false }
  ({ s with queue := replaceFirst (·.isInFlightOf i) (.sync i (.inFlight f')) s.queue }).sendOrder l i f'

/-- The queue's choice for a slot of the link: a reissue, a first issue, or nothing (R131). -/
def State.openSlot (s : State) (l : LinkId) : State :=
  match s.queue.findSome? (s.reissueFor l) with
  | some (i, f) => s.reissue l i f
  | none =>
    match s.queue.findSome? (s.firstIssueFor l) with
    | some i => s.firstIssue l i
    | none => s

/-! ## Confirmation and failure (R134, R135) -/

/-- The order echo of a normal frame of the seat (R134). -/
def State.readEcho (s : State) (i : SeatId) (echo : BitVec 4) : State :=
  match s.inFlight i with
  | some f =>
    if echo = f.tag then
      let s1 := s.modSync i fun y => { y with confirmed := some (f.pattern, f.hold), stalled := false }
      let s2 := s1.leave none (·.isInFlightOf i)
      if s2.syncs[i].confirmed = some (s2.mute[i].pattern, s2.mute[i].order) then s2 else s2.requestSync i
    else s
  | none => s

/-- The confirmation window of the seat's IN_FLIGHT SYNC expires (R135); a stopped window does not. -/
def State.syncWindowExpires (s : State) (i : SeatId) : State :=
  match s.inFlight i with
  | some f =>
    match f.window with
    | some _ =>
      if f.issues < Config.maxIssues then
        let due := QEntry.sync i (.inFlight { f with window := none, reissueDue := true })
        { s with queue := replaceFirst (·.isInFlightOf i) due s.queue }
      else (s.modSync i fun y => { y with stalled := true }).leave none (·.isInFlightOf i)
    | none => s
  | none => s

/-! ## Markers (R138, R140) -/

/-- The number after a marker number, 255 being followed by 1 (R138). -/
def succMarker (n : Nat) : Nat := if n < 255 then n + 1 else 1

/-- The markers of the port in the queue. -/
def State.markerCount (s : State) (p : PortId) : Nat := s.queue.countP (·.isMarkerOf p)

/-- A MARK that is taken: the marker joins the tail, and completes at once in an empty queue (R138, R139). -/
def State.placeMarker (s : State) (p : PortId) : State :=
  let n := s.markers[p].next
  let s1 := s.modMarkers p fun m => { m with next := succMarker n }
  if s.queue.isEmpty then State.afterLeave none 0 (s1.completeMarker p n)
  else { s1 with queue := s1.queue ++ [QEntry.marker p n] }

/-- The markers of the port leave uncompleted, each with the steps of R130 (R140). -/
def State.dropMarkers (s : State) (p : PortId) : Nat → State
  | 0 => s
  | fuel + 1 => (s.leave none (·.isMarkerOf p)).dropMarkers p fuel

end Sys2Proof.Machine
end

