-- ==== Sys2Proof/Machine/Frame.lean ====
section
/-! DEFINITION. Settled frames as the Merge Unit hands them on, and as the Seat Table takes them: payload fields
brought into range (R3, R172), the class of a frame (R13). -/

namespace Sys2Proof.Machine

open Sys2Proof

/-- A settled frame (R50). -/
structure Settled where
  payload : MicPayload
  strength : Int
  bestLink : LinkId
  heard : List LinkId
deriving DecidableEq, Repr

/-- A frame with its payload fields in range (R3). -/
structure SeatFrame where
  boot : BitVec 8
  frame : BitVec 16
  format : Byte
  cls : Fin 4
  level : Nat
  audio : AudioState
  echo : BitVec 4
  strength : Int
  bestLink : LinkId
  copies : Nat
deriving DecidableEq, Repr

/-- The audio state of a payload byte; a code above 4 is taken as MUTED (R3, 11.1). -/
def audioOfByte (b : Byte) : AudioState :=
  if b = 1 then .mutedVoice
  else if b = 2 then .openMic
  else if b = 3 then .openVoice
  else if b = 4 then .standby
  else .muted

/-- The battery class of a payload byte; a class above 3 is taken as 3 (R3). -/
def classOfByte (b : Byte) : Fin 4 :=
  if b = 0 then 0 else if b = 1 then 1 else if b = 2 then 2 else 3

/-- The frame the Seat Table reads from a settled frame; of the order echo bits 3..0 are read (R3, R172). -/
def Settled.read (f : Settled) : SeatFrame where
  boot := f.payload.boot
  frame := f.payload.frame
  format := f.payload.format
  cls := classOfByte f.payload.cls
  level := f.payload.level.toNat
  audio := audioOfByte f.payload.audio
  echo := f.payload.echo.setWidth 4
  strength := f.strength
  bestLink := f.bestLink
  copies := f.heard.length

/-- The format level lies in the format window 2..5 (R17, R18). -/
def SeatFrame.inWindow (f : SeatFrame) : Bool := decide (2 ≤ f.format.toNat) && decide (f.format.toNat ≤ 5)

/-- The class of a settled frame sent to a bound seat (R13); `normal` carries Δ. -/
inductive FrameClass where
  | appearance
  | normal (delta : Nat)
  | duplicate
  | stale
  | ignored
deriving DecidableEq, Repr

/-- Δ of a frame against the last frame count, modulo 65536 (R13). -/
def frameDelta (frame last : BitVec 16) : Nat := (frame - last).toNat

/-- The class of a frame with the same boot count as the last (R13). -/
def classOfDelta (d : Nat) : FrameClass :=
  if d = 0 then .duplicate else if 32768 ≤ d then .stale else .normal d

/-- Compares a frame with the seat's last boot count and last frame count (R13). A VACANT seat receives no frames. -/
def SeatRec.classify (q : SeatRec) (boot : BitVec 8) (frame : BitVec 16) : FrameClass :=
  match q.state with
  | .vacant => .ignored
  | .awaiting => .appearance
  | .refused => if q.lastBoot = some boot then .ignored else .appearance
  | .active | .standby | .lost =>
    if q.lastBoot = some boot then classOfDelta (frameDelta frame (q.lastFrame.getD 0)) else .appearance

/-- The frame periods a frame covers: Δ, or 1 for an appearance (R56). -/
def FrameClass.periods : FrameClass → Nat
  | .normal d => d
  | _ => 1

/-- The frame is an appearance. -/
def FrameClass.isAppearance : FrameClass → Bool
  | .appearance => true
  | _ => false

end Sys2Proof.Machine
end

