-- ==== Sys2Proof/Machine/Battery.lean ====
section
/-! DEFINITION. The Battery Gauge (chapter 4): weighted time, swaps, drain samples, remaining minutes, the LOW and
CRIT tests, and BATTERY. -/

namespace Sys2Proof.Machine

open Sys2Proof

/-- The weight of a frame period by the audio state reported (R56). -/
def audioWeight (a : AudioState) : Nat := if a.isLive then 8 else 1

/-- Weighted time after a frame that covers `periods` frame periods (R56). -/
def addWeighted (weighted periods weight : Nat) : Nat := min Config.max16 (weighted + periods * 2 * weight)

/-- The swap test (R57). -/
def isSwap (ref level : Nat) (appearance : Bool) : Bool :=
  decide (ref + 64 ≤ level) || (appearance && decide (ref + 32 ≤ level))

/-- The sample rate of a drop of `k` over weighted time `w` (R58). -/
def sampleRate (k w : Nat) : Nat := k * 76800 / w

/-- The drain rate after a sample (R59). -/
def averageDrain (drain sample : Nat) : Nat := (3 * drain + sample + 2) / 4

/-- Remaining minutes (R60). -/
def remainingMinutes (level drain : Nat) : Nat := min 999 (16 * level / drain)

/-- The LOW test (R61). -/
def lowTest (ps : Params) (minutes level : Nat) : Bool := decide (minutes < ps.lowMinutes) || decide (level ≤ 38)

/-- The CRIT test (R61). -/
def critTest (ps : Params) (minutes level : Nat) : Bool := decide (minutes < ps.critMinutes) || decide (level ≤ 13)

/-- A streak after a test, stopping at 3 (R61). -/
def streakAfter (streak : Nat) (test : Bool) : Nat := if test then satSucc 3 streak else 0

/-- The swap actions on the section, at level `level` (R57, R65). -/
def Battery.swapTo (b : Battery) (ps : Params) (level : Nat) : Battery :=
  { b with drain := ps.drain[b.cls], weighted := 0, ref := level, samples := 0, lowStreak := 0, critStreak := 0 }

/-- The first frame of the Gauge's run (R55). -/
def Battery.firstFrame (b : Battery) (ps : Params) (level : Nat) : Battery :=
  { b with ref := level, weighted := 0, drain := ps.drain[b.cls], samples := 0 }

/-- The drain sample step (R58, R59). -/
def Battery.sample (b : Battery) (level : Nat) : Battery :=
  if level < b.ref ∧ 4800 ≤ b.weighted then
    { b with drain := averageDrain b.drain (sampleRate (b.ref - level) b.weighted), weighted := 0, ref := level,
             samples := satSucc 255 b.samples }
  else b

/-- The remaining minutes step (R60). -/
def Battery.withMinutes (b : Battery) (level : Nat) : Battery :=
  { b with minutes := remainingMinutes level b.drain }

/-- The test step (R61). -/
def Battery.runTests (b : Battery) (ps : Params) (level : Nat) : Battery :=
  { b with lowStreak := streakAfter b.lowStreak (lowTest ps b.minutes level)
           critStreak := streakAfter b.critStreak (critTest ps b.minutes level) }

/-- The section with class and level of the frame (R54). -/
def Battery.take (b : Battery) (f : SeatFrame) : Battery := { b with cls := f.cls, level := some f.level }

/-- The frame is a swap for the section: the level was known and the swap test holds (R55, R57). -/
def Battery.swaps (b : Battery) (f : SeatFrame) (c : FrameClass) : Bool :=
  b.level.isSome && isSwap b.ref f.level c.isAppearance

/-- The section after a frame the Gauge reads (R54 to R61). -/
def Battery.read (b : Battery) (ps : Params) (f : SeatFrame) (c : FrameClass) : Battery :=
  let b0 := b.take f
  let b1 :=
    if b.level.isNone then b0.firstFrame ps f.level
    else if b.swaps f c then b0.swapTo ps f.level
    else
      ({ b0 with weighted := addWeighted b.weighted c.periods (audioWeight f.audio) }).sample f.level
  (b1.withMinutes f.level).runTests ps f.level

/-- Ends BATTERY if it is RAISED, and the battery state becomes OK (R63). -/
def State.endBattery (s : State) (i : SeatId) : State :=
  (s.endCondition (.seat i .battery)).modBattery i fun b => { b with status := .ok }

/-- Raises or escalates BATTERY by the streaks (R62). -/
def State.actOnStreaks (s : State) (i : SeatId) : State :=
  let b := s.battery[i]
  let src := Source.seat i .battery
  if b.critStreak = 3 then
    match s.slot src with
    | .raised r =>
      if r.severity = .urgent then s
      else (s.escalate src .urgent).modBattery i fun b => { b with status := .critical }
    | _ => (s.raise src .urgent .none).modBattery i fun b => { b with status := .critical }
  else if b.lowStreak = 3 then
    match s.slot src with
    | .raised _ => s
    | _ => (s.raise src .warning .none).modBattery i fun b => { b with status := .low }
  else s

/-- The Gauge reads a frame (R54): the section, a swap's ending of BATTERY, the streaks, and the refreshed detail of
a LIVE entry (R64). -/
def State.gaugeReads (s : State) (i : SeatId) (f : SeatFrame) (c : FrameClass) : State :=
  let b := s.battery[i]
  let s1 := s.modBattery i fun b => b.read s.params f c
  let s2 := if b.swaps f c then s1.endBattery i else s1
  (s2.actOnStreaks i).refresh (.seat i .battery)

end Sys2Proof.Machine
end

