-- ==== Sys2Proof/Machine/Signal.lean ====
section
/-! DEFINITION. The Signal Monitor (chapter 5): smoothing, the weak test, the reception history, attribution, loss and
its end. -/

namespace Sys2Proof.Machine

open Sys2Proof

/-! ## Reading a frame (R71 to R76) -/

/-- Smoothing: E moves by (B10 − E) / 8, truncated toward zero (R72). -/
def smooth (e b10 : Int) : Int := e + (b10 - e).tdiv 8

/-- The history after slots have joined at the newest end: the last 64 (R75). -/
def pushSlots (h new : List Bool) : List Bool :=
  (h ++ new).drop ((h ++ new).length - Config.historySize)

/-- The slots a frame adds: min(Δ − 1, 64) missed ones and a received one, or one received slot for an appearance
(R75). -/
def slotsOf (c : FrameClass) : List Bool :=
  List.replicate (min (c.periods - 1) Config.historySize) false ++ [true]

/-- The weak level and the end level of a threshold (R73). -/
def weakLevel (threshold : Int) : Int := 10 * threshold
def weakEndLevel (threshold : Int) : Int := 10 * (threshold + 4)

/-- The weak test on the smoothed strength `e` (R73). -/
def State.weakTest (s : State) (i : SeatId) (e : Int) : State :=
  let src := Source.seat i .signalWeak
  let raised := (s.slot src).isRaised
  if e < weakLevel s.params.weakThreshold then
    let streak := satSucc 15 s.signal[i].weakStreak
    let s1 := s.modSignal i fun g => { g with weakStreak := streak }
    if !raised && streak == 15 then s1.raise src .notice .none else s1
  else if e < weakEndLevel s.params.weakThreshold then
    if raised then s else s.modSignal i fun g => { g with weakStreak := 0 }
  else
    let s1 := s.modSignal i fun g => { g with weakStreak := 0 }
    if raised then s1.endCondition src else s1

/-- The erratic test on the history as it stands (R76). -/
def State.erraticTest (s : State) (i : SeatId) : State :=
  let src := Source.seat i .linkErratic
  let h := s.signal[i].history
  if (s.slot src).isRaised then
    if misses h ≤ 4 then s.endCondition src else s
  else if 12 ≤ misses h ∧ h.length = Config.historySize then s.raise src .notice .none
  else s

/-- The Signal Monitor reads a frame (R71): smoothing, weak test, history, erratic test, with the refreshed details
of R74 and R76. -/
def State.monitorReads (s : State) (i : SeatId) (f : SeatFrame) (c : FrameClass) : State :=
  let b10 := 10 * f.strength
  let e := smooth ((s.signal[i].strength).getD b10) b10
  let s1 := (s.modSignal i fun g => { g with strength := some e }).refresh (.seat i .signalWeak)
  let s2 := s1.weakTest i e
  let s3 := (s2.modSignal i fun g => { g with history := pushSlots g.history (slotsOf c) }).refresh
    (.seat i .linkErratic)
  s3.erraticTest i

/-! ## RECEIVER_LINK's escalation and the attributed count (R79) -/

/-- Changes a link's attributed seat count; a LIVE RECEIVER_LINK entry takes it in its detail (R79). -/
def State.setAttributed (s : State) (l : LinkId) (f : Nat → Nat) : State :=
  (s.modLink l fun r => { r with attributed := f r.attributed }).refresh (.link l)

/-- A RECEIVER_LINK RAISED below URGENT escalates to URGENT (R79). -/
def State.escalateLink (s : State) (l : LinkId) : State :=
  match s.slot (.link l) with
  | .raised r => if r.severity = .urgent then s else s.escalate (.link l) .urgent
  | _ => s

/-! ## Loss (R78 to R84) -/

/-- Raises SIGNAL_LOSS, URGENT if the seat holds the floor or was last heard live, else WARNING (R80). -/
def State.raiseSignalLoss (s : State) (i : SeatId) : State :=
  let urgent := s.mute[i].floor || (s.seats[i].lastAudio.map AudioState.isLive).getD false
  s.raise (.seat i .signalLoss) (if urgent then .urgent else .warning) .none

/-- The loss is the seat's own: cause SIGNAL, and SIGNAL_LOSS is raised (R78, R80). -/
def State.loseToSignal (s : State) (i : SeatId) : State :=
  (s.modSignal i fun g => { g with cause := .signal }).raiseSignalLoss i

/-- The loss is attributed to the link (R78, R79). -/
def State.loseToLink (s : State) (i : SeatId) (l : LinkId) : State :=
  ((s.modSignal i fun g => { g with cause := .link l }).setAttributed l (· + 1)).escalateLink l

/-- The loss cause is decided from the state of the seat's best link (R78). -/
def State.attribute (s : State) (i : SeatId) : State :=
  match s.seats[i].bestLink with
  | some l =>
    match s.links[l].state with
    | .up | .disabled => s.loseToSignal i
    | .down | .silent | .broken => s.loseToLink i l
  | none => s.loseToSignal i

/-- The duration of a loss is written into the LIVE entry of SIGNAL_LOSS, beside the loss start (R84). -/
def State.captureDuration (s : State) (i : SeatId) : State :=
  let start := (s.signal[i].lossStart).getD 0
  s.mapLive (.seat i .signalLoss) fun e => { e with detail := .signalLoss start (some (s.clock - start)) }

/-- The end of a seat's loss at an accepted frame (R84): duration and end of SIGNAL_LOSS, or the link's count and the
grace; the cause becomes NONE and the loss start absent. -/
def State.endLoss (s : State) (i : SeatId) : State :=
  let s1 :=
    match s.signal[i].cause with
    | .signal => (s.captureDuration i).endCondition (.seat i .signalLoss)
    | .link l => s.setAttributed l (· - 1)
    | .none => s
  s1.modSignal i fun g => { g with cause := .none, lossStart := none, grace := none }

/-- A link returned to UP: a recovery grace starts for every seat attributed to it (R81). -/
def State.startGraces (s : State) (l : LinkId) : State :=
  let start (g : Signal) : Signal := if g.cause = .link l then { g with grace := some s.params.lossTime } else g
  { s with signal := s.signal.map start }

/-- An attributed seat of a disabled link: grace cancelled, cause SIGNAL, SIGNAL_LOSS raised (R83). -/
def State.convertSeat (l : LinkId) (s : State) (i : SeatId) : State :=
  if s.signal[i].cause = .link l then (s.modSignal i fun g => { g with grace := none }).loseToSignal i else s

/-- Every seat attributed to a disabled link is converted, in seat-number order, and the count becomes 0 (R83). -/
def State.convertSeats (s : State) (l : LinkId) : State :=
  (allSeats.foldl (State.convertSeat l) s).setAttributed l fun _ => 0

/-- A seat's recovery grace expires (R82); a stopped grace does not. -/
def State.graceExpires (s : State) (i : SeatId) : State :=
  match s.signal[i].grace with
  | some _ =>
    let s1 := s.modSignal i fun g => { g with grace := none }
    match s.signal[i].cause with
    | .link l => (s1.setAttributed l (· - 1)).loseToSignal i
    | .signal | .none => s1
  | none => s

end Sys2Proof.Machine
end

