-- ==== Sys2Proof/Machine/Mute.lean ====
section
/-! DEFINITION. The Mute and Floor Supervisor (chapter 6): the four mute conditions, their timers, the chatter window,
mute holds, the floor, and the derivation of the desired pattern and hold. -/

namespace Sys2Proof.Machine

open Sys2Proof

/-! ## The desired pattern and hold (R101, R102) -/

/-- The desired pattern from its inputs (R101): the first that holds, in the manual's order. -/
def patternOf (voice floorMuted : Bool) (battery : Option Severity) (floor : Bool) : Pattern :=
  if voice then .muteFlash
  else if floorMuted then .floorPrompt
  else if battery = some .urgent then .batteryFast
  else if floor then .floorSteady
  else if battery = some .warning then .batterySlow
  else .dark

/-- The desired hold of a mute hold (R101). -/
def holdOf : MuteHold → HoldOrder
  | .none => .free
  | .auto | .console => .held

/-- The desired pattern of a seat as its conditions and floor flag stand (R101). -/
def State.patternFor (s : State) (i : SeatId) : Pattern :=
  patternOf (s.slot (.seat i .voiceInMute)).isRaised (s.slot (.seat i .floorMuted)).isRaised
    (s.slot (.seat i .battery)).severity? s.mute[i].floor

/-- The derivation at the end of an event: a change is stored and asks for a SYNC (R102). -/
def State.derive (s : State) (i : SeatId) : State :=
  let pat := s.patternFor i
  let ord := holdOf s.mute[i].hold
  if pat = s.mute[i].pattern ∧ ord = s.mute[i].order then s
  else (s.modMute i fun m => { m with pattern := pat, order := ord }).requestSync i

/-! ## FLOOR_MUTED and holds (R89 to R97) -/

/-- FLOOR_MUTED ends if RAISED, or is cancelled if QUALIFYING (R90, R92, R97). -/
def State.dropFloorMuted (s : State) (i : SeatId) : State :=
  (s.endOrCancel (.seat i .floorMuted)).modMute i fun m => { m with floorMutedQualify := none }

/-- OPEN_NO_FLOOR ends if RAISED, or is cancelled if QUALIFYING (R89, R96). -/
def State.dropOpenNoFloor (s : State) (i : SeatId) : State :=
  (s.endOrCancel (.seat i .openNoFloor)).modMute i fun m => { m with openGrace := none }

/-- OPEN_NO_FLOOR is raised at WARNING; with auto-mute on and no hold the hold becomes AUTO in the same event, which
ends a FLOOR_MUTED (R94, R96, R97). -/
def State.raiseOpenNoFloor (s : State) (i : SeatId) (a : AudioState) : State :=
  let s1 := s.raise (.seat i .openNoFloor) .warning (.audio a)
  if s.params.autoMute && s.mute[i].hold == .none then
    (s1.modMute i fun m => { m with hold := .auto }).dropFloorMuted i
  else s1

/-! ## Reading a frame (R95 to R100) -/

/-- The frame is a toggle: a normal frame under hold NONE whose audio state is in the other group than the previous
one (R99). -/
def isToggle (c : FrameClass) (hold : MuteHold) (previous : Option AudioState) (a : AudioState) : Bool :=
  !c.isAppearance && decide (hold = .none) &&
    match previous with
    | some b => (b.isMuted && a.isLive) || (b.isLive && a.isMuted)
    | none => false

/-- A toggle is counted; the first one while no window runs starts the chatter window (R98, R99). -/
def State.countToggle (s : State) (i : SeatId) : State :=
  let src := Source.seat i .muteChatter
  if s.mute[i].chatterWindow.isNone then
    let s1 := s.modMute i fun m => { m with toggles := 1, chatterWindow := some Config.chatterWindowTenths }
    if s1.slot src = .clear then s1.setSlot src .qualifying else s1
  else s.modMute i fun m => { m with toggles := satSucc 15 m.toggles }

/-- VOICE_IN_MUTE at a frame (R96). -/
def State.voiceFrame (s : State) (i : SeatId) (a : AudioState) : State :=
  let src := Source.seat i .voiceInMute
  match s.slot src with
  | .clear =>
    if a = .mutedVoice then
      (s.setSlot src .qualifying).modMute i fun m => { m with voiceQualify := some s.params.voiceQualify }
    else s
  | .qualifying =>
    if a = .mutedVoice then s
    else (s.setSlot src .clear).modMute i fun m => { m with voiceQualify := none }
  | .raised _ =>
    if a = .mutedVoice then s.modMute i fun m => { m with voiceEnd := some Config.voiceEndTenths } else s

/-- OPEN_NO_FLOOR at a frame (R96). -/
def State.openFrame (s : State) (i : SeatId) (a : AudioState) : State :=
  let src := Source.seat i .openNoFloor
  match s.slot src with
  | .clear =>
    if a.isLive && !s.mute[i].floor then
      if 0 < s.params.openGrace then
        (s.setSlot src .qualifying).modMute i fun m => { m with openGrace := some s.params.openGrace }
      else s.raiseOpenNoFloor i a
    else s
  | .qualifying | .raised _ => if a.isMuted then s.dropOpenNoFloor i else s

/-- FLOOR_MUTED at a frame (R97). -/
def State.floorFrame (s : State) (i : SeatId) (a : AudioState) : State :=
  let src := Source.seat i .floorMuted
  match s.slot src with
  | .clear =>
    if a.isMuted && s.mute[i].floor && s.mute[i].hold == .none then
      (s.setSlot src .qualifying).modMute i fun m => { m with floorMutedQualify := some s.params.floorMutedQualify }
    else s
  | .qualifying | .raised _ => if a.isLive then s.dropFloorMuted i else s

/-- The MUTE_CHATTER raise test of a toggle frame (R100). -/
def State.chatterTest (s : State) (i : SeatId) (a : AudioState) : State :=
  let src := Source.seat i .muteChatter
  if s.params.chatterThreshold ≤ s.mute[i].toggles ∧ !(s.slot src).isRaised then s.raise src .notice (.audio a)
  else s

/-- The Supervisor reads a frame (R95): toggle, voice, open, floor-muted, chatter. The previous audio state is the
seat's last one, not yet replaced. -/
def State.supervisorReads (s : State) (i : SeatId) (f : SeatFrame) (c : FrameClass) : State :=
  let toggle := isToggle c s.mute[i].hold s.seats[i].lastAudio f.audio
  let s1 := if toggle then s.countToggle i else s
  let s2 := ((s1.voiceFrame i f.audio).openFrame i f.audio).floorFrame i f.audio
  if toggle then s2.chatterTest i f.audio else s2

/-! ## Timer expiries (R96 to R98) -/

/-- The audio state a raising at an expiry takes: the seat's last one (R95). -/
def State.lastAudioOf (s : State) (i : SeatId) : AudioState := (s.seats[i].lastAudio).getD .muted

/-- The voice qualify timer expires: VOICE_IN_MUTE is raised and its end timer starts (R96). -/
def State.voiceQualifyExpires (s : State) (i : SeatId) : State :=
  match s.mute[i].voiceQualify with
  | some _ =>
    let s1 := s.modMute i fun m => { m with voiceQualify := none, voiceEnd := some Config.voiceEndTenths }
    (s1.raise (.seat i .voiceInMute) (if s.mute[i].floor then .warning else .notice)
      (.audio (s.lastAudioOf i))).derive i
  | none => s

/-- The voice end timer expires: VOICE_IN_MUTE ends (R96). -/
def State.voiceEndExpires (s : State) (i : SeatId) : State :=
  match s.mute[i].voiceEnd with
  | some _ =>
    ((s.modMute i fun m => { m with voiceEnd := none }).endCondition (.seat i .voiceInMute)).derive i
  | none => s

/-- The open grace expires: OPEN_NO_FLOOR is raised (R96). -/
def State.openGraceExpires (s : State) (i : SeatId) : State :=
  match s.mute[i].openGrace with
  | some _ =>
    ((s.modMute i fun m => { m with openGrace := none }).raiseOpenNoFloor i (s.lastAudioOf i)).derive i
  | none => s

/-- The floor-muted qualify timer expires: FLOOR_MUTED is raised (R97). -/
def State.floorMutedQualifyExpires (s : State) (i : SeatId) : State :=
  match s.mute[i].floorMutedQualify with
  | some _ =>
    ((s.modMute i fun m => { m with floorMutedQualify := none }).raise (.seat i .floorMuted) .notice
      (.audio (s.lastAudioOf i))).derive i
  | none => s

/-- The chatter window expires (R98): a raised MUTE_CHATTER with C below 2 ends; C becomes 0; the window restarts if
the condition is still RAISED, else stops with a QUALIFYING slot back to CLEAR. -/
def State.chatterWindowExpires (s : State) (i : SeatId) : State :=
  let src := Source.seat i .muteChatter
  match s.mute[i].chatterWindow with
  | some _ =>
    if (s.slot src).isRaised ∧ 2 ≤ s.mute[i].toggles then
      s.modMute i fun m => { m with toggles := 0, chatterWindow := some Config.chatterWindowTenths }
    else
      (s.endOrCancel src).modMute i fun m => { m with toggles := 0, chatterWindow := none }
  | none => s

/-! ## Requests on one seat -/

/-- The floor flag is set, an AUTO hold released, and the floor count grows by 1 (R89, steps 1 and 2). -/
def State.giveFloor (s : State) (i : SeatId) : State :=
  { s.modMute i fun m => { m with floor := true, hold := if m.hold = .auto then .none else m.hold } with
    floorCount := s.floorCount + 1 }

/-- A condition RAISED at one severity escalates to another (R89, steps 3 and 4). -/
def State.escalateFrom (s : State) (src : Source) (low high : Severity) : State :=
  if (s.slot src).severity? = some low then s.escalate src high else s

/-- GRANT on a bound seat without the floor (R89, steps 1 to 6). -/
def State.grantFloor (s : State) (i : SeatId) : State :=
  let s1 := s.giveFloor i
  let s2 := if s1.seats[i].state = .lost then s1.escalateFrom (.seat i .signalLoss) .warning .urgent else s1
  let s3 := s2.escalateFrom (.seat i .voiceInMute) .notice .warning
  (s3.dropOpenNoFloor i).derive i

/-- The floor flag clears and the floor count falls by 1 (R90, step 1). -/
def State.takeFloor (s : State) (i : SeatId) : State :=
  { s.modMute i fun m => { m with floor := false } with floorCount := s.floorCount - 1 }

/-- REVOKE on a seat holding the floor (R90). -/
def State.revokeFloor (s : State) (i : SeatId) : State :=
  ((s.takeFloor i).dropFloorMuted i).derive i

/-- HOLD on a seat whose hold is not CONSOLE (R92). -/
def State.holdConsole (s : State) (i : SeatId) : State :=
  ((s.modMute i fun m => { m with hold := .console }).dropFloorMuted i).derive i

/-- FREE on a seat under a hold (R93). -/
def State.freeHold (s : State) (i : SeatId) : State :=
  (s.modMute i fun m => { m with hold := .none }).derive i

/-- The swap actions of SWAP on a seat whose level is known (R65). -/
def State.swapSeat (s : State) (i : SeatId) (level : Nat) : State :=
  ((s.modBattery i fun b => (b.swapTo s.params level).withMinutes level).endBattery i).derive i

end Sys2Proof.Machine
end

