-- ==== Sys2Proof/WellFormed.lean ====
section
/-! DEFINITION. Which commands the lines can present: argument bytes that fit a request frame, an unknown request
whose code is indeed unknown, a stranger timer of a radio ID a stranger can have. -/

namespace Sys2Proof

/-- The argument bytes fit a request frame: the length byte, at most 60, counts the code byte too (R142). -/
def argsFit (args : List Byte) : Bool := args.length < Config.maxRequestLength

/-- The waiting arrival is one a line can present. -/
def Arrival.wellFormed : Arrival → Bool
  | .badFrame _ => true
  | .request _ args => argsFit args

/-- A radio ID a seat or a stranger can have (R3). -/
def validRadio (r : RadioId) : Bool := r != 0 && r != 0xFFFFFFFF

/-- The commands the world outside can present. `exec` is total on all others as well. -/
def Instr.wellFormed : Instr → Bool
  | .powerOn _ | .initialisationComplete | .restartBegin _ | .copy _ _ _ | .status _ _ | .uplinkBadFrame _
  | .uplinkInterByteTimeout _ | .breakDetected _ | .breakEnd _ | .silenceTimerExpiry _ | .downlinkSlot _
  | .mergeWindowExpiry _ | .lossTimerExpiry _ | .recoveryGraceExpiry _ | .voiceQualifyExpiry _
  | .voiceEndExpiry _ | .openGraceExpiry _ | .floorMutedQualifyExpiry _ | .chatterWindowExpiry _
  | .syncWindowExpiry _ | .reminderTimerExpiry _ | .lampOnTimeEnd _ | .lampPeriodEnd _
  | .consoleInterByteTimeout _ | .frameError _ _ | .responseEnd _ | .portBreak _ | .chamberClockTick
  | .portBreakEnd _ | .orderFrameEnd _ => true
  | .strangerAgingExpiry r => validRadio r
  | .arrivalWaiting _ a => a.wellFormed
  | .unknownRequest _ code args => argsFit args && !Config.requestCodes.contains code
  | .restart _ args | .summary _ args | .readRoster _ args | .readSeat _ args | .readLink _ args
  | .readStrangers _ args | .readParam _ args | .ack _ args | .setView _ args | .setRemind _ args
  | .setMask _ args | .clearOverflow _ args | .mark _ args | .tagFirst _ args | .tagLast _ args
  | .quiet _ args | .unquiet _ args | .hold _ args | .free _ args | .swap _ args | .grant _ args
  | .revoke _ args | .revokeAll _ args | .bind _ args | .unbind _ args | .setParam _ args
  | .setLamp _ args => argsFit args

end Sys2Proof
end

