-- ==== Sys2Proof/Machine/SeatTable.lean ====
section
/-! DEFINITION. The Seat Table (chapter 1): strangers, frame acceptance, the seat states, departures, appearances,
binding and unbinding. -/

namespace Sys2Proof.Machine

open Sys2Proof

/-! ## The stranger list (R7 to R9) -/

/-- Attention on every port whose role is DESK (R7, R159). -/
def State.attendDesks (s : State) : State := s.attend fun p => s.ports[p].role == .desk

/-- `b` leaves a full list before `a`: the older last heard stamp; on equal stamps the front one stays chosen (R8). -/
def olderStranger (clock : Stamp) (b a : Stranger) : Bool :=
  decide (age clock a.lastHeard < age clock b.lastHeard)

/-- The entry a full list gives up (R8). -/
def oldestStranger (clock : Stamp) (xs : List Stranger) : Option Stranger :=
  xs.foldl (fun best x => match best with
    | none => some x
    | some a => if olderStranger clock x a then some x else some a) none

/-- The list without the entry of a radio ID, its order kept (R9). -/
def withoutStranger (r : RadioId) (xs : List Stranger) : List Stranger := xs.filter fun x => x.radio != r

/-- The list with room for one more entry (R8). -/
def makeRoom (clock : Stamp) (xs : List Stranger) : List Stranger :=
  if xs.length < Config.strangerSize then xs
  else match oldestStranger clock xs with
    | some x => withoutStranger x.radio xs
    | none => xs

/-- A settled frame with a valid radio ID bound to no seat (R7, R8). -/
def State.strangerFrame (s : State) (f : Settled) : State :=
  let r := f.payload.radio
  if s.strangers.any fun x => x.radio == r then
    { s with strangers := s.strangers.map fun x =>
        if x.radio = r then
          { x with boot := f.payload.boot, format := f.payload.format, strength := f.strength,
                   lastHeard := s.clock, aging := Config.agingTenths }
        else x }
  else
    let x : Stranger := ⟨r, f.payload.boot, f.payload.format, s.clock, s.clock, f.strength, Config.agingTenths⟩
    ({ s with strangers := makeRoom s.clock s.strangers ++ [x] }).attendDesks

/-! ## Leaving ACTIVE (R16) -/

/-- The conditions that end on leaving ACTIVE, in kind order (R16). -/
def departingKinds : List SeatKind :=
  [.signalWeak, .linkErratic, .voiceInMute, .openNoFloor, .floorMuted, .muteChatter]

/-- The mute section with its timers and chatter window stopped and C = 0 (R16). -/
def Mute.stopTimers (m : Mute) : Mute :=
  { m with voiceQualify := none, voiceEnd := none, openGrace := none, floorMutedQualify := none,
           toggles := 0, chatterWindow := none }

/-- Every SYNC of the seat leaves and the owed flag is set (R16, R17, R18, R137). -/
def State.dropSyncsOwed (s : State) (i : SeatId) : State :=
  (s.dropSyncs i).modSync i fun y => { y with owed := true }

/-- The departure steps of a seat leaving ACTIVE, in order (R16). -/
def State.depart (s : State) (i : SeatId) : State :=
  let s1 := s.modSignal i fun g => { g with lossTimer := none }
  let s2 := departingKinds.foldl (fun t k => t.endOrCancel (.seat i k)) s1
  let s3 := (s2.modMute i Mute.stopTimers).modSignal i fun g => { g with weakStreak := 0 }
  (s3.clearQuiet i).dropSyncsOwed i

/-! ## An accepted frame (R14 to R22) -/

/-- Step 1 of R14: the acceptance fields. -/
def State.acceptFields (s : State) (i : SeatId) (f : SeatFrame) : State :=
  s.modSeat i fun q =>
    { q with lastBoot := some f.boot, lastFrame := some f.frame, bestLink := some f.bestLink,
             copies := f.copies, lastHeard := some s.clock }

def State.setSeatState (s : State) (i : SeatId) (st : SeatState) : State :=
  s.modSeat i fun q => { q with state := st }

/-- The loss timer starts or restarts with the current loss time (R77). -/
def State.startLossTimer (s : State) (i : SeatId) : State :=
  s.modSignal i fun g => { g with lossTimer := some s.params.lossTime }

/-- A LOST seat's loss ends before anything else the frame does to the seat state (R22). -/
def State.endLossIfLost (s : State) (i : SeatId) : State :=
  if s.seats[i].state = .lost then s.endLoss i else s

/-- The departure steps, if the seat is ACTIVE (R17, R18). -/
def State.departIfActive (s : State) (i : SeatId) : State :=
  if s.seats[i].state = .active then s.depart i else s

/-- The confirmed pattern and hold become absent (R17, R18). -/
def State.forgetConfirmed (s : State) (i : SeatId) : State :=
  s.modSync i fun y => { y with confirmed := none }

/-- An appearance outside the format window (R17). The quiet flag clears, as at every appearance (R12). -/
def State.refuse (s : State) (i : SeatId) (f : SeatFrame) : State :=
  let s1 := ((s.departIfActive i).dropSyncsOwed i).forgetConfirmed i
  let s2 := (s1.setSeatState i .refused).clearQuiet i
  let src := Source.seat i .formatRefused
  if (s2.slot src).isRaised then s2 else s2.raise src .warning (.format f.format)

/-- The state an accepted frame inside the window leads to (R18, R20, R22). -/
def SeatFrame.target (f : SeatFrame) : SeatState := if f.audio = .standby then .standby else .active

/-- An appearance inside the format window (R18). -/
def State.appear (s : State) (i : SeatId) (f : SeatFrame) : State :=
  let s1 := if f.target = .standby then s.departIfActive i else s
  let s2 := (s1.setSeatState i f.target).modSignal i fun g =>
    { g with history := [], weakStreak := 0, strength := some (10 * f.strength) }
  let s3 := ((s2.dropSyncsOwed i).forgetConfirmed i).endCondition (.seat i .formatRefused)
  let s4 := s3.clearQuiet i
  if f.target = .active then s4.startLossTimer i else s4

/-- A normal frame's effect on the seat state (R19, R20, R22), once a loss has ended. -/
def State.normalFrame (s : State) (i : SeatId) (f : SeatFrame) : State :=
  match s.seats[i].state with
  | .active =>
    if f.audio = .standby then (s.depart i).setSeatState i .standby else s.startLossTimer i
  | .standby =>
    if f.audio = .standby then s
    else ((s.setSeatState i .active).startLossTimer i).modSync i fun y => { y with owed := true }
  | .lost =>
    if f.audio = .standby then s.setSeatState i .standby else (s.setSeatState i .active).startLossTimer i
  | .vacant | .awaiting | .refused => s

/-- Step 3 of R14: the seat state. -/
def State.seatStep (s : State) (i : SeatId) (f : SeatFrame) (c : FrameClass) : State :=
  let s1 := s.endLossIfLost i
  if c.isAppearance then (if f.inWindow then s1.appear i f else s1.refuse i f) else s1.normalFrame i f

/-- Step 4 of R14: which evaluators read the frame, by the state after step 3 (R15). -/
def State.evaluators (s : State) (i : SeatId) (f : SeatFrame) (c : FrameClass) : State :=
  match s.seats[i].state with
  | .active => ((s.gaugeReads i f c).monitorReads i f c).supervisorReads i f c
  | .standby => s.gaugeReads i f c
  | .vacant | .awaiting | .lost | .refused => s

/-- Step 5 of R14: the last audio state. -/
def State.takeAudio (s : State) (i : SeatId) (f : SeatFrame) : State :=
  s.modSeat i fun q => { q with lastAudio := some f.audio }

/-- Step 6 of R14: the derivation, and a SYNC request for an ACTIVE seat whose owed flag is set. -/
def State.indicator (s : State) (i : SeatId) : State :=
  let s1 := s.derive i
  if s1.seats[i].state = .active ∧ s1.syncs[i].owed = true then s1.requestSync i else s1

/-- An accepted frame, in the six steps of R14. -/
def State.accept (s : State) (i : SeatId) (f : SeatFrame) (c : FrameClass) : State :=
  let s1 := s.acceptFields i f
  let s2 := if c.isAppearance then s1 else s1.readEcho i f.echo
  (((s2.seatStep i f c).evaluators i f c).takeAudio i f).indicator i

/-- A settled frame sent to a bound seat (R13). -/
def State.seatFrame (s : State) (i : SeatId) (f : SeatFrame) : State :=
  let c := s.seats[i].classify f.boot f.frame
  match c with
  | .duplicate | .stale | .ignored => s
  | .appearance | .normal _ => s.accept i f c

/-- The Seat Table takes a settled frame: discard, seat, or stranger list (R3). -/
def State.settledFrame (s : State) (f : Settled) : State :=
  if !validRadio f.payload.radio then s
  else match s.seatOf f.payload.radio with
    | some i => s.seatFrame i f.read
    | none => s.strangerFrame f

/-! ## The loss timer (R21) -/

/-- The loss timer of a seat expires (R21); a stopped timer does not. -/
def State.lossTimerExpires (s : State) (i : SeatId) : State :=
  match s.signal[i].lossTimer with
  | some _ =>
    let s1 := (s.modSignal i fun g => { g with lossStart := some s.clock }).depart i
    ((s1.setSeatState i .lost).attribute i).derive i
  | none => s

/-! ## Binding (R5, R6) -/

/-- BIND that is answered DONE (R5). -/
def State.bindSeat (s : State) (i : SeatId) (r : RadioId) : State :=
  { s.modSeat i fun q => { q with radio := some r, state := .awaiting } with
    strangers := withoutStranger r s.strangers }

/-- Step 2 of R6 on a seat LOST with cause LINK: the link's count falls by one. -/
def State.releaseAttribution (s : State) (i : SeatId) : State :=
  match s.signal[i].cause with
  | .link l => s.setAttributed l (· - 1)
  | .signal | .none => s

/-- The floor count without the seat's flag (R6, R88). -/
def State.releaseFloor (s : State) (i : SeatId) : State :=
  if s.mute[i].floor then { s with floorCount := s.floorCount - 1 } else s

/-- The seat's record takes the values of R1 (R6, R53, R70, R87), with the radio ID and state given. -/
def State.freshSeat (s : State) (i : SeatId) (q : SeatRec) : State :=
  ((((s.modSeat i fun _ => q).modBattery i fun _ => Battery.fresh s.params.drain[0]).modSignal i
    fun _ => Signal.fresh).modMute i fun _ => Mute.fresh).modSync i fun _ => SyncRec.fresh

/-- UNBIND on a bound seat, in the five steps of R6. -/
def State.unbindSeat (s : State) (i : SeatId) : State :=
  let s1 := ({ s with alerts := { s.alerts with seatSlots := s.alerts.seatSlots.set i clearSlots } }).removeSeatEntries i
  let s2 := (s1.releaseAttribution i).modSignal i fun g => { g with lossTimer := none, grace := none, cause := .none }
  let s3 := (s2.releaseFloor i).modMute i fun _ => Mute.fresh
  (s3.dropSyncs i).freshSeat i SeatRec.vacant

end Sys2Proof.Machine
end

