-- ==== Sys2Proof/Machine/Merge.lean ====
section
/-! DEFINITION. The Merge Unit (chapter 3): copies opening and joining open frames, completeness, settling. -/

namespace Sys2Proof.Machine

open Sys2Proof

/-- The key of a payload (R42), used as carried. -/
def MicPayload.key (p : MicPayload) : FrameKey := ⟨p.radio, p.boot, p.frame⟩

/-- The key of an open frame. -/
def OpenFrame.key (o : OpenFrame) : FrameKey := MicPayload.key o.payload

/-- The settled frame formed from an open frame (R50). -/
def OpenFrame.settled (o : OpenFrame) : Settled := ⟨o.payload, o.bestStrength, o.bestLink, o.heard⟩

/-- The best strength and link after a copy, by the tie rule (R45, step 2). -/
def OpenFrame.compare (o : OpenFrame) (l : LinkId) (strength : Int) : OpenFrame :=
  if o.bestStrength < strength then { o with bestStrength := strength, bestLink := l }
  else if strength = o.bestStrength then { o with bestLink := min l o.bestLink }
  else o

/-- A copy joins its open frame, or is a repeat of a link already heard (R45, R46). -/
def OpenFrame.join (o : OpenFrame) (l : LinkId) (strength : Int) : OpenFrame :=
  let o' := o.compare l strength
  if o.heard.contains l then o' else { o' with heard := o.heard ++ [l] }

/-- The open frame of a copy that opens one (R43). -/
def newOpenFrame (p : MicPayload) (l : LinkId) (strength : Int) (window : Nat) : OpenFrame :=
  ⟨p, strength, l, [l], window⟩

/-- The open frame with a key, if one stands in the table. -/
def State.openFrame? (s : State) (k : FrameKey) : Option OpenFrame := s.openFrames.find? fun o => o.key == k

/-- Every link that is UP has been heard (R47). -/
def State.complete (s : State) (o : OpenFrame) : Bool :=
  allLinks.all fun l => s.links[l].state != .up || o.heard.contains l

/-- An open frame settles: it leaves the table and the Seat Table takes its settled frame (R50). -/
def State.settle (s : State) (o : OpenFrame) : State :=
  ({ s with openFrames := s.openFrames.filter fun x => x.key != o.key }).settledFrame o.settled

/-- The completeness test of the open frame with a key, within the event of a copy (R47). -/
def State.testComplete (s : State) (k : FrameKey) : State :=
  match s.openFrame? k with
  | some o => if s.complete o then s.settle o else s
  | none => s

/-- The oldest open frame is forced to settle if the table is full (R44). -/
def State.forceOldest (s : State) : State :=
  match s.openFrames with
  | o :: _ => if Config.openFrameSize ≤ s.openFrames.length then s.settle o else s
  | [] => s

/-- A copy arrives (R42). -/
def State.copyArrives (s : State) (p : MicPayload) (l : LinkId) (strength : Int) : State :=
  let k := MicPayload.key p
  match s.openFrame? k with
  | some _ =>
    ({ s with openFrames := s.openFrames.map fun (o : OpenFrame) => if o.key = k then o.join l strength else o }).testComplete k
  | none =>
    let s1 := s.forceOldest
    ({ s1 with openFrames := s1.openFrames ++ [newOpenFrame p l strength s1.params.mergeWindow] }).testComplete k

/-- The merge window of the open frame with a key expires (R48); a key with no open frame has no timer. -/
def State.windowExpires (s : State) (k : FrameKey) : State :=
  match s.openFrame? k with
  | some o => s.settle o
  | none => s

end Sys2Proof.Machine
end

