-- ==== Sys2Proof/Machine/Links.lean ====
section
/-! DEFINITION. The Antenna Link Interface (chapter 2): good and bad frames, silence, breaks, enable and disable,
RECEIVER_LINK. -/

namespace Sys2Proof.Machine

open Sys2Proof

/-- The link takes frames: the part is READY and the link is DOWN, UP or SILENT (R25, R26, 2.2). -/
def State.linkHears (s : State) (l : LinkId) : Bool :=
  s.part == .ready &&
    match s.links[l].state with
    | .down | .up | .silent => true
    | .disabled | .broken => false

/-- The corrected strength: raw strength plus offset, clamped once (R29). -/
def correctedStrength (raw offset : Int) : Int := clampInt (-120) (-20) (raw + offset)

/-- A discarded or partial frame counts, up to 65535 (R27). -/
def LinkRec.countBad (r : LinkRec) : LinkRec := { r with badFrames := satSucc Config.max16 r.badFrames }

/-- RECEIVER_LINK ends, its entry's detail taking the link's state as it now is (R37). -/
def State.endLinkCondition (s : State) (l : LinkId) : State := (s.refresh (.link l)).endCondition (.link l)

/-- The effect of a good frame on the link state (R28). -/
def State.goodFrame (s : State) (l : LinkId) : State :=
  if s.links[l].state = .up then s.modLink l fun r => { r with silence := some Config.silenceTenths }
  else
    let s1 := s.modLink l fun r =>
      { r with state := .up, silence := some Config.silenceTenths, slot := some Config.slotMs }
    (s1.endLinkCondition l).startGraces l

/-- RECEIVER_LINK is raised as the link leaves UP, at WARNING, and escalates at once if seats are still attributed
(R35, R79). -/
def State.raiseLinkCondition (s : State) (l : LinkId) : State :=
  let s1 := s.raise (.link l) .warning .none
  if 0 < s.links[l].attributed then s1.escalateLink l else s1

/-- The silence timer of a link expires (R31); a stopped timer does not. -/
def State.silenceExpires (s : State) (l : LinkId) : State :=
  match s.links[l].silence with
  | some _ =>
    (s.modLink l fun r => { r with state := .silent, silence := none, slot := none }).raiseLinkCondition l
  | none => s

/-- A break is detected on a link that hears (R32). -/
def State.detectBreak (s : State) (l : LinkId) : State :=
  let s1 := s.modLink l fun r =>
    { r with state := .broken, breakStart := some s.clock, silence := none, slot := none, rx := .hunting,
             lineActive := true, breakTimer := none }
  if s.links[l].state = .up then s1.raiseLinkCondition l else s1.refresh (.link l)

/-- The duration of a break, modulo 2³² and then limited to 65535 (R33). -/
def breakDuration (clock start : Stamp) : Nat := min Config.max16 (age clock start)

/-- The receive line returns to idle: a BROKEN link goes to DOWN and captures the duration (R33). -/
def State.endBreak (s : State) (l : LinkId) : State :=
  let s1 := s.modLink l fun r => { r with lineActive := false, breakTimer := none }
  if s.links[l].state = .broken then
    (s1.modLink l fun r =>
      { r with state := .down, lastBreak := r.breakStart.map (breakDuration s.clock), breakStart := none }).refresh
      (.link l)
  else s1

/-- Enable written off on an enabled link, in the four steps of R34. RECEIVER_LINK ends in step 2, before the attributed
seats change to cause SIGNAL, as R34 and R83 say and R37 does not: its entry keeps the count of before (log 29). -/
def State.disableLink (s : State) (l : LinkId) : State :=
  let s1 := s.modLink l fun r =>
    { r with enable := false, state := .disabled, silence := none, slot := none, rx := .hunting,
             breakStart := none, breakTimer := none }
  let s2 := (s1.endLinkCondition l).convertSeats l
  s2.modLink l fun r => { r with tx := none }

/-- The 2 ms of a break measured from now, on a line already held (R25, R36). -/
def LinkRec.measureHeld (r : LinkRec) : LinkRec :=
  { r with breakTimer := if r.lineActive then some Config.linkBreakMs else none }

/-- Enable written on for a DISABLED link (R36). -/
def State.enableLink (s : State) (l : LinkId) : State :=
  s.modLink l fun r => { r with enable := true, state := .down, rx := .hunting }.measureHeld

/-- A write of link enable (R34, R36): a value the link already has changes nothing. -/
def State.writeEnable (s : State) (l : LinkId) (on : Bool) : State :=
  match on, s.links[l].enable with
  | false, true => s.disableLink l
  | true, false => s.enableLink l
  | _, _ => s

/-- The slot timer of a link expires: it restarts, and the queue may send one order (R39); a stopped timer does
not. -/
def State.slotExpires (s : State) (l : LinkId) : State :=
  match s.links[l].slot with
  | some _ => (s.modLink l fun r => { r with slot := some Config.slotMs }).openSlot l
  | none => s

end Sys2Proof.Machine
end

