-- ==== Sys2Proof/Machine/Operands.lean ====
section
/-! DEFINITION. Requests and their operands: request codes, argument lengths and permissions (9.5, 11.3), argument
bytes read as numbers, seats, links, parameters (R170, R171), parameter ranges (9.9). -/

namespace Sys2Proof.Machine

open Sys2Proof

/-- The requests of 11.3. -/
inductive Request where
  | summary | readRoster | readSeat | readLink | readStrangers | readParam
  | ack | setView | setRemind | setMask | clearOverflow | mark | tagFirst | tagLast
  | quiet | unquiet | hold | free | swap | grant | revoke | revokeAll | bind | unbind
  | setParam | setLamp | restart
deriving DecidableEq, Repr

/-- The request code (11.3). -/
def Request.code : Request → Byte
  | .summary => 0x01
  | .readRoster => 0x02
  | .readSeat => 0x03
  | .readLink => 0x04
  | .readStrangers => 0x05
  | .readParam => 0x06
  | .ack => 0x10
  | .setView => 0x11
  | .setRemind => 0x12
  | .setMask => 0x13
  | .clearOverflow => 0x14
  | .mark => 0x15
  | .tagFirst => 0x16
  | .tagLast => 0x17
  | .quiet => 0x20
  | .unquiet => 0x21
  | .hold => 0x22
  | .free => 0x23
  | .swap => 0x24
  | .grant => 0x25
  | .revoke => 0x26
  | .revokeAll => 0x27
  | .bind => 0x28
  | .unbind => 0x29
  | .setParam => 0x30
  | .setLamp => 0x31
  | .restart => 0x3F

/-- Every request, in the order of 11.3. -/
def allRequests : List Request :=
  [.summary, .readRoster, .readSeat, .readLink, .readStrangers, .readParam] ++
  [.ack, .setView, .setRemind, .setMask, .clearOverflow, .mark, .tagFirst, .tagLast] ++
  [.quiet, .unquiet, .hold, .free, .swap, .grant, .revoke, .revokeAll, .bind, .unbind] ++
  [.setParam, .setLamp, .restart]

/-- The request a code names, if any (R150, check 2). -/
def requestOfCode (c : Byte) : Option Request := allRequests.find? fun r => r.code == c

/-- The fixed number of argument bytes (11.3; R150, check 4). -/
def Request.argCount : Request → Nat
  | .summary | .readStrangers | .clearOverflow | .mark | .revokeAll | .restart => 0
  | .readSeat | .readLink | .readParam | .setMask | .tagFirst | .tagLast | .quiet | .unquiet | .hold | .free
  | .swap | .grant | .revoke | .unbind => 1
  | .readRoster | .setRemind => 2
  | .ack | .setParam => 3
  | .bind => 5
  | .setView => 6
  | .setLamp => 7

/-- The role may make the request (9.5; R150, check 3). SET-VIEW's own-port limit is a check of its own (R155). -/
def Request.permits : Request → Role → Bool
  | _, .off => false
  | .summary, _ | .readRoster, _ | .readSeat, _ | .readLink, _ | .readStrangers, _ | .readParam, _ | .ack, _
  | .setView, _ | .setRemind, _ | .setMask, _ | .clearOverflow, _ | .mark, _ | .tagFirst, _ | .tagLast, _ => true
  | .quiet, r | .unquiet, r | .swap, r | .bind, r | .unbind, r | .setParam, r | .setLamp, r | .restart, r =>
    r == .desk
  | .hold, r | .free, r => r == .desk || r == .chair
  | .grant, r | .revoke, r | .revokeAll, r => r == .chair

/-! ## Argument bytes (R170) -/

/-- The argument byte at an offset. -/
def argByte (args : List Byte) (k : Nat) : Byte := args.getD k 0

/-- The argument byte at an offset, as a number. -/
def argNat (args : List Byte) (k : Nat) : Nat := (argByte args k).toNat

/-- Two argument bytes, most significant first. -/
def argWord16 (args : List Byte) (k : Nat) : BitVec 16 := argByte args k ++ argByte args (k + 1)

/-- Four argument bytes, most significant first. -/
def argWord32 (args : List Byte) (k : Nat) : BitVec 32 := argWord16 args k ++ argWord16 args (k + 2)

/-- The seat of a seat number 1..192. -/
def seatOfNumber (n : Nat) : Option SeatId := if h : 1 ≤ n ∧ n ≤ 192 then some ⟨n - 1, by omega⟩ else none

/-- The link of a number 0..5. -/
def linkOfNumber (n : Nat) : Option LinkId := if h : n < 6 then some ⟨n, h⟩ else none

/-- The port of a number 0..3. -/
def portOfNumber (n : Nat) : Option PortId := if h : n < 4 then some ⟨n, h⟩ else none

/-- The lamp of a number 0..3. -/
def lampOfNumber (n : Nat) : Option LampId := if h : n < 4 then some ⟨n, h⟩ else none

/-- The severity of a code 1..3 (11.1). -/
def severityOfCode (b : Byte) : Option Severity :=
  if b = 1 then some .notice else if b = 2 then some .warning else if b = 3 then some .urgent else none

/-- The lamp mode of a code (11.3). -/
def modeOfCode (b : Byte) : Option LampMode :=
  if b = 0 then some .off else if b = 1 then some .on else if b = 2 then some .function else none

/-- The lamp scope of its code and port byte; the port is not examined for ANY (11.3, R158). -/
def scopeOfCode (b : Byte) (port : Nat) : Option LampScope :=
  if b = 0 then some .any
  else if b = 1 then (portOfNumber port).map .unackedBy
  else none

/-! ## Parameters (9.9, 11.3) -/

/-- The parameters SET-PARAM and READ-PARAM name. -/
inductive Param where
  | lossTime | weakThreshold | lowMinutes | critMinutes
  | drain (c : Fin 4)
  | voiceQualify | openGrace | floorMutedQualify | chatterThreshold | autoMute | floorLimit | mergeWindow
  | linkEnable (l : LinkId)
  | linkOffset (l : LinkId)
deriving DecidableEq, Repr

/-- The parameter an identifier names (11.3). -/
def paramOfId (n : Nat) : Option Param :=
  if n = 0x01 then some .lossTime
  else if n = 0x02 then some .weakThreshold
  else if n = 0x03 then some .lowMinutes
  else if n = 0x04 then some .critMinutes
  else if h : 0x05 ≤ n ∧ n ≤ 0x08 then some (.drain ⟨n - 5, by omega⟩)
  else if n = 0x09 then some .voiceQualify
  else if n = 0x0A then some .openGrace
  else if n = 0x0B then some .floorMutedQualify
  else if n = 0x0C then some .chatterThreshold
  else if n = 0x0D then some .autoMute
  else if n = 0x0E then some .floorLimit
  else if n = 0x0F then some .mergeWindow
  else if h : 0x10 ≤ n ∧ n ≤ 0x15 then some (.linkEnable ⟨n - 16, by omega⟩)
  else if h : 0x18 ≤ n ∧ n ≤ 0x1D then some (.linkOffset ⟨n - 24, by omega⟩)
  else none

/-- The range of a parameter, by the parameters in force (9.9). -/
def Param.range (ps : Params) : Param → Int × Int
  | .lossTime => (6, 50)
  | .weakThreshold => (-110, -60)
  | .lowMinutes => (5, 60)
  | .critMinutes => (1, (ps.lowMinutes : Int) - 1)
  | .drain _ => (1, 4095)
  | .voiceQualify => (10, 100)
  | .openGrace => (0, 100)
  | .floorMutedQualify => (20, 300)
  | .chatterThreshold => (3, 15)
  | .autoMute => (0, 1)
  | .floorLimit => (1, 16)
  | .mergeWindow => (2, 20)
  | .linkEnable _ => (0, 1)
  | .linkOffset _ => (-8, 7)

/-- The value SET-PARAM stores for a value written: brought into the range, and the floor limit raised to the floor
count (R157, R91). -/
def State.storedValue (s : State) (p : Param) (v : Int) : Int :=
  let c := clampInt (p.range s.params).1 (p.range s.params).2 v
  match p with
  | .floorLimit => max c s.floorCount
  | _ => c

/-- The value of a parameter in force (R154); on and off are 1 and 0. -/
def State.paramValue (s : State) : Param → Int
  | .lossTime => s.params.lossTime
  | .weakThreshold => s.params.weakThreshold
  | .lowMinutes => s.params.lowMinutes
  | .critMinutes => s.params.critMinutes
  | .drain c => (s.params.drain[c] : Nat)
  | .voiceQualify => s.params.voiceQualify
  | .openGrace => s.params.openGrace
  | .floorMutedQualify => s.params.floorMutedQualify
  | .chatterThreshold => s.params.chatterThreshold
  | .autoMute => if s.params.autoMute then 1 else 0
  | .floorLimit => s.params.floorLimit
  | .mergeWindow => s.params.mergeWindow
  | .linkEnable l => if s.links[l].enable then 1 else 0
  | .linkOffset l => s.links[l].offset

/-- The parameters with a stored value; low minutes at or below critical minutes lowers these to low − 1 (R69). -/
def Params.store (ps : Params) (p : Param) (v : Int) : Params :=
  match p with
  | .lossTime => { ps with lossTime := v.toNat }
  | .weakThreshold => { ps with weakThreshold := v }
  | .lowMinutes => { ps with lowMinutes := v.toNat, critMinutes := min ps.critMinutes (v.toNat - 1) }
  | .critMinutes => { ps with critMinutes := v.toNat }
  | .drain c => { ps with drain := ps.drain.set c v.toNat }
  | .voiceQualify => { ps with voiceQualify := v.toNat }
  | .openGrace => { ps with openGrace := v.toNat }
  | .floorMutedQualify => { ps with floorMutedQualify := v.toNat }
  | .chatterThreshold => { ps with chatterThreshold := v.toNat }
  | .autoMute => { ps with autoMute := v != 0 }
  | .floorLimit => { ps with floorLimit := v.toNat }
  | .mergeWindow => { ps with mergeWindow := v.toNat }
  | .linkEnable _ | .linkOffset _ => ps

/-- Stores a value that is in range; link enable acts at once (R157, R34, R36, R38). -/
def State.storeParam (s : State) (p : Param) (v : Int) : State :=
  match p with
  | .linkEnable l => s.writeEnable l (v != 0)
  | .linkOffset l => s.modLink l fun r => { r with offset := v }
  | p => { s with params := s.params.store p v }

end Sys2Proof.Machine
end

