-- ==== Sys2Proof/Machine/Layout.lean ====
section
/-! DEFINITION. The byte layouts of chapter 11: codes of named values, the CRC, ORDER and response frames, and the
records the reads return. -/

namespace Sys2Proof.Machine

open Sys2Proof

/-! ## Codes (11.1, 11.3) -/

def AudioState.code : AudioState → Nat
  | .muted => 0
  | .mutedVoice => 1
  | .openMic => 2
  | .openVoice => 3
  | .standby => 4

def Pattern.code : Pattern → Nat
  | .dark => 0
  | .muteFlash => 1
  | .floorPrompt => 2
  | .batteryFast => 3
  | .floorSteady => 4
  | .batterySlow => 5

def HoldOrder.code : HoldOrder → Nat
  | .free => 0
  | .held => 1

def MuteHold.code : MuteHold → Nat
  | .none => 0
  | .auto => 1
  | .console => 2

def SeatState.code : SeatState → Nat
  | .vacant => 0
  | .awaiting => 1
  | .active => 2
  | .standby => 3
  | .lost => 4
  | .refused => 5

def LinkState.code : LinkState → Nat
  | .disabled => 0
  | .down => 1
  | .up => 2
  | .silent => 3
  | .broken => 4

def LossCause.code : LossCause → Nat
  | .none => 0
  | .signal => 1
  | .link _ => 2

def BatteryState.code : BatteryState → Nat
  | .ok => 0
  | .low => 1
  | .critical => 2

def PartState.code : PartState → Nat
  | .starting => 0
  | .ready => 1

def Listing.code : Listing → Nat
  | .listed => 1
  | .waiting => 2
  | .quieted => 3

def Completion.code : Completion → Byte
  | .done => 0x00
  | .clamped => 0x01
  | .starting => 0x02
  | .frameError => 0x03
  | .unknownRequest => 0x04
  | .notPermitted => 0x05
  | .badArgument => 0x06
  | .vacant => 0x07
  | .seatTaken => 0x08
  | .idTaken => 0x09
  | .floorFull => 0x0A
  | .stale => 0x0B
  | .sequence => 0x0C
  | .range => 0x0D
  | .queueFull => 0x0E
  | .markLimit => 0x0F
  | .absent => 0x10

/-! ## Fields (R170) -/

/-- One byte. -/
def byte1 (n : Nat) : Byte := BitVec.ofNat 8 n

/-- The bytes of a 16-bit word, most significant first. -/
def bytes16 (w : BitVec 16) : List Byte := [w.extractLsb' 8 8, w.extractLsb' 0 8]

/-- The bytes of a 32-bit word, most significant first. -/
def bytes32 (w : BitVec 32) : List Byte :=
  [w.extractLsb' 24 8, w.extractLsb' 16 8, w.extractLsb' 8 8, w.extractLsb' 0 8]

/-- A count as two bytes. -/
def nat16 (n : Nat) : List Byte := bytes16 (BitVec.ofNat 16 n)

/-- A count as four bytes. -/
def nat32 (n : Nat) : List Byte := bytes32 (BitVec.ofNat 32 n)

/-- A signed value as two bytes, in two's complement. -/
def int16 (v : Int) : List Byte := bytes16 (BitVec.ofInt 16 v)

/-- A signed value as one byte, in two's complement. -/
def int8 (v : Int) : Byte := BitVec.ofInt 8 v

/-- A flag as a number. -/
def flag (b : Bool) : Nat := if b then 1 else 0

/-! ## CRC (R170) -/

/-- One bit step of the CRC: polynomial 0x1021, most significant bit first. -/
def crcStep (c : BitVec 16) : BitVec 16 := if c.msb then (c <<< 1) ^^^ 0x1021 else c <<< 1

/-- The CRC after one more byte. -/
def crcByte (c : BitVec 16) (b : Byte) : BitVec 16 := crcStep^[8] (c ^^^ (b.setWidth 16 <<< 8))

/-- The CRC of a run of bytes, from 0xFFFF, with no final inversion. -/
def crc16 (bs : List Byte) : BitVec 16 := bs.foldl crcByte 0xFFFF

/-- A frame: start byte, length byte, the bytes counted by it, the CRC of length and bytes (R170). -/
def frameBytes (start : Byte) (bs : List Byte) : List Byte :=
  let counted := byte1 bs.length :: bs
  start :: counted ++ bytes16 (crc16 counted)

/-- The bytes of an ORDER frame on the line (11.2, R172). -/
def Order.bytes (o : Order) : List Byte :=
  frameBytes Config.downlinkStart
    (0x03 :: bytes32 o.radio ++ [o.tag.setWidth 8, byte1 o.pattern.code, byte1 o.hold.code])

/-- The bytes of a response frame on the line (11.3). -/
def Response.bytes (r : Response) : List Byte :=
  frameBytes Config.responseStart ([r.code, r.completion.code, byte1 (flag r.overrun)] ++ r.result)

/-! ## Records (11.4); absent fields are sent as 0 (R171) -/

/-- The condition slot byte: slot state, severity, listing. -/
def Slot.byte : Slot → Byte
  | .clear => 0
  | .qualifying => 1
  | .raised r => byte1 (2 + 4 * r.severity.num + 16 * r.listing.code)

/-- The detail bytes of an entry, eight in all. -/
def Detail.bytes (d : Detail) : List Byte :=
  let bs :=
    match d with
    | .battery l m dr => byte1 l :: nat16 m ++ nat16 dr
    | .signalWeak e => int16 e
    | .linkErratic n => [byte1 n]
    | .signalLoss start dur => bytes32 start ++ bytes32 (dur.getD 0)
    | .audio a => [byte1 a.code]
    | .format f => [f]
    | .link st n => [byte1 st.code, byte1 n]
  bs ++ List.replicate (8 - bs.length) 0

/-- The duration of a SIGNAL_LOSS entry is present. -/
def Detail.hasDuration : Detail → Bool
  | .signalLoss _ (some _) => true
  | _ => false

/-- The ended stamp of an entry. -/
def Entry.endedStamp (e : Entry) : Option Stamp :=
  match e.phase with
  | .live => none
  | .ended t => some t

/-- Origin type and number of an entry. -/
def Source.bytes : Source → List Byte
  | .seat i _ => [0, byte1 (seatNumber i)]
  | .link l => [1, byte1 l.val]

/-- An ack set, bit p for port p. -/
def acksByte (a : Vector Bool 4) : Byte := byte1 (flag a[0] + 2 * flag a[1] + 4 * flag a[2] + 8 * flag a[3])

/-- A roster entry as READ-ROSTER returns it to a port (28 bytes). -/
def State.entryBytes (s : State) (p : PortId) (e : Entry) : List Byte :=
  nat16 e.tag ++ e.source.bytes ++ [byte1 e.source.kindNum, byte1 e.severity.num] ++
  [byte1 (flag e.isEnded + 2 * flag (s.due p e) + 4 * flag e.acks[p] + 8 * flag e.detail.hasDuration)] ++
  bytes32 e.stamp ++ bytes32 (e.endedStamp.getD 0) ++ nat32 e.rank ++ [acksByte e.acks] ++ e.detail.bytes

/-- The SYNC byte of a seat record. -/
def State.syncByte (s : State) (i : SeatId) : Byte :=
  match s.inFlight i with
  | some f => byte1 (flag (s.hasQueued i) + 2 + 4 * f.issues + 16 * flag f.reissueDue)
  | none => byte1 (flag (s.hasQueued i))

/-- A seat record as READ-SEAT returns it (56 bytes). -/
def State.seatBytes (s : State) (i : SeatId) : List Byte :=
  let q := s.seats[i]
  let b := s.battery[i]
  let g := s.signal[i]
  let m := s.mute[i]
  let y := s.syncs[i]
  [byte1 (seatNumber i), byte1 q.state.code] ++
  [byte1 (flag q.radio.isSome + 2 * flag q.lastBoot.isSome + 4 * flag b.level.isSome + 8 * flag g.strength.isSome +
    16 * flag g.lossStart.isSome + 32 * flag y.confirmed.isSome)] ++
  bytes32 (q.radio.getD 0) ++ [q.lastBoot.getD 0] ++ bytes16 (q.lastFrame.getD 0) ++
  [byte1 ((q.bestLink.map (·.val)).getD 0), byte1 q.copies, byte1 ((q.lastAudio.map AudioState.code).getD 0)] ++
  bytes32 (q.lastHeard.getD 0) ++ [byte1 g.history.length, byte1 (misses g.history)] ++
  [byte1 b.cls.val, byte1 (b.level.getD 0), byte1 b.ref] ++ nat16 b.weighted ++ nat16 b.drain ++
  [byte1 b.samples] ++ nat16 b.minutes ++
  [byte1 (b.lowStreak + 4 * b.critStreak + 16 * b.status.code)] ++
  int16 (g.strength.getD 0) ++ [byte1 g.weakStreak, byte1 g.cause.code] ++ bytes32 (g.lossStart.getD 0) ++
  [byte1 m.toggles, byte1 (flag m.floor + 2 * flag q.quiet + 4 * flag y.owed + 8 * flag y.stalled)] ++
  [byte1 m.hold.code, byte1 m.pattern.code, byte1 m.order.code] ++
  [byte1 ((y.confirmed.map fun c => c.1.code).getD 0), byte1 ((y.confirmed.map fun c => c.2.code).getD 0)] ++
  [y.orderTag.setWidth 8, s.syncByte i] ++
  seatKinds.map fun k => (s.slot (.seat i k)).byte

/-- A link record as READ-LINK returns it (19 bytes). -/
def State.linkBytes (s : State) (l : LinkId) : List Byte :=
  let r := s.links[l]
  [byte1 l.val, byte1 (flag r.enable), byte1 r.state.code, int8 r.offset] ++ nat16 r.badFrames ++
  [byte1 (flag r.identity.isSome + 2 * flag r.breakStart.isSome + 4 * flag r.lastBreak.isSome)] ++
  bytes32 (r.identity.getD 0) ++ bytes32 (r.breakStart.getD 0) ++ nat16 (r.lastBreak.getD 0) ++
  [byte1 r.attributed, (s.slot (.link l)).byte]

/-- A stranger entry as READ-STRANGERS returns it (15 bytes). -/
def Stranger.bytes (x : Stranger) : List Byte :=
  bytes32 x.radio ++ [x.boot, x.format] ++ bytes32 x.firstHeard ++ bytes32 x.lastHeard ++ [int8 x.strength]

/-- The due-unacknowledged entries of a port, in roster order (R108). -/
def State.dueUnackedList (s : State) (p : PortId) : List Entry := s.alerts.roster.filter fun e => s.dueUnacked p e

/-- The SUMMARY result of a port (19 bytes; R153). -/
def State.summaryBytes (s : State) (p : PortId) : List Byte :=
  let due := s.dueUnackedList p
  byte1 s.part.code :: bytes32 s.clock ++
  [byte1 s.alerts.roster.length, byte1 due.length,
    byte1 (due.foldl (fun n e => max n e.severity.num) 0)] ++
  nat16 ((due.head?.map (·.tag)).getD 0) ++
  [byte1 (flag s.alerts.overflow[p]), byte1 s.markers[p].last, byte1 s.strangers.length] ++
  allLinks.map fun l => byte1 s.links[l].state.code

end Sys2Proof.Machine
end

