-- ==== Sys2Proof/Machine/Seats.lean ====
section
/-! DEFINITION. What each request that names seats does, and how it is answered (1.2, 1.4, 4.7, 6.2, 6.3, 9.6): the
seat-or-range mechanism, QUIET to REVOKE-ALL, GRANT, BIND, UNBIND, TAG-FIRST, TAG-LAST. -/

namespace Sys2Proof.Machine

open Sys2Proof

/-- The answer to a request: its completion code, its result bytes, and whether the end of its response begins the
restart (R148). -/
structure Reply where
  completion : Completion
  result : List Byte
  restarts : Bool
deriving DecidableEq, Repr

/-- An answer DONE with result bytes. -/
def Reply.done (result : List Byte) : Reply := ⟨.done, result, false⟩

/-- An answer without result bytes (R145). -/
def Reply.bare (c : Completion) : Reply := ⟨c, [], false⟩

/-- DONE, or CLAMPED where a value was brought into range, with the values stored (R157). -/
def Reply.stored (clamped : Bool) (result : List Byte) : Reply := ⟨if clamped then .clamped else .done, result, false⟩

/-- The tag state of a port. -/
def State.setTag (s : State) (p : PortId) (t : TagState) : State := s.modPort p fun q => { q with tag := t }

/-! ## Seat ranges (R151, R152) -/

/-- The seats from `a` to `b`, ascending. -/
def seatsBetween (a b : SeatId) : List SeatId := allSeats.filter fun i => decide (a ≤ i) && decide (i ≤ b)

/-- The per-seat rule of a request: its answer for one seat, whether the seat changed, and its effect. -/
structure SeatAnswer where
  completion : Completion
  changed : Bool
  after : State

/-- The seat is not one the request applies to, or it stays as it is. -/
def SeatAnswer.same (s : State) (c : Completion) : SeatAnswer := ⟨c, false, s⟩

/-- The seat changed. -/
def SeatAnswer.change (s : State) : SeatAnswer := ⟨.done, true, s⟩

/-- The per-seat rule on each seat of a list, in order, counting the seats that changed (R152). -/
def State.overSeats (s : State) (rule : State → SeatId → SeatAnswer) (seats : List SeatId) : Nat × State :=
  seats.foldl (fun acc i => let a := rule acc.2 i; (acc.1 + flag a.changed, a.after)) (0, s)

/-- A seat-or-range request with seat argument `n` (R152): the tagged range for 0, else that seat alone. -/
def State.seatOrRange (s : State) (rule : State → SeatId → SeatAnswer) (ts : TagState) (n : Nat) : Reply × State :=
  if n = 0 then
    match ts with
    | .range a b =>
      let r := s.overSeats rule (seatsBetween a b)
      (.done [byte1 r.1], r.2)
    | .none | .first _ => (.bare .sequence, s)
  else
    match seatOfNumber n with
    | some i =>
      let a := rule s i
      if a.completion = .done then (.done [byte1 (flag a.changed)], a.after) else (.bare a.completion, s)
    | none => (.bare .badArgument, s)

/-- TAG-FIRST (R151). The tag state is already NONE. -/
def State.tagFirst (s : State) (p : PortId) (n : Nat) : Reply × State :=
  match seatOfNumber n with
  | some i => (.done [], s.setTag p (.first i))
  | none => (.bare .badArgument, s)

/-- The bench of a seat, from 0; the place of the seat in it, from 0 (00, Numbering). -/
def bench (i : SeatId) : Nat := i.val / 8
def benchPlace (i : SeatId) : Nat := i.val % 8

/-- The shape of a range that TAG-LAST allows (R151). -/
def rangeAllowed (a b : SeatId) : Bool :=
  decide (a ≤ b) && (decide (bench a = bench b) || (decide (benchPlace a = 0) && decide (benchPlace b = 7)))

/-- TAG-LAST, with the tag state it found (R151). -/
def State.tagLast (s : State) (p : PortId) (ts : TagState) (n : Nat) : Reply × State :=
  match ts with
  | .first a =>
    match seatOfNumber n with
    | some b => if rangeAllowed a b then (.done [], s.setTag p (.range a b)) else (.bare .range, s)
    | none => (.bare .badArgument, s)
  | .none | .range _ _ => (.bare .sequence, s)

/-! ## Per-seat rules -/

/-- QUIET on one seat (R10). -/
def State.quietRule (s : State) (i : SeatId) : SeatAnswer :=
  match s.seats[i].state with
  | .active => if s.seats[i].quiet then .same s .done else .change (s.setQuiet i)
  | .vacant => .same s .vacant
  | .awaiting | .standby | .lost | .refused => .same s .absent

/-- UNQUIET on one seat (R10). -/
def State.unquietRule (s : State) (i : SeatId) : SeatAnswer :=
  if s.seats[i].quiet then .change (s.clearQuiet i) else .same s .done

/-- HOLD on one seat (R92). -/
def State.holdRule (s : State) (i : SeatId) : SeatAnswer :=
  if s.bound i then
    match s.mute[i].hold with
    | .none | .auto => .change (s.holdConsole i)
    | .console => .same s .done
  else .same s .vacant

/-- FREE on one seat (R93). -/
def State.freeRule (s : State) (i : SeatId) : SeatAnswer :=
  if s.bound i then
    match s.mute[i].hold with
    | .none => .same s .done
    | .auto | .console => .change (s.freeHold i)
  else .same s .vacant

/-- SWAP on one seat (R65). -/
def State.swapRule (s : State) (i : SeatId) : SeatAnswer :=
  if s.bound i then
    match s.battery[i].level with
    | some level => .change (s.swapSeat i level)
    | none => .same s .absent
  else .same s .vacant

/-- REVOKE on one seat (R90). -/
def State.revokeRule (s : State) (i : SeatId) : SeatAnswer :=
  if s.bound i then (if s.mute[i].floor then .change (s.revokeFloor i) else .same s .done)
  else .same s .vacant

/-! ## Requests -/

/-- QUIET (R10). It changes no entry, no ack set and no view. -/
def State.quietRequest (s : State) (ts : TagState) (n : Nat) : Reply × State := s.seatOrRange State.quietRule ts n

/-- The outputs are evaluated at the end of a request's action; a request that is refused touches no block (R150). -/
def withOutputs (r : Reply × State) : Reply × State :=
  if r.1.completion = .done then (r.1, r.2.evalOutputs) else r

/-- UNQUIET (R10, R12). -/
def State.unquietRequest (s : State) (ts : TagState) (n : Nat) : Reply × State :=
  withOutputs (s.seatOrRange State.unquietRule ts n)

/-- HOLD (R92). -/
def State.holdRequest (s : State) (ts : TagState) (n : Nat) : Reply × State :=
  withOutputs (s.seatOrRange State.holdRule ts n)

/-- FREE (R93). -/
def State.freeRequest (s : State) (ts : TagState) (n : Nat) : Reply × State := s.seatOrRange State.freeRule ts n

/-- SWAP (R65). -/
def State.swapRequest (s : State) (ts : TagState) (n : Nat) : Reply × State :=
  withOutputs (s.seatOrRange State.swapRule ts n)

/-- REVOKE (R90). -/
def State.revokeRequest (s : State) (ts : TagState) (n : Nat) : Reply × State :=
  withOutputs (s.seatOrRange State.revokeRule ts n)

/-- REVOKE-ALL (R90): the steps of REVOKE on every seat holding the floor, in seat-number order. -/
def State.revokeAllRequest (s : State) : Reply × State :=
  let r := s.overSeats State.revokeRule (allSeats.filter fun i => s.mute[i].floor)
  withOutputs (.done [byte1 r.1], r.2)

/-- GRANT (R89). -/
def State.grantRequest (s : State) (n : Nat) : Reply × State :=
  match seatOfNumber n with
  | some i =>
    if !s.bound i then (.bare .vacant, s)
    else if s.mute[i].floor then (.done [], s)
    else if s.params.floorLimit ≤ s.floorCount then (.bare .floorFull, s)
    else withOutputs (.done [], s.grantFloor i)
  | none => (.bare .badArgument, s)

/-- BIND (R5). -/
def State.bindRequest (s : State) (n : Nat) (r : RadioId) : Reply × State :=
  match seatOfNumber n with
  | some i =>
    if !validRadio r then (.bare .badArgument, s)
    else if s.bound i then (.bare .seatTaken, s)
    else if (s.seatOf r).isSome then (.bare .idTaken, s)
    else (.done [], s.bindSeat i r)
  | none => (.bare .badArgument, s)

/-- UNBIND (R6). -/
def State.unbindRequest (s : State) (n : Nat) : Reply × State :=
  match seatOfNumber n with
  | some i => if s.bound i then withOutputs (.done [], s.unbindSeat i) else (.bare .vacant, s)
  | none => (.bare .badArgument, s)

end Sys2Proof.Machine
end

