-- ==== Sys2Proof/Machine/Requests.lean ====
section
/-! DEFINITION. The other requests: reads, ACK, SET-VIEW, the port settings, MARK, SET-PARAM, SET-LAMP, RESTART
(7.6, 7.7, 8.6, 9.7 to 9.9, 10.2, 10.3). -/

namespace Sys2Proof.Machine

open Sys2Proof

/-! ## Reads (R127, R153, R154) -/

/-- SUMMARY: the result, and then attention pending clears (R153, R160). -/
def State.summaryRequest (s : State) (p : PortId) : Reply × State :=
  (.done (s.summaryBytes p), s.clearAttention p)

/-- READ-ROSTER (R127). -/
def State.readRosterRequest (s : State) (p : PortId) (start count : Nat) : Reply × State :=
  if 1 ≤ count ∧ count ≤ 6 then
    let es := (s.alerts.roster.drop start).take count
    (.done (byte1 s.alerts.roster.length :: byte1 es.length :: es.flatMap (s.entryBytes p)), s)
  else (.bare .badArgument, s)

/-- READ-SEAT (R154). -/
def State.readSeatRequest (s : State) (n : Nat) : Reply × State :=
  match seatOfNumber n with
  | some i => (.done (s.seatBytes i), s)
  | none => (.bare .badArgument, s)

/-- READ-LINK (R154). -/
def State.readLinkRequest (s : State) (n : Nat) : Reply × State :=
  match linkOfNumber n with
  | some l => (.done (s.linkBytes l), s)
  | none => (.bare .badArgument, s)

/-- READ-STRANGERS (R154). -/
def State.readStrangersRequest (s : State) : Reply × State :=
  (.done (byte1 s.strangers.length :: s.strangers.flatMap Stranger.bytes), s)

/-- READ-PARAM (R154). -/
def State.readParamRequest (s : State) (n : Nat) : Reply × State :=
  match paramOfId n with
  | some q => (.done (byte1 n :: int16 (s.paramValue q)), s)
  | none => (.bare .badArgument, s)

/-! ## ACK (R121 to R124) -/

/-- The entry is in scope and the port is not yet in its ack set. -/
def Entry.newlyAcked (p : PortId) (scope : Entry → Bool) (e : Entry) : Bool := scope e && !e.acks[p]

/-- Several scopes are acknowledged in turn, within one event, over the entries present when the ACK is taken (R121): the
port joins their ack sets, the count is of those newly acknowledged, and each of these takes the removal test, scope by
scope, in roster order within a scope. An entry that a removal lists on the way is not reached (log 25). -/
def State.acknowledgeInTurn (s : State) (p : PortId) (scopes : List (Entry → Bool)) : Reply × State :=
  let newly := scopes.flatMap fun scope => s.alerts.roster.filter (Entry.newlyAcked p scope)
  let s1 := s.setRoster (s.alerts.roster.map fun e =>
    if scopes.any fun scope => scope e then { e with acks := e.acks.set p true } else e)
  (.done [byte1 newly.length], (s1.removalTests (newly.map (·.source))).evalOutputs)

/-- One scope is acknowledged (R121). -/
def State.acknowledge (s : State) (p : PortId) (scope : Entry → Bool) : Reply × State :=
  s.acknowledgeInTurn p [scope]

/-- The entry's origin is the seat. -/
def Entry.ofSeat (i : SeatId) (e : Entry) : Bool := decide (e.source.seat? = some i)

/-- ACK of scope SEAT (R123); seat 0 selects the tagged range, whose seats are taken in ascending order (R152). -/
def State.ackSeat (s : State) (p : PortId) (ts : TagState) (n : Nat) : Reply × State :=
  if n = 0 then
    match ts with
    | .range a b => s.acknowledgeInTurn p ((seatsBetween a b).map Entry.ofSeat)
    | .none | .first _ => (.bare .sequence, s)
  else
    match seatOfNumber n with
    | some i => s.acknowledge p (Entry.ofSeat i)
    | none => (.bare .badArgument, s)

/-- ACK of scope TAG (R122). -/
def State.ackTag (s : State) (p : PortId) (t : Nat) : Reply × State :=
  if s.alerts.roster.any fun e => e.tag == t then s.acknowledge p fun e => e.tag == t else (.bare .stale, s)

/-- ACK with its scope byte and value (R121). -/
def State.ackRequest (s : State) (p : PortId) (ts : TagState) (scope : Byte) (value : Nat) : Reply × State :=
  if scope = 1 then s.ackTag p value
  else if scope = 2 then s.ackSeat p ts value
  else if scope = 3 then s.acknowledge p (s.due p)
  else (.bare .badArgument, s)

/-! ## SET-VIEW (R155, R125) -/

/-- The view of base, limit, severity and kind-set arguments, if they are in range (R155, check 4). -/
def viewOfArgs (base limit : Nat) (severity : Byte) (kinds : BitVec 16) : Option View :=
  match severityOfCode severity with
  | some sev =>
    if 1 ≤ base ∧ base ≤ 192 ∧ 1 ≤ limit ∧ limit ≤ 192 ∧ kinds.toNat < 1024 then
      some ⟨base, limit, sev, kinds.setWidth 10⟩
    else none
  | none => none

/-- An entry that a new view makes due to the port, and that the port has not acknowledged, sets its attention
(R159). -/
def State.attendNewlyDue (s : State) (old : State) (p : PortId) : State :=
  s.attend fun q => q == p && s.alerts.roster.any fun e => s.dueUnacked p e && !old.due p e

/-- The sources of the ENDED entries, in roster order. -/
def State.endedSources (s : State) : List Source := (s.alerts.roster.filter (·.isEnded)).map (·.source)

/-- A view replaces the port's view: attention for entries newly due, the removal test on every ENDED entry, outputs
(R125, R155). -/
def State.storeView (s : State) (p : PortId) (v : View) : State :=
  let s1 := s.modPort p fun q => { q with view := v }
  ((s1.attendNewlyDue s p).removalTests s1.endedSources).evalOutputs

/-- SET-VIEW from port `p` for target `n` (R155). -/
def State.setViewRequest (s : State) (p : PortId) (n base limit : Nat) (severity : Byte) (kinds : BitVec 16) :
    Reply × State :=
  match portOfNumber n with
  | some t =>
    if t ≠ p ∧ s.ports[p].role ≠ .desk then (.bare .notPermitted, s)
    else if s.ports[t].role = .off then (.bare .badArgument, s)
    else
      match viewOfArgs base limit severity kinds with
      | some v => (.done [], s.storeView t v)
      | none => (.bare .badArgument, s)
  | none => (.bare .badArgument, s)

/-! ## Port settings (R156, R163, R114) -/

/-- A period is staged; it becomes active at once while the timer is stopped (R163). -/
def Reminder.stage (r : Reminder) (period : Nat) : Reminder :=
  match r.timer with
  | none => { r with staged := period, active := period }
  | some _ => { r with staged := period }

/-- SET-REMIND (R156, R163). -/
def State.setRemindRequest (s : State) (p : PortId) (period : Nat) : Reply × State :=
  let n := min period 255
  let s1 := s.modReminder p (Reminder.stage · n)
  (.stored (n != period) [byte1 n], s1.modReminder p (Reminder.evaluate · (s1.remindCondition p)))

/-- SET-MASK (R156). -/
def State.setMaskRequest (s : State) (p : PortId) (b : Byte) : Reply × State :=
  if b = 0 then (.done [], s.modPort p fun q => { q with mask := false })
  else if b = 1 then (.done [], s.modPort p fun q => { q with mask := true })
  else (.bare .badArgument, s)

/-- CLEAR-OVERFLOW (R114, R156). -/
def State.clearOverflowRequest (s : State) (p : PortId) : Reply × State :=
  (.done [], { s with alerts := { s.alerts with overflow := s.alerts.overflow.set p false } })

/-- MARK (R138). -/
def State.markRequest (s : State) (p : PortId) : Reply × State :=
  if Config.queueSize ≤ s.queue.length then (.bare .queueFull, s)
  else if Config.markersPerPort ≤ s.markerCount p then (.bare .markLimit, s)
  else (.done [byte1 s.markers[p].next], s.placeMarker p)

/-! ## SET-PARAM (R157) -/

/-- SET-PARAM: the value is brought into range and stored; the values stored are returned. -/
def State.setParamRequest (s : State) (n : Nat) (v : Int) : Reply × State :=
  match paramOfId n with
  | some q =>
    let stored := s.storedValue q v
    let s1 := s.storeParam q stored
    let lowered := decide (q = .lowMinutes) && s1.params.critMinutes != s.params.critMinutes
    (.stored (stored != v || lowered)
      (int16 stored ++ if lowered then nat16 s1.params.critMinutes else []), s1.evalOutputs)
  | none => (.bare .badArgument, s)

/-! ## SET-LAMP (R158, R168) -/

/-- A lamp with new mode, selector and staged values; the active values take the staged ones at once unless the lamp
is blinking as the request finds it (R168, log 6). -/
def Lamp.configure (m : Lamp) (mode : LampMode) (lowest : Severity) (scope : LampScope) (p o : Nat) : Lamp :=
  let new := { m with mode := mode, lowest := lowest, scope := scope, stagedP := p, stagedO := o }
  if m.blinking then new else { new with activeP := p, activeO := o }

/-- SET-LAMP's effect: the configuration, and then the lamp follows its demand. -/
def State.configureLamp (s : State) (m : LampId) (mode : LampMode) (lowest : Severity) (scope : LampScope)
    (p o : Nat) : State :=
  let new := s.lamps[m].configure mode lowest scope p o
  s.modLamp m fun _ => new.follow s.clock (s.lampDemand new)

/-- SET-LAMP with its argument bytes (R158, 11.3). -/
def State.setLampRequest (s : State) (args : List Byte) : Reply × State :=
  match lampOfNumber (argNat args 0), modeOfCode (argByte args 1), severityOfCode (argByte args 2),
    scopeOfCode (argByte args 3) (argNat args 4) with
  | some m, some mode, some lowest, some scope =>
    let p := max 2 (min 50 (argNat args 5))
    let o := min 50 (argNat args 6)
    (.stored (p != argNat args 5 || o != argNat args 6) [byte1 p, byte1 o], s.configureLamp m mode lowest scope p o)
  | _, _, _, _ => (.bare .badArgument, s)

/-- RESTART is answered DONE; the end of its response begins the restart (R148). -/
def State.restartRequest (s : State) : Reply × State := (⟨.done, [], true⟩, s)

/-! ## All requests -/

/-- A request that passed checks 1 to 4 of R150: its own checks, its action and its answer. `ts` is the tag state it
found; the port's tag state is already NONE. -/
def State.perform (s : State) (p : PortId) (ts : TagState) (args : List Byte) : Request → Reply × State
  | .summary => s.summaryRequest p
  | .readRoster => s.readRosterRequest p (argNat args 0) (argNat args 1)
  | .readSeat => s.readSeatRequest (argNat args 0)
  | .readLink => s.readLinkRequest (argNat args 0)
  | .readStrangers => s.readStrangersRequest
  | .readParam => s.readParamRequest (argNat args 0)
  | .ack => s.ackRequest p ts (argByte args 0) (argWord16 args 1).toNat
  | .setView => s.setViewRequest p (argNat args 0) (argNat args 1) (argNat args 2) (argByte args 3) (argWord16 args 4)
  | .setRemind => s.setRemindRequest p (argWord16 args 0).toNat
  | .setMask => s.setMaskRequest p (argByte args 0)
  | .clearOverflow => s.clearOverflowRequest p
  | .mark => s.markRequest p
  | .tagFirst => s.tagFirst p (argNat args 0)
  | .tagLast => s.tagLast p ts (argNat args 0)
  | .quiet => s.quietRequest ts (argNat args 0)
  | .unquiet => s.unquietRequest ts (argNat args 0)
  | .hold => s.holdRequest ts (argNat args 0)
  | .free => s.freeRequest ts (argNat args 0)
  | .swap => s.swapRequest ts (argNat args 0)
  | .grant => s.grantRequest (argNat args 0)
  | .revoke => s.revokeRequest ts (argNat args 0)
  | .revokeAll => s.revokeAllRequest
  | .bind => s.bindRequest (argNat args 0) (argWord32 args 1)
  | .unbind => s.unbindRequest (argNat args 0)
  | .setParam => s.setParamRequest (argNat args 0) (argWord16 args 1).toInt
  | .setLamp => s.setLampRequest args
  | .restart => s.restartRequest

end Sys2Proof.Machine
end

