-- ==== Sys2Proof/Machine/Console.lean ====
section
/-! DEFINITION. The console ports (9.2 to 9.5): answering, the checks of R150, arrivals and the waiting place, the end
of a response, and the restart that the end of a RESTART response begins. -/

namespace Sys2Proof.Machine

open Sys2Proof

/-! ## The restart (R149) -/

/-- A link record after RESTART (R24): its enable, offset, identity, lines and an ORDER frame on the line are kept. -/
def LinkRec.restarted (r : LinkRec) : LinkRec where
  enable := r.enable
  state := if r.enable then .down else .disabled
  offset := r.offset
  badFrames := 0
  identity := r.identity
  breakStart := none
  lastBreak := none
  silence := none
  slot := none
  attributed := 0
  rx := .hunting
  lineActive := r.lineActive
  breakTimer := none
  tx := r.tx

/-- A seat record after RESTART: a VACANT seat stays as it is, a bound one keeps its radio ID alone (R2). -/
def SeatRec.restarted (q : SeatRec) : SeatRec :=
  if q.state = .vacant then q else { SeatRec.vacant with radio := q.radio, state := .awaiting }

/-- A section of the seat records after RESTART: a bound seat takes the value given, a VACANT one stays as it is
(R2). -/
def State.onBound (s : State) {α : Type} (sections : Vector α 192) (fresh : α) : Vector α 192 :=
  Vector.ofFn fun i => if s.bound i then fresh else sections[i]

/-- A response on the line goes on; it begins no second restart (R148). -/
def Response.withoutRestart (r : Response) : Response := { r with restarts := false }

/-- A console port after RESTART (R149). -/
def PortRec.restarted (q : PortRec) : PortRec :=
  { q with rx := .hunting, waiting := none, overrun := false, tag := .none,
           response := q.response.map Response.withoutRestart }

/-- The restart begins (R149, with R2, R24, R41, R70, R87, R104, R128, R165, R169). -/
def State.beginRestart (s : State) : State :=
  ({ s with
    part := .starting
    clock := 0
    initTimer := some Config.initMs
    links := s.links.map LinkRec.restarted
    openFrames := []
    seats := s.seats.map SeatRec.restarted
    strangers := []
    battery := s.onBound s.battery (Battery.fresh s.params.drain[0])
    signal := s.onBound s.signal Signal.fresh
    mute := s.onBound s.mute Mute.fresh
    floorCount := 0
    alerts := Alerts.initial
    attention := noPorts
    queue := []
    syncs := s.onBound s.syncs SyncRec.fresh
    markers := Vector.replicate 4 Markers.initial
    ports := s.ports.map PortRec.restarted }).evalOutputs

/-! ## Answering (R145) -/

/-- An answer begins on the port's transmit line; it carries OVERRUN if the flag is set, and the flag clears. -/
def State.respond (s : State) (p : PortId) (code : Byte) (r : Reply) : State :=
  s.modPort p fun q =>
    { q with overrun := false, response := some ⟨code, r.completion, q.overrun, r.result, r.restarts⟩ }

/-! ## Taking an arrival (R150, R143) -/

/-- Checks 1, 3 and 4 of R150 on a request that is named: the answer of the first that fails. -/
def State.precheck (s : State) (p : PortId) (r : Request) (args : List Byte) : Option Completion :=
  if s.part = .starting ∧ r ≠ .summary then some .starting
  else if !r.permits s.ports[p].role then some .notPermitted
  else if args.length ≠ r.argCount then some .badArgument
  else none

/-- A good request is taken: the tag state becomes NONE, the checks of R150 are made, and it is acted on and
answered. -/
def State.takeRequest (s : State) (p : PortId) (r : Request) (args : List Byte) : State :=
  let s0 := s.setTag p .none
  match s.precheck p r args with
  | some c => s0.respond p r.code (.bare c)
  | none =>
    let a := s0.perform p s.ports[p].tag args r
    a.2.respond p r.code a.1

/-- A good request whose code names no request is taken (R150, checks 1 and 2). -/
def State.takeUnknown (s : State) (p : PortId) (code : Byte) : State :=
  (s.setTag p .none).respond p code (.bare (if s.part = .starting then .starting else .unknownRequest))

/-- An arrival is taken: a good request, or a bad frame, which is answered FRAME-ERROR (R143, R145). -/
def State.take (s : State) (p : PortId) : Arrival → State
  | .badFrame code => s.respond p (code.getD 0) (.bare .frameError)
  | .request code args =>
    match requestOfCode code with
    | some r => s.takeRequest p r args
    | none => s.takeUnknown p code

/-- The port receives nothing: its role is OFF (R141), or its line is held after a port break (R146). -/
def PortRec.deaf (q : PortRec) : Bool := q.role == .off || q.inBreak

/-- An arrival at a port (R144): taken at once, or put in the waiting place, or dropped with the overrun flag set. -/
def State.arrive (s : State) (p : PortId) (a : Arrival) : State :=
  let q := s.ports[p]
  if q.deaf then s
  else if q.response.isNone then s.take p a
  else if q.waiting.isNone then s.modPort p fun q => { q with waiting := some a }
  else s.modPort p fun q => { q with overrun := true }

/-- A good request arrives. -/
def State.arriveRequest (s : State) (p : PortId) (r : Request) (args : List Byte) : State :=
  s.arrive p (.request r.code args)

/-! ## The end of a response (R144, R148) -/

/-- The response leaves the line. -/
def State.dropResponse (s : State) (p : PortId) : State := s.modPort p fun q => { q with response := none }

/-- The response of the port is a RESTART response whose end begins the restart. -/
def PortRec.restarting (q : PortRec) : Bool := (q.response.map (·.restarts)).getD false

/-- The arrival in the waiting place, if any, is taken, and the place empties (R144). -/
def State.takeWaiting (s : State) (p : PortId) : State :=
  match s.ports[p].waiting with
  | some a => (s.modPort p fun q => { q with waiting := none }).take p a
  | none => s

/-- The response of a port ends: a RESTART response begins the restart, any other lets the waiting arrival be taken
(R144, R148). A RESTART response that another one forestalled counts as any other (log 28). -/
def State.responseEnds (s : State) (p : PortId) : State :=
  if s.ports[p].restarting then (s.dropResponse p).beginRestart
  else if s.ports[p].response.isSome then (s.dropResponse p).takeWaiting p
  else s

/-- The end of a RESTART response, as the row RESTART_BEGIN names it (R149, log 5). -/
def State.restartBegins (s : State) (p : PortId) : State :=
  if s.ports[p].restarting then (s.dropResponse p).beginRestart else s

/-! ## Port break (R146) -/

/-- The port's own part of a port break: steps 1 to 4, and no byte is received while the line stays held. -/
def PortRec.reset (q : PortRec) : PortRec :=
  { q with rx := .hunting, waiting := none, response := none, overrun := false, tag := .none,
           inBreak := true, lineActive := true, breakTimer := none }

/-- A port break resets the port (R146, R140); a RESTART response that it cuts off begins the restart (R148). -/
def State.portBreaks (s : State) (p : PortId) : State :=
  if s.ports[p].deaf then s
  else
    let s1 := ((s.modPort p PortRec.reset).clearAttention p).dropMarkers p s.queue.length
    if s.ports[p].restarting then s1.beginRestart else s1

/-- The held line of a port returns to idle: the port hunts for a start byte (R146). -/
def State.portBreakEnds (s : State) (p : PortId) : State :=
  if s.ports[p].inBreak then
    s.modPort p fun q => { q with inBreak := false, lineActive := false, breakTimer := none, rx := .hunting }
  else s

/-- The request code byte of a frame under assembly, if it has been received (R143). -/
def Assembly.code? : Assembly → Option Byte
  | .body _ got => got.head?
  | .hunting | .started => none

/-- The inter-byte timer of a port expires: the frame under assembly is a bad frame (R142, R143). While the port
hunts the timer is stopped. -/
def State.consoleTimeout (s : State) (p : PortId) : State :=
  if s.ports[p].rx = .hunting then s
  else (s.modPort p fun q => { q with rx := .hunting }).arrive p (.badFrame s.ports[p].rx.code?)

end Sys2Proof.Machine
end

