-- ==== Sys2Proof/Machine/Power.lean ====
section
/-! DEFINITION. Power-on, the roles the straps give, the completion of initialisation, the chamber clock (9.1, 9.4). -/

namespace Sys2Proof.Machine

open Sys2Proof

/-- The role strapped on one port (9.1). -/
def strapRole (x : Strap) : Role :=
  match x.a, x.b with
  | false, false => .off
  | false, true => .monitor
  | true, false => .desk
  | true, true => .chair

/-- A port of a lower number is strapped CHAIR. -/
def chairBelow (straps : Vector Strap 4) (p : PortId) : Bool :=
  allPorts.any fun q => decide (q < p) && strapRole straps[q] == .chair

/-- The roles the straps give: the lowest-numbered CHAIR keeps it, the others take MONITOR (R141). -/
def rolesOf (straps : Vector Strap 4) : Vector Role 4 :=
  Vector.ofFn fun p => if strapRole straps[p] = .chair ∧ chairBelow straps p then .monitor else strapRole straps[p]

/-- The 100 ms of a port break measured from now, on a line already held. -/
def PortRec.measureHeld (q : PortRec) (held : Bool) : PortRec :=
  { q with lineActive := held, breakTimer := if held && q.role != .off then some Config.portBreakMs else none }

/-- Power-on (R147 and the power-on rules of each chapter). The levels of the receive lines are the world's, and so
are the commands and line events not yet taken (log 12). An ORDER frame on a downlink is cut off, and so is a response
on a console transmit line, which no rule says (logs 24 and 30). -/
def State.powerOn (s : State) (straps : Vector Strap 4) : State :=
  let t := State.afterPowerOn (rolesOf straps)
  { t with
    links := Vector.ofFn fun l => { t.links[l] with lineActive := s.links[l].lineActive }
    ports := Vector.ofFn fun p => t.ports[p].measureHeld s.ports[p].lineActive
    pending := s.pending
    rxInput := s.rxInput }

/-- A link begins to receive as the part becomes READY; a line held at that moment starts a break there (R25). -/
def LinkRec.begin (r : LinkRec) : LinkRec :=
  if r.enable then { r with rx := .hunting }.measureHeld else r

/-- Initialisation completes (R147, R149, R25); a part that is READY has none to complete. -/
def State.becomeReady (s : State) : State :=
  if s.part = .starting then
    { s with part := .ready, clock := 0, initTimer := none, links := s.links.map LinkRec.begin }
  else s

/-- A tenth goes by: the chamber clock counts modulo 2³² in READY, and stands in STARTING (R147). -/
def State.tick (s : State) : State := if s.part = .ready then { s with clock := s.clock + 1 } else s

end Sys2Proof.Machine
end

