-- ==== Sys2Proof/Machine/Line.lean ====
section
/-! DEFINITION. The receive lines: the assembly of uplink frames (R26, R27, R170, R172) and of console request frames
(R142, R143, R170), and the line levels that breaks are measured from (R25, R32, R146). A frame that completes or
ends early joins the pending commands as the row of the table it amounts to. -/

namespace Sys2Proof.Machine

open Sys2Proof

/-- What one more character does to a frame under assembly: the assembly goes on, the frame ends early as a bad
frame, or it completes with its length byte and the bytes after it. -/
inductive Assembled where
  | going (a : Assembly)
  | endedEarly
  | complete (length : Nat) (got : List Byte)
deriving DecidableEq, Repr

/-- One character received, by start byte and greatest length (R26, R142). -/
def Assembly.receive (start : Byte) (longest : Nat) (a : Assembly) (b : Byte) : Assembled :=
  match a with
  | .hunting => .going (if b = start then .started else .hunting)
  | .started => if 1 ≤ b.toNat ∧ b.toNat ≤ longest then .going (.body b.toNat []) else .endedEarly
  | .body n got => if got.length + 1 < n + 2 then .going (.body n (got ++ [b])) else .complete n (got ++ [b])

/-- The two bytes at an offset, most significant first. -/
def wordAt (bs : List Byte) (k : Nat) : BitVec 16 := bs.getD k 0 ++ bs.getD (k + 1) 0

/-- The CRC received equals the CRC computed over the length byte and the bytes it counts (R170). -/
def crcMatches (n : Nat) (got : List Byte) : Bool := wordAt got n == crc16 (byte1 n :: got.take n)

/-! ## Antenna links -/

/-- The payload of a COPY frame, from the bytes after its kind byte (11.2). -/
def payloadOf (bs : List Byte) : MicPayload where
  radio := wordAt bs 0 ++ wordAt bs 2
  boot := bs.getD 4 0
  frame := wordAt bs 5
  format := bs.getD 7 0
  cls := bs.getD 8 0
  level := bs.getD 9 0
  audio := bs.getD 10 0
  echo := bs.getD 11 0

/-- The row a complete uplink frame amounts to: the checks of R27, and then the fields of its kind (11.2). -/
def uplinkRow (l : LinkId) (n : Nat) (got : List Byte) : Instr :=
  let body := got.drop 1
  if !crcMatches n got then .uplinkBadFrame l
  else if got.head? = some 0x01 ∧ n = 14 then .copy l (payloadOf body) (body.getD 12 0)
  else if got.head? = some 0x02 ∧ n = 5 then .status l (wordAt body 0 ++ wordAt body 2)
  else .uplinkBadFrame l

/-- A command joins the pending ones. -/
def State.post (s : State) (c : Instr) : State := { s with pending := s.pending ++ [c] }

/-- The frame under assembly on a link. -/
def State.setLinkRx (s : State) (l : LinkId) (a : Assembly) : State := s.modLink l fun r => { r with rx := a }

/-- A character with its stop bit, on a link that receives (R26). -/
def State.linkByte (s : State) (l : LinkId) (b : Byte) : State :=
  match s.links[l].rx.receive Config.uplinkStart Config.maxUplinkLength b with
  | .going a => s.setLinkRx l a
  | .endedEarly => (s.setLinkRx l .hunting).post (.uplinkBadFrame l)
  | .complete n got => (s.setLinkRx l .hunting).post (uplinkRow l n got)

/-- A character without its stop bit ends the frame under assembly; while hunting it is passed over (R26). -/
def State.linkFramingError (s : State) (l : LinkId) : State :=
  if s.links[l].rx = .hunting then s else (s.setLinkRx l .hunting).post (.uplinkBadFrame l)

/-- The receive line goes to its active level: a link that receives starts to measure a break (R32). -/
def State.linkActive (s : State) (l : LinkId) : State :=
  s.modLink l fun r =>
    { r with lineActive := true, breakTimer := if s.linkHears l then some Config.linkBreakMs else none }

/-- The receive line returns to idle: the end of a break on a BROKEN link (R33). -/
def State.linkIdle (s : State) (l : LinkId) : State :=
  if s.links[l].state = .broken then s.post (.breakEnd l)
  else s.modLink l fun r => { r with lineActive := false, breakTimer := none }

/-- Activity on the receive line of a link. -/
def State.linkEvent (s : State) (l : LinkId) : LineEvent → State
  | .byte b => if s.linkHears l then s.linkByte l b else s
  | .framingError _ => if s.linkHears l then s.linkFramingError l else s
  | .active => s.linkActive l
  | .idle => s.linkIdle l

/-! ## Console ports -/

/-- The row of a request (11.3). -/
def Request.row (r : Request) (p : PortId) (args : List Byte) : Instr :=
  match r with
  | .summary => .summary p args
  | .readRoster => .readRoster p args
  | .readSeat => .readSeat p args
  | .readLink => .readLink p args
  | .readStrangers => .readStrangers p args
  | .readParam => .readParam p args
  | .ack => .ack p args
  | .setView => .setView p args
  | .setRemind => .setRemind p args
  | .setMask => .setMask p args
  | .clearOverflow => .clearOverflow p args
  | .mark => .mark p args
  | .tagFirst => .tagFirst p args
  | .tagLast => .tagLast p args
  | .quiet => .quiet p args
  | .unquiet => .unquiet p args
  | .hold => .hold p args
  | .free => .free p args
  | .swap => .swap p args
  | .grant => .grant p args
  | .revoke => .revoke p args
  | .revokeAll => .revokeAll p args
  | .bind => .bind p args
  | .unbind => .unbind p args
  | .setParam => .setParam p args
  | .setLamp => .setLamp p args
  | .restart => .restart p args

/-- The row an arrival at a port that sends no response amounts to. -/
def rowOfArrival (p : PortId) : Arrival → Instr
  | .badFrame code => .frameError p code
  | .request code args =>
    match requestOfCode code with
    | some r => r.row p args
    | none => .unknownRequest p code args

/-- The row an arrival amounts to: ARRIVAL_WAITING while the port is sending (R144). -/
def State.arrivalRow (s : State) (p : PortId) (a : Arrival) : Instr :=
  if s.ports[p].response.isSome then .arrivalWaiting p a else rowOfArrival p a

/-- The arrival a complete request frame amounts to (R143). -/
def requestArrival (n : Nat) (got : List Byte) : Arrival :=
  if crcMatches n got then .request (got.getD 0 0) ((got.take n).drop 1) else .badFrame got.head?

/-- The frame under assembly at a port. -/
def State.setPortRx (s : State) (p : PortId) (a : Assembly) : State := s.modPort p fun q => { q with rx := a }

/-- An arrival is posted, and the port hunts again (R142). -/
def State.postArrival (s : State) (p : PortId) (a : Arrival) : State :=
  (s.setPortRx p .hunting).post (s.arrivalRow p a)

/-- A character with its stop bit, at a port that receives (R142). -/
def State.portByte (s : State) (p : PortId) (b : Byte) : State :=
  match s.ports[p].rx.receive Config.requestStart Config.maxRequestLength b with
  | .going a => s.setPortRx p a
  | .endedEarly => s.postArrival p (.badFrame none)
  | .complete n got => s.postArrival p (requestArrival n got)

/-- A character without its stop bit ends the frame under assembly as a bad frame; while hunting it is passed over
(R142, R146). The character itself is not taken, so a request code byte that arrives so counts as not received
(log 27). -/
def State.portFramingError (s : State) (p : PortId) : State :=
  if s.ports[p].rx = .hunting then s else s.postArrival p (.badFrame s.ports[p].rx.code?)

/-- The receive line goes to its active level: a port that receives starts to measure a break (R146). -/
def State.portActive (s : State) (p : PortId) : State :=
  s.modPort p fun q =>
    { q with lineActive := true, breakTimer := if q.deaf then none else some Config.portBreakMs }

/-- The receive line returns to idle: the end of a hold that was a port break (R146). -/
def State.portIdle (s : State) (p : PortId) : State :=
  if s.ports[p].inBreak then s.post (.portBreakEnd p)
  else s.modPort p fun q => { q with lineActive := false, breakTimer := none }

/-- Activity on the receive line of a port. -/
def State.portEvent (s : State) (p : PortId) : LineEvent → State
  | .byte b => if s.ports[p].deaf then s else s.portByte p b
  | .framingError _ => if s.ports[p].deaf then s else s.portFramingError p
  | .active => s.portActive p
  | .idle => s.portIdle p

/-- Activity of one receive line. -/
def State.receive (s : State) : LineInput → State
  | .uplink l e => s.linkEvent l e
  | .console p e => s.portEvent p e

end Sys2Proof.Machine
end

