-- ==== Sys2Proof/Machine/PowerEvents.lean ====
section
/-! DEFINITION. The meanings of POWER_ON, INITIALISATION_COMPLETE, RESTART_BEGIN and CHAMBER_CLOCK_TICK. -/

namespace Sys2Proof.Machine

open Sys2Proof

/-- What one command answers. -/
abbrev Result := Host.Outcome State Fault Refusal

/-- POWER_ON (R141, R147). -/
def execPowerOn (straps : Vector Strap 4) (s : State) : Result := .next (s.powerOn straps)

/-- INITIALISATION_COMPLETE (R147, R149, R25). -/
def execInitialisationComplete (s : State) : Result := .next s.becomeReady

/-- RESTART_BEGIN: the end of the RESTART response of a port (R148, R149). -/
def execRestartBegin (p : PortId) (s : State) : Result := .next (s.restartBegins p)

/-- CHAMBER_CLOCK_TICK (R147). -/
def execChamberClockTick (s : State) : Result := .next s.tick

end Sys2Proof.Machine
end

