-- ==== Sys2Proof/Machine/AntennaEvents.lean ====
section
/-! DEFINITION. The meanings of the antenna rows: COPY, STATUS, bad frames, breaks, silence, slots, merge windows, the
end of an ORDER frame. Frames and breaks reach a link only while it receives (R25, R26, R34). -/

namespace Sys2Proof.Machine

open Sys2Proof

/-- A good COPY frame: the link state, then the corrected copy to the Merge Unit (R28, R29). -/
def State.copyFrame (s : State) (l : LinkId) (payload : MicPayload) (raw : Byte) : State :=
  (s.goodFrame l).copyArrives payload l (correctedStrength raw.toInt s.links[l].offset)

/-- A good STATUS frame: the link state, then the receiver identity (R28, R30). -/
def State.statusFrame (s : State) (l : LinkId) (identity : BitVec 32) : State :=
  (s.goodFrame l).modLink l fun r => { r with identity := some identity }

/-- COPY (R29). It is one event, as R42 and R44 say: reminders and lamps are evaluated once, at its end, also where it
forces one frame and completes another, each of whose takings R14 and R51 call one event. The seat's desired values are
derived at each taking (log 31). -/
def execCopy (l : LinkId) (payload : MicPayload) (raw : Byte) (s : State) : Result :=
  .next (if s.linkHears l then (s.copyFrame l payload raw).evalOutputs else s)

/-- STATUS (R30). -/
def execStatus (l : LinkId) (identity : BitVec 32) (s : State) : Result :=
  .next (if s.linkHears l then (s.statusFrame l identity).evalOutputs else s)

/-- UPLINK_BAD_FRAME (R27). -/
def execUplinkBadFrame (l : LinkId) (s : State) : Result :=
  .next (if s.linkHears l then s.modLink l LinkRec.countBad else s)

/-- UPLINK_INTER_BYTE_TIMEOUT (R26): the frame under assembly counts as one of wrong length. While the link hunts the
timer is stopped. -/
def execUplinkInterByteTimeout (l : LinkId) (s : State) : Result :=
  .next (if s.linkHears l ∧ s.links[l].rx ≠ .hunting then
      s.modLink l fun r => { r with rx := .hunting }.countBad
    else s)

/-- BREAK_DETECTED (R32). -/
def execBreakDetected (l : LinkId) (s : State) : Result :=
  .next (if s.linkHears l then (s.detectBreak l).evalOutputs else s)

/-- BREAK_END (R33). -/
def execBreakEnd (l : LinkId) (s : State) : Result := .next (s.endBreak l)

/-- SILENCE_TIMER_EXPIRY (R31). -/
def execSilenceTimerExpiry (l : LinkId) (s : State) : Result :=
  .next (if s.links[l].silence.isSome then (s.silenceExpires l).evalOutputs else s)

/-- DOWNLINK_SLOT (R39, R131 to R133). -/
def execDownlinkSlot (l : LinkId) (s : State) : Result := .next (s.slotExpires l)

/-- MERGE_WINDOW_EXPIRY (R48). -/
def execMergeWindowExpiry (k : FrameKey) (s : State) : Result :=
  .next (if (s.openFrame? k).isSome then (s.windowExpires k).evalOutputs else s)

/-- ORDER_FRAME_END: the downlink line returns to idle (R40). -/
def execOrderFrameEnd (l : LinkId) (s : State) : Result := .next (s.modLink l fun r => { r with tx := none })

end Sys2Proof.Machine
end

