-- ==== Sys2Proof/Machine/ConsoleEvents.lean ====
section
/-! DEFINITION. The meanings of the console rows that are no named request (9.2, 9.3, 9.5). -/

namespace Sys2Proof.Machine

open Sys2Proof

/-- CONSOLE_INTER_BYTE_TIMEOUT (R142). -/
def execConsoleInterByteTimeout (p : PortId) (s : State) : Result := .next (s.consoleTimeout p)

/-- FRAME_ERROR (R143). -/
def execFrameError (p : PortId) (code : Option Byte) (s : State) : Result := .next (s.arrive p (.badFrame code))

/-- ARRIVAL_WAITING (R144). -/
def execArrivalWaiting (p : PortId) (a : Arrival) (s : State) : Result := .next (s.arrive p a)

/-- RESPONSE_END (R144). -/
def execResponseEnd (p : PortId) (s : State) : Result := .next (s.responseEnds p)

/-- PORT_BREAK (R146). -/
def execPortBreak (p : PortId) (s : State) : Result := .next (s.portBreaks p)

/-- PORT_BREAK_END (R146). -/
def execPortBreakEnd (p : PortId) (s : State) : Result := .next (s.portBreakEnds p)

/-- UNKNOWN_REQUEST (R150). -/
def execUnknownRequest (p : PortId) (code : Byte) (args : List Byte) (s : State) : Result :=
  .next (s.arrive p (.request code args))

end Sys2Proof.Machine
end

