-- ==== Sys2Proof/Machine/OutputEvents.lean ====
section
/-! DEFINITION. The meanings of the timer rows of reminders and lamps (10.2, 10.3). -/

namespace Sys2Proof.Machine

open Sys2Proof

/-- Steps 2 and 3 of R164: the active period takes the staged one, and the timer starts again unless it is 0. -/
def Reminder.expire (r : Reminder) : Reminder :=
  { r with active := r.staged, timer := if r.staged = 0 then none else some (10 * r.staged) }

/-- The reminder timer of a port expires (R164). -/
def State.reminderExpires (s : State) (p : PortId) : State :=
  (s.attend fun q => q == p).modReminder p Reminder.expire

/-- The lit part of a running cycle gives way to the dark part, of P − O tenths (R167). -/
def Lamp.endLit (m : Lamp) : Lamp :=
  match m.cycle with
  | .running start (.lit _) => { m with cycle := .running start (.dark (m.activeP - m.activeO)) }
  | _ => m

/-- The period of a running cycle ends with its dark part: the active values take the staged ones, and a new cycle
starts if they blink (R168). -/
def Lamp.endPeriod (m : Lamp) (clock : Stamp) : Lamp :=
  match m.cycle with
  | .running _ (.dark _) =>
    let new := { m with activeP := m.stagedP, activeO := m.stagedO }
    { new with cycle := new.freshCycle clock }
  | _ => m

/-- REMINDER_TIMER_EXPIRY (R164). A stopped timer does not expire. -/
def execReminderTimerExpiry (p : PortId) (s : State) : Result :=
  .next (if s.reminders[p].timer.isSome then s.reminderExpires p else s)

/-- LAMP_ON_TIME_END (R167). -/
def execLampOnTimeEnd (m : LampId) (s : State) : Result := .next (s.modLamp m Lamp.endLit)

/-- LAMP_PERIOD_END (R168). -/
def execLampPeriodEnd (m : LampId) (s : State) : Result := .next (s.modLamp m (Lamp.endPeriod · s.clock))

end Sys2Proof.Machine
end

