-- ==== Sys2Proof/Machine/RequestEvents.lean ====
section
/-! DEFINITION. The meanings of the request rows: the request arrives at its port (R144), is checked (R150), acted on
and answered (R145). What each does is in Seats.lean and Requests.lean. -/

namespace Sys2Proof.Machine

open Sys2Proof

/-- SUMMARY (R153, R160). -/
def execSummary (p : PortId) (args : List Byte) (s : State) : Result := .next (s.arriveRequest p .summary args)

/-- READ-ROSTER (R127). -/
def execReadRoster (p : PortId) (args : List Byte) (s : State) : Result := .next (s.arriveRequest p .readRoster args)

/-- READ-SEAT (R154). -/
def execReadSeat (p : PortId) (args : List Byte) (s : State) : Result := .next (s.arriveRequest p .readSeat args)

/-- READ-LINK (R154). -/
def execReadLink (p : PortId) (args : List Byte) (s : State) : Result := .next (s.arriveRequest p .readLink args)

/-- READ-STRANGERS (R154). -/
def execReadStrangers (p : PortId) (args : List Byte) (s : State) : Result := .next (s.arriveRequest p .readStrangers args)

/-- READ-PARAM (R154). -/
def execReadParam (p : PortId) (args : List Byte) (s : State) : Result := .next (s.arriveRequest p .readParam args)

/-- ACK (R121 to R124). -/
def execAck (p : PortId) (args : List Byte) (s : State) : Result := .next (s.arriveRequest p .ack args)

/-- SET-VIEW (R155, R125). -/
def execSetView (p : PortId) (args : List Byte) (s : State) : Result := .next (s.arriveRequest p .setView args)

/-- SET-REMIND (R156, R163). -/
def execSetRemind (p : PortId) (args : List Byte) (s : State) : Result := .next (s.arriveRequest p .setRemind args)

/-- SET-MASK (R156). -/
def execSetMask (p : PortId) (args : List Byte) (s : State) : Result := .next (s.arriveRequest p .setMask args)

/-- CLEAR-OVERFLOW (R114, R156). -/
def execClearOverflow (p : PortId) (args : List Byte) (s : State) : Result := .next (s.arriveRequest p .clearOverflow args)

/-- MARK (R138, R139). -/
def execMark (p : PortId) (args : List Byte) (s : State) : Result := .next (s.arriveRequest p .mark args)

/-- TAG-FIRST (R151). -/
def execTagFirst (p : PortId) (args : List Byte) (s : State) : Result := .next (s.arriveRequest p .tagFirst args)

/-- TAG-LAST (R151). -/
def execTagLast (p : PortId) (args : List Byte) (s : State) : Result := .next (s.arriveRequest p .tagLast args)

/-- QUIET (R10, R11). -/
def execQuiet (p : PortId) (args : List Byte) (s : State) : Result := .next (s.arriveRequest p .quiet args)

/-- UNQUIET (R10, R12). -/
def execUnquiet (p : PortId) (args : List Byte) (s : State) : Result := .next (s.arriveRequest p .unquiet args)

/-- HOLD (R92). -/
def execHold (p : PortId) (args : List Byte) (s : State) : Result := .next (s.arriveRequest p .hold args)

/-- FREE (R93). -/
def execFree (p : PortId) (args : List Byte) (s : State) : Result := .next (s.arriveRequest p .free args)

/-- SWAP (R65). -/
def execSwap (p : PortId) (args : List Byte) (s : State) : Result := .next (s.arriveRequest p .swap args)

/-- GRANT (R89). -/
def execGrant (p : PortId) (args : List Byte) (s : State) : Result := .next (s.arriveRequest p .grant args)

/-- REVOKE (R90). -/
def execRevoke (p : PortId) (args : List Byte) (s : State) : Result := .next (s.arriveRequest p .revoke args)

/-- REVOKE-ALL (R90). -/
def execRevokeAll (p : PortId) (args : List Byte) (s : State) : Result := .next (s.arriveRequest p .revokeAll args)

/-- BIND (R5). -/
def execBind (p : PortId) (args : List Byte) (s : State) : Result := .next (s.arriveRequest p .bind args)

/-- UNBIND (R6). -/
def execUnbind (p : PortId) (args : List Byte) (s : State) : Result := .next (s.arriveRequest p .unbind args)

/-- SET-PARAM (R157). -/
def execSetParam (p : PortId) (args : List Byte) (s : State) : Result := .next (s.arriveRequest p .setParam args)

/-- SET-LAMP (R158, R168). -/
def execSetLamp (p : PortId) (args : List Byte) (s : State) : Result := .next (s.arriveRequest p .setLamp args)

/-- RESTART (R148). -/
def execRestart (p : PortId) (args : List Byte) (s : State) : Result := .next (s.arriveRequest p .restart args)

end Sys2Proof.Machine
end

