-- ==== Sys2Proof/Machine/SeatEvents.lean ====
section
/-! DEFINITION. The meanings of the timer rows of seats and strangers. A stopped timer does not expire (log 3). -/

namespace Sys2Proof.Machine

open Sys2Proof

/-- STRANGER_AGING_EXPIRY (R9). -/
def execStrangerAgingExpiry (r : RadioId) (s : State) : Result :=
  .next { s with strangers := withoutStranger r s.strangers }

/-- LOSS_TIMER_EXPIRY (R21). -/
def execLossTimerExpiry (i : SeatId) (s : State) : Result :=
  .next (if s.signal[i].lossTimer.isSome then (s.lossTimerExpires i).evalOutputs else s)

/-- RECOVERY_GRACE_EXPIRY (R82). -/
def execRecoveryGraceExpiry (i : SeatId) (s : State) : Result :=
  .next (if s.signal[i].grace.isSome then (s.graceExpires i).evalOutputs else s)

/-- VOICE_QUALIFY_EXPIRY (R96). -/
def execVoiceQualifyExpiry (i : SeatId) (s : State) : Result :=
  .next (if s.mute[i].voiceQualify.isSome then (s.voiceQualifyExpires i).evalOutputs else s)

/-- VOICE_END_EXPIRY (R96). -/
def execVoiceEndExpiry (i : SeatId) (s : State) : Result :=
  .next (if s.mute[i].voiceEnd.isSome then (s.voiceEndExpires i).evalOutputs else s)

/-- OPEN_GRACE_EXPIRY (R96, R94). -/
def execOpenGraceExpiry (i : SeatId) (s : State) : Result :=
  .next (if s.mute[i].openGrace.isSome then (s.openGraceExpires i).evalOutputs else s)

/-- FLOOR_MUTED_QUALIFY_EXPIRY (R97). -/
def execFloorMutedQualifyExpiry (i : SeatId) (s : State) : Result :=
  .next (if s.mute[i].floorMutedQualify.isSome then (s.floorMutedQualifyExpires i).evalOutputs else s)

/-- CHATTER_WINDOW_EXPIRY (R98). -/
def execChatterWindowExpiry (i : SeatId) (s : State) : Result :=
  .next (if s.mute[i].chatterWindow.isSome then (s.chatterWindowExpires i).evalOutputs else s)

/-- SYNC_WINDOW_EXPIRY (R135). -/
def execSyncWindowExpiry (i : SeatId) (s : State) : Result := .next (s.syncWindowExpires i)

end Sys2Proof.Machine
end

