-- ==== Sys2Proof/Machine/Dispatch.lean ====
section
/-! DEFINITION. Which meaning each command has: one arm for each constructor of Instr. -/

namespace Sys2Proof.Machine

open Sys2Proof

/-- The effect of a command on everything but the pending commands. -/
def exec (i : Instr) (s : State) : Host.Outcome State Fault Refusal :=
  match i with
  | .powerOn straps => Sys2Proof.Machine.execPowerOn straps s
  | .initialisationComplete => Sys2Proof.Machine.execInitialisationComplete s
  | .restart p args => Sys2Proof.Machine.execRestart p args s
  | .restartBegin p => Sys2Proof.Machine.execRestartBegin p s
  | .copy l payload raw => Sys2Proof.Machine.execCopy l payload raw s
  | .status l identity => Sys2Proof.Machine.execStatus l identity s
  | .uplinkBadFrame l => Sys2Proof.Machine.execUplinkBadFrame l s
  | .uplinkInterByteTimeout l => Sys2Proof.Machine.execUplinkInterByteTimeout l s
  | .breakDetected l => Sys2Proof.Machine.execBreakDetected l s
  | .breakEnd l => Sys2Proof.Machine.execBreakEnd l s
  | .silenceTimerExpiry l => Sys2Proof.Machine.execSilenceTimerExpiry l s
  | .downlinkSlot l => Sys2Proof.Machine.execDownlinkSlot l s
  | .mergeWindowExpiry key => Sys2Proof.Machine.execMergeWindowExpiry key s
  | .strangerAgingExpiry radio => Sys2Proof.Machine.execStrangerAgingExpiry radio s
  | .lossTimerExpiry seat => Sys2Proof.Machine.execLossTimerExpiry seat s
  | .recoveryGraceExpiry seat => Sys2Proof.Machine.execRecoveryGraceExpiry seat s
  | .voiceQualifyExpiry seat => Sys2Proof.Machine.execVoiceQualifyExpiry seat s
  | .voiceEndExpiry seat => Sys2Proof.Machine.execVoiceEndExpiry seat s
  | .openGraceExpiry seat => Sys2Proof.Machine.execOpenGraceExpiry seat s
  | .floorMutedQualifyExpiry seat => Sys2Proof.Machine.execFloorMutedQualifyExpiry seat s
  | .chatterWindowExpiry seat => Sys2Proof.Machine.execChatterWindowExpiry seat s
  | .syncWindowExpiry seat => Sys2Proof.Machine.execSyncWindowExpiry seat s
  | .reminderTimerExpiry p => Sys2Proof.Machine.execReminderTimerExpiry p s
  | .lampOnTimeEnd m => Sys2Proof.Machine.execLampOnTimeEnd m s
  | .lampPeriodEnd m => Sys2Proof.Machine.execLampPeriodEnd m s
  | .consoleInterByteTimeout p => Sys2Proof.Machine.execConsoleInterByteTimeout p s
  | .frameError p code => Sys2Proof.Machine.execFrameError p code s
  | .arrivalWaiting p a => Sys2Proof.Machine.execArrivalWaiting p a s
  | .responseEnd p => Sys2Proof.Machine.execResponseEnd p s
  | .portBreak p => Sys2Proof.Machine.execPortBreak p s
  | .unknownRequest p code args => Sys2Proof.Machine.execUnknownRequest p code args s
  | .summary p args => Sys2Proof.Machine.execSummary p args s
  | .readRoster p args => Sys2Proof.Machine.execReadRoster p args s
  | .readSeat p args => Sys2Proof.Machine.execReadSeat p args s
  | .readLink p args => Sys2Proof.Machine.execReadLink p args s
  | .readStrangers p args => Sys2Proof.Machine.execReadStrangers p args s
  | .readParam p args => Sys2Proof.Machine.execReadParam p args s
  | .ack p args => Sys2Proof.Machine.execAck p args s
  | .setView p args => Sys2Proof.Machine.execSetView p args s
  | .setRemind p args => Sys2Proof.Machine.execSetRemind p args s
  | .setMask p args => Sys2Proof.Machine.execSetMask p args s
  | .clearOverflow p args => Sys2Proof.Machine.execClearOverflow p args s
  | .mark p args => Sys2Proof.Machine.execMark p args s
  | .tagFirst p args => Sys2Proof.Machine.execTagFirst p args s
  | .tagLast p args => Sys2Proof.Machine.execTagLast p args s
  | .quiet p args => Sys2Proof.Machine.execQuiet p args s
  | .unquiet p args => Sys2Proof.Machine.execUnquiet p args s
  | .hold p args => Sys2Proof.Machine.execHold p args s
  | .free p args => Sys2Proof.Machine.execFree p args s
  | .swap p args => Sys2Proof.Machine.execSwap p args s
  | .grant p args => Sys2Proof.Machine.execGrant p args s
  | .revoke p args => Sys2Proof.Machine.execRevoke p args s
  | .revokeAll p args => Sys2Proof.Machine.execRevokeAll p args s
  | .bind p args => Sys2Proof.Machine.execBind p args s
  | .unbind p args => Sys2Proof.Machine.execUnbind p args s
  | .setParam p args => Sys2Proof.Machine.execSetParam p args s
  | .setLamp p args => Sys2Proof.Machine.execSetLamp p args s
  | .chamberClockTick => Sys2Proof.Machine.execChamberClockTick s
  | .portBreakEnd p => Sys2Proof.Machine.execPortBreakEnd p s
  | .orderFrameEnd l => Sys2Proof.Machine.execOrderFrameEnd l s

end Sys2Proof.Machine
end

