-- ==== Sys2Proof/Machine/Step.lean ====
section
/-! DEFINITION. One step: the command at the front of the pending ones; with none pending, one event of a receive
line; with neither, the part idles. -/

namespace Sys2Proof.Machine

open Sys2Proof

/-- One step of the part (log 2). -/
def step (s : State) : Host.Outcome State Fault Refusal :=
  match s.pending with
  | c :: rest => exec c { s with pending := rest }
  | [] =>
    match s.rxInput with
    | e :: rest => .next ({ s with rxInput := rest }.receive e)
    | [] => .next s

/-- The state with the command a word spells at the front of the pending ones; no word spells one (log 14). -/
def State.withFetchWord (s : State) (nbits w : Nat) : State :=
  match decodeTableWord nbits w with
  | some c => { s with pending := c :: s.pending }
  | none => s

end Sys2Proof.Machine
end

