-- ==== Sys2Proof/Safety.lean ====
section
/-! DEFINITION. What a safe state of the part is: the capacities, ranges and relations the manual says always hold.
Also the vocabulary of frames: which blocks of the state a command may change. -/

namespace Sys2Proof.Machine

open Sys2Proof

/-! ## Frames -/

/-- The blocks of the state, one for each field of `State`. -/
inductive Block where
  | part | clock | initTimer | params | links | openFrames | seats | strangers | battery | signal | mute | floorCount
  | alerts | attention | queue | syncs | markers | ports | reminders | lamps | pending | rxInput
deriving DecidableEq, Repr

/-- The block is the same in both states. -/
def Block.Same (s t : State) : Block → Prop
  | .part => t.part = s.part
  | .clock => t.clock = s.clock
  | .initTimer => t.initTimer = s.initTimer
  | .params => t.params = s.params
  | .links => t.links = s.links
  | .openFrames => t.openFrames = s.openFrames
  | .seats => t.seats = s.seats
  | .strangers => t.strangers = s.strangers
  | .battery => t.battery = s.battery
  | .signal => t.signal = s.signal
  | .mute => t.mute = s.mute
  | .floorCount => t.floorCount = s.floorCount
  | .alerts => t.alerts = s.alerts
  | .attention => t.attention = s.attention
  | .queue => t.queue = s.queue
  | .syncs => t.syncs = s.syncs
  | .markers => t.markers = s.markers
  | .ports => t.ports = s.ports
  | .reminders => t.reminders = s.reminders
  | .lamps => t.lamps = s.lamps
  | .pending => t.pending = s.pending
  | .rxInput => t.rxInput = s.rxInput

/-- Every block outside the list is the same in both states. -/
def ChangesOnly (blocks : List Block) (s t : State) : Prop := ∀ b, b ∉ blocks → b.Same s t

/-- A record of one of the tables other than that at `i` is unchanged. -/
def SameBut {α : Type} {n : Nat} (i : Fin n) (v w : Vector α n) : Prop := ∀ j, j ≠ i → w[j] = v[j]

/-! ## Requests and answers -/

/-- The part is READY, the port sends nothing and receives, and its role may make the request: with the right number of
argument bytes the request is taken at once and reaches its own checks (R144, R150). -/
def Admitted (s : State) (p : PortId) (r : Request) : Prop :=
  s.part = .ready ∧ s.ports[p].inBreak = false ∧ s.ports[p].response = none ∧ r.permits s.ports[p].role = true

/-- The port as it answers a request: the response with the OVERRUN flag, the overrun flag and the tag state cleared
(R145, R150). -/
def PortRec.answering (q : PortRec) (code : Byte) (c : Completion) (result : List Byte) : PortRec :=
  { q with tag := .none, overrun := false, response := some ⟨code, c, q.overrun, result, false⟩ }

/-- The port answers, and no other port changes. -/
def Answers (s t : State) (p : PortId) (code : Byte) (c : Completion) (result : List Byte) : Prop :=
  t.ports = s.ports.set p (s.ports[p].answering code c result)

/-- The state in which the port answers and nothing else has changed. -/
def State.answered (s : State) (p : PortId) (code : Byte) (c : Completion) (result : List Byte) : State :=
  { s with ports := s.ports.set p (s.ports[p].answering code c result) }

/-- ACK with these argument bytes is answered DONE: the port joins the ack set of every entry in scope, the count is of
the entries newly acknowledged, and no entry is removed (R121). -/
def AckAdds (s : State) (p : PortId) (args : List Byte) (scope : Entry → Bool) : Prop :=
  ∃ t, exec (.ack p args) s = .next t ∧
    t.alerts = { s.alerts with
      roster := s.alerts.roster.map fun e => if scope e then { e with acks := e.acks.set p true } else e } ∧
    Answers s t p 0x10 .done [byte1 (s.alerts.roster.countP fun e => scope e && !e.acks[p])] ∧
    ChangesOnly [.alerts, .ports, .reminders, .lamps] s t

/-- The argument byte that names a seat. -/
def seatByte (i : SeatId) : Byte := byte1 (seatNumber i)

/-! ## Frames on the lines and in the table -/

/-- The bytes that a length byte counts in a COPY frame (11.2). -/
def copyBytes (m : MicPayload) (raw : Byte) : List Byte :=
  0x01 :: bytes32 m.radio ++ [m.boot] ++ bytes16 m.frame ++ [m.format, m.cls, m.level, m.audio, m.echo, raw]

/-- The state after the characters of a list have come in on an uplink, in order. -/
def State.uplinkBytes (s : State) (l : LinkId) (bs : List Byte) : State :=
  bs.foldl (fun t b => t.receive (.uplink l (.byte b))) s

/-- The state after the characters of a list have come in on a console port, in order. -/
def State.consoleBytes (s : State) (p : PortId) (bs : List Byte) : State :=
  bs.foldl (fun t b => t.receive (.console p (.byte b))) s

/-- The open frame stands in the table, and no other has its key. -/
def Stands (s : State) (o : OpenFrame) : Prop :=
  o ∈ s.openFrames ∧ ∀ x ∈ s.openFrames, OpenFrame.key x = OpenFrame.key o → x = o

/-- The open-frame table without an open frame. -/
def openFramesWithout (s : State) (o : OpenFrame) : List OpenFrame :=
  s.openFrames.filter fun x => OpenFrame.key x != OpenFrame.key o

/-- The radio ID is valid and bound to the seat alone (R3, R4). -/
def BoundTo (s : State) (r : RadioId) (i : SeatId) : Prop :=
  r ≠ 0 ∧ r ≠ 0xFFFFFFFF ∧ s.seats[i].radio = some r ∧ ∀ j : SeatId, s.seats[j].radio = some r → j = i

/-- No record of the seat sections but that of the seat has changed. -/
def OtherSeatsSame (i : SeatId) (s t : State) : Prop :=
  SameBut i s.seats t.seats ∧ SameBut i s.battery t.battery ∧ SameBut i s.signal t.signal ∧ SameBut i s.mute t.mute

/-! ## Capacities -/

/-- The tables hold no more than the manual gives them, and no two open frames share a key (R7, R42, R109, R128,
5.4). -/
def Capacity (s : State) : Prop :=
  s.alerts.roster.length ≤ Config.rosterSize ∧ s.queue.length ≤ Config.queueSize ∧
  s.openFrames.length ≤ Config.openFrameSize ∧ s.strangers.length ≤ Config.strangerSize ∧
  (∀ i : SeatId, s.signal[i].history.length ≤ Config.historySize) ∧ (s.openFrames.map OpenFrame.key).Nodup

/-! ## Parameters and the floor -/

/-- The parameters lie in their ranges, and critical minutes below low minutes (9.9, R69, R157). -/
def Params.InRange (ps : Params) : Prop :=
  (6 ≤ ps.lossTime ∧ ps.lossTime ≤ 50) ∧ (-110 ≤ ps.weakThreshold ∧ ps.weakThreshold ≤ -60) ∧
  (5 ≤ ps.lowMinutes ∧ ps.lowMinutes ≤ 60) ∧ (1 ≤ ps.critMinutes ∧ ps.critMinutes < ps.lowMinutes) ∧
  (∀ c : Fin 4, 1 ≤ ps.drain[c] ∧ ps.drain[c] ≤ 4095) ∧
  (10 ≤ ps.voiceQualify ∧ ps.voiceQualify ≤ 100) ∧ ps.openGrace ≤ 100 ∧
  (20 ≤ ps.floorMutedQualify ∧ ps.floorMutedQualify ≤ 300) ∧
  (3 ≤ ps.chatterThreshold ∧ ps.chatterThreshold ≤ 15) ∧
  (1 ≤ ps.floorLimit ∧ ps.floorLimit ≤ 16) ∧ (2 ≤ ps.mergeWindow ∧ ps.mergeWindow ≤ 20)

/-- The parameters are in range, the signal offsets too; the floor count is the number of floor flags, all of bound
seats, and does not exceed the floor limit (R88, R91). -/
def Settings (s : State) : Prop :=
  s.params.InRange ∧ s.floorCount ≤ s.params.floorLimit ∧
  (∀ l : LinkId, -8 ≤ s.links[l].offset ∧ s.links[l].offset ≤ 7) ∧
  s.floorCount = allSeats.countP (fun i => s.mute[i].floor) ∧ ∀ i : SeatId, s.mute[i].floor = true → s.bound i = true

/-! ## The binding map -/

/-- A radio ID is bound to at most one seat, a seat has one exactly while it is not VACANT, a bound one is no
stranger's, and bound ones are valid (R4, R5); a running loss timer is an ACTIVE seat's (R16, R77); no two strangers
share a radio ID (R7). -/
def BindingMap (s : State) : Prop :=
  (∀ i : SeatId, s.seats[i].radio.isSome = s.bound i) ∧
  (∀ i j : SeatId, ∀ r, s.seats[i].radio = some r → s.seats[j].radio = some r → i = j) ∧
  (∀ x ∈ s.strangers, ∀ i : SeatId, s.seats[i].radio ≠ some x.radio) ∧
  (∀ i : SeatId, ∀ r, s.seats[i].radio = some r → validRadio r = true) ∧
  (∀ i : SeatId, s.signal[i].lossTimer.isSome = true → s.seats[i].state = .active) ∧
  (s.strangers.map (·.radio)).Nodup

/-! ## The roster -/

/-- `a` may stand ahead of `b`: higher severity, or the same and a lower rank (R106). -/
def Entry.ahead (a b : Entry) : Prop :=
  b.severity.num < a.severity.num ∨ (a.severity = b.severity ∧ a.rank < b.rank)

/-- Roster order in at most 48 entries, no two with one rank, and no rank above the rank counter (R106, R109). -/
def RosterOrder (s : State) : Prop :=
  s.alerts.roster.length ≤ Config.rosterSize ∧
  s.alerts.roster.Pairwise Entry.ahead ∧ s.alerts.rankCounter ≤ Config.maxRank ∧
  (∀ e ∈ s.alerts.roster, e.rank ≤ s.alerts.rankCounter) ∧ (s.alerts.roster.map (·.rank)).Nodup

/-- At most 48 entries, and no two with one tag; tags and the next-tag counter lie in 1..65535 (R105, R109). -/
def TagsDistinct (s : State) : Prop :=
  s.alerts.roster.length ≤ Config.rosterSize ∧ (s.alerts.roster.map (·.tag)).Nodup ∧
  (∀ e ∈ s.alerts.roster, 1 ≤ e.tag ∧ e.tag ≤ Config.maxTag) ∧
  1 ≤ s.alerts.nextTag ∧ s.alerts.nextTag ≤ Config.maxTag

/-- The roster's two relations together. -/
def RosterSound (s : State) : Prop := RosterOrder s ∧ TagsDistinct s

/-- Entries and condition slots agree: no two entries have one origin and kind, the LIVE entries are those of the LISTED
conditions, at their severity, and a WAITING condition has no entry (R109, R113). -/
def EntriesMatch (s : State) : Prop :=
  (s.alerts.roster.map (·.source)).Nodup ∧
  (∀ e ∈ s.alerts.roster, e.phase = .live →
    ∃ r, s.slot e.source = .raised r ∧ r.listing = .listed ∧ r.severity = e.severity) ∧
  (∀ src r, s.slot src = .raised r → r.listing = .listed → ∃ e ∈ s.alerts.roster, e.source = src ∧ e.phase = .live) ∧
  (∀ src r, s.slot src = .raised r → r.listing = .waiting → ∀ e ∈ s.alerts.roster, e.source ≠ src)

/-- What can raise a condition is at work only while the condition is not raised: a qualify timer while it is
QUALIFYING, and on a bound seat (R96, R97); the loss timer and an attribution while SIGNAL_LOSS is not raised (R78, R80);
the silence timer and the state UP while RECEIVER_LINK is not (R31, R35, R37). A link that is not enabled is DISABLED
(R34). -/
def ConditionsMatch (s : State) : Prop :=
  (∀ i : SeatId,
    (s.mute[i].voiceQualify.isSome = true → s.slot (.seat i .voiceInMute) = .qualifying ∧ s.bound i = true) ∧
    (s.mute[i].openGrace.isSome = true → s.slot (.seat i .openNoFloor) = .qualifying ∧ s.bound i = true) ∧
    (s.mute[i].floorMutedQualify.isSome = true → s.slot (.seat i .floorMuted) = .qualifying ∧ s.bound i = true) ∧
    (s.signal[i].lossTimer.isSome = true → s.seats[i].state = .active) ∧
    ((s.slot (.seat i .signalLoss)).isRaised = true → s.seats[i].state = .lost ∧ s.signal[i].cause = .signal) ∧
    (∀ l, s.signal[i].cause = .link l → s.seats[i].state = .lost)) ∧
  (∀ l : LinkId, (s.links[l].silence.isSome = true → s.links[l].state = .up) ∧
    (s.links[l].state = .up → (s.slot (.link l)).isRaised = false) ∧
    (s.links[l].enable = false → s.links[l].state = .disabled))

/-- Roster, slots and what raises conditions agree. -/
def RosterMatches (s : State) : Prop := EntriesMatch s ∧ ConditionsMatch s

/-! ## Listing (7.3 to 7.5) -/

/-- The entries `es`, in roster order, with `e` behind those of its severity or above (R106). -/
def placed (e : Entry) (es : List Entry) : List Entry :=
  es.filter (fun x => decide (e.severity.num ≤ x.severity.num)) ++
    e :: es.filter fun x => decide (x.severity.num < e.severity.num)

/-- An entry is created among the present entries `es` for a condition RAISED as `r` says, which is LISTED: the fields
of R109, a rank above all, and a tag no present entry holds, the next-tag counter's if it is free (R105, R106). -/
def EntryCreated (s t : State) (es : List Entry) (src : Source) (r : Raised) : Prop :=
  t.slot src = .raised { r with listing := .listed } ∧ t.alerts.rankCounter = s.alerts.rankCounter + 1 ∧
  ∃ e, t.alerts.roster = placed e es ∧ t.alerts.nextTag = (if e.tag < 65535 then e.tag + 1 else 1) ∧
    (∀ x ∈ es, e.tag ≠ x.tag) ∧ ((∀ x ∈ es, x.tag ≠ s.alerts.nextTag) → e.tag = s.alerts.nextTag) ∧
    e = { tag := e.tag, source := src, severity := r.severity, phase := .live, stamp := r.stamp,
          rank := s.alerts.rankCounter + 1, acks := noPorts, detail := t.detailOf src }

/-- The entry that gives way to a condition of severity `sev`: below it, an ENDED one of oldest rank, or where none of
those is ENDED the newest of the lowest severity (R111). -/
def IsVictim (es : List Entry) (sev : Severity) (v : Entry) : Prop :=
  v ∈ es ∧ v.severity.num < sev.num ∧
  (v.isEnded = true → ∀ x ∈ es, x.severity.num < sev.num → x.isEnded = true → v.rank ≤ x.rank) ∧
  (v.isEnded = false → ∀ x ∈ es, x.severity.num < sev.num → x.isEnded = false ∧
    (v.severity.num < x.severity.num ∨ (v.severity = x.severity ∧ x.rank ≤ v.rank)))

/-- A condition RAISED as `r` says makes a listing attempt: it supersedes its ENDED entry, takes a free place, takes the
place of a victim, or is WAITING, with the overflow marks and the attention of each (R109 to R114, R159). That nothing
is re-listed behind a supersession by a lower severity is R110, the model's choice over R113 (log 26). -/
def ListingAttempted (s t : State) (src : Source) (r : Raised) : Prop :=
  let es := s.alerts.roster
  ((∃ x ∈ es, x.source = src ∧ x.isEnded = true) →
    EntryCreated s t (es.filter fun x => x.source != src) src r ∧ t.alerts.overflow = s.alerts.overflow ∧
    ∀ p : PortId, t.attention[p] = (s.dueTo p src r.severity || s.attention[p])) ∧
  ((∀ x ∈ es, x.source ≠ src) → es.length < 48 →
    EntryCreated s t es src r ∧ t.alerts.overflow = s.alerts.overflow ∧
    ∀ p : PortId, t.attention[p] = (s.dueTo p src r.severity || s.attention[p])) ∧
  (∀ v, (∀ x ∈ es, x.source ≠ src) → es.length = 48 → IsVictim es r.severity v →
    EntryCreated s t (es.filter fun x => x.source != v.source) src r ∧
    (∀ p : PortId, t.alerts.overflow[p] = (s.due p v || s.alerts.overflow[p]) ∧
      t.attention[p] =
        (s.dueTo p src r.severity || (s.due p v && !s.alerts.overflow[p]) || s.attention[p])) ∧
    (v.isEnded = false → t.slot v.source = (s.slot v.source).mapRaised fun x =>
      { x with listing := if s.isQuiet v.source then .quieted else .waiting })) ∧
  ((∀ x ∈ es, x.source ≠ src ∧ r.severity.num ≤ x.severity.num) → es.length = 48 →
    t.alerts.roster = es ∧ t.slot src = .raised { r with listing := .waiting } ∧
    t.alerts.rankCounter = s.alerts.rankCounter ∧ t.alerts.nextTag = s.alerts.nextTag ∧
    ∀ p : PortId, t.alerts.overflow[p] = (s.dueTo p src r.severity || s.alerts.overflow[p]) ∧
      t.attention[p] = ((s.dueTo p src r.severity && !s.alerts.overflow[p]) || s.attention[p]))

/-- A listing attempt of a condition of severity `sev` touches no other condition's slot but its victim's. -/
def OthersStay (s t : State) (src : Source) (sev : Severity) : Prop :=
  ∀ other, other ≠ src →
    (s.alerts.roster.length = 48 → ∀ v ∈ s.alerts.roster, IsVictim s.alerts.roster sev v → v.source ≠ other) →
    t.slot other = s.slot other

/-- A mute condition is raised at a timer's expiry, with the seat's last audio state in its detail: QUIETED with no effect
on the roster on a quiet seat, else with a listing attempt (R11, R95, R109). The roster is in order, below its last
rank, agrees with the slots, and holds no LIVE entry of the condition, as the invariants say. -/
def MuteRaised (s t : State) (i : SeatId) (k : SeatKind) (sev : Severity) : Prop :=
  ∀ a, s.seats[i].lastAudio = some a →
    (s.seats[i].quiet = true → t.slot (.seat i k) = .raised ⟨sev, .quieted, s.clock, .audio a⟩ ∧
      t.alerts.roster = s.alerts.roster ∧ t.alerts.overflow = s.alerts.overflow ∧ t.attention = s.attention) ∧
    (s.seats[i].quiet = false → RosterSound s → EntriesMatch s → s.alerts.rankCounter < Config.maxRank →
      (∀ x ∈ s.alerts.roster, x.source = .seat i k → x.isEnded = true) →
      ListingAttempted s t (.seat i k) ⟨sev, .waiting, s.clock, .audio a⟩)

/-- The place of a condition among others of its severity and raised stamp: seats by number and kind order, then
links (R119). -/
def Source.place : Source → Nat
  | .seat i k => 9 * i.val + k.idx.val
  | .link l => 9 * 192 + l.val

/-- The first condition comes before the second where both are to be listed: higher severity, then older raised stamp,
then place (R12, R119). -/
def ComesBefore (s : State) (src : Source) (r : Raised) (src' : Source) (r' : Raised) : Prop :=
  r'.severity.num < r.severity.num ∨ (r'.severity = r.severity ∧
    ((s.clock - r'.stamp).toNat < (s.clock - r.stamp).toNat ∨ (r'.stamp = r.stamp ∧ src.place < src'.place)))

/-- The condition is the first of the WAITING ones (R119). -/
def FirstWaiting (s : State) (src : Source) (r : Raised) : Prop :=
  s.slot src = .raised r ∧ r.listing = .waiting ∧
  ∀ src' r', s.slot src' = .raised r' → r'.listing = .waiting → src' ≠ src → ComesBefore s src r src' r'

/-- The listed conditions are the QUIETED ones of the seat, in the order of their listing attempts (R12). -/
def QuietedInOrder (s : State) (i : SeatId) (cs : List (Source × Raised)) : Prop :=
  (∀ c ∈ cs, c.1.seat? = some i ∧ s.slot c.1 = .raised c.2 ∧ c.2.listing = .quieted) ∧
  (∀ k r, s.slot (.seat i k) = .raised r → r.listing = .quieted → (Source.seat i k, r) ∈ cs) ∧
  cs.Pairwise fun a b => ComesBefore s a.1 a.2 b.1 b.2

/-- The conditions make their listing attempts one after the other (R12). -/
def AttemptsInTurn : List (Source × Raised) → State → State → Prop
  | [], s, t => t.alerts = s.alerts ∧ t.attention = s.attention
  | c :: cs, s, t => ∃ u, ChangesOnly [.alerts, .attention] s u ∧ ListingAttempted s u c.1 c.2 ∧
      OthersStay s u c.1 c.2.severity ∧ AttemptsInTurn cs u t

/-! ## Ending, removal and escalation (7.4, 7.5) -/

/-- Every port the entry is due to has acknowledged it (R108). -/
def AckedByAll (s : State) (e : Entry) : Prop := ∀ p : PortId, s.due p e = true → e.acks[p] = true

/-- The entry of the condition leaves the roster: its place stays free, or the first WAITING condition is listed there
(R118, R119). -/
def EntryRemoved (s t : State) (src : Source) : Prop :=
  let es := s.alerts.roster.filter fun x => x.source != src
  ((∀ other r, s.slot other = .raised r → r.listing ≠ .waiting) →
    t.alerts = { s.alerts with roster := es } ∧ t.attention = s.attention) ∧
  (∀ next r, FirstWaiting s next r → EntryCreated s t es next r ∧ t.alerts.overflow = s.alerts.overflow ∧
    (∀ other, other ≠ next → t.slot other = s.slot other) ∧
    ∀ p : PortId, t.attention[p] = (s.dueTo p next r.severity || s.attention[p]))

/-- The entries of the conditions leave the roster one after the other, each with its re-listing (R119). -/
def RemovedInTurn : List Source → State → State → Prop
  | [], s, t => t.alerts = s.alerts ∧ t.attention = s.attention
  | src :: srcs, s, t => ∃ u, ChangesOnly [.alerts, .attention] s u ∧ EntryRemoved s u src ∧ RemovedInTurn srcs u t

/-- A RAISED condition whose detail the ending leaves has ended: its slot is CLEAR, and a LISTED one's entry is ENDED,
stamped, with the removal test made on it (R117, R118). -/
def ConditionEnded (s t : State) (src : Source) : Prop :=
  ∀ r, s.slot src = .raised r →
    (r.listing ≠ .listed → t.alerts = s.alerts.setSlot src .clear ∧ t.attention = s.attention) ∧
    (r.listing = .listed → ∀ pre e post, s.alerts.roster = pre ++ e :: post → e.source = src →
      (let a : Alerts :=
        { s.alerts.setSlot src .clear with roster := pre ++ { e with phase := .ended s.clock } :: post }
       (e.severity ≠ .notice → ¬AckedByAll s e → t.alerts = a ∧ t.attention = s.attention) ∧
       (e.severity = .notice ∨ AckedByAll s e → EntryRemoved { s with alerts := a } t src)))

/-- A condition RAISED at the low severity, of a kind whose detail an escalation leaves, has escalated: a LISTED one's
entry has the new severity, a new rank and an empty ack set, a WAITING one makes a listing attempt (R115, R116). One that
is not raised at that severity is as it was. -/
def EscalatedFrom (s t : State) (src : Source) (low high : Severity) : Prop :=
  ((s.slot src).severity? ≠ some low → t.alerts = s.alerts ∧ t.attention = s.attention) ∧
  ∀ r, s.slot src = .raised r → r.severity = low →
    (let a := s.alerts.setSlot src (.raised { r with severity := high })
     (r.listing = .quieted → t.alerts = a ∧ t.attention = s.attention) ∧
     (r.listing = .waiting →
       ListingAttempted s t src { r with severity := high } ∧ OthersStay s t src high) ∧
     (r.listing = .listed → ∀ e ∈ s.alerts.roster, e.source = src →
       t.alerts = { a with
         roster := placed { e with severity := high, rank := s.alerts.rankCounter + 1, acks := noPorts }
           (s.alerts.roster.filter fun x => x.source != src)
         rankCounter := s.alerts.rankCounter + 1 } ∧
       ∀ p : PortId, t.attention[p] = (s.dueTo p src high || s.attention[p])))

/-- The roster is sound, agrees with the slots, and has so many ranks to give before its counter is renumbered. -/
def RosterReady (s : State) (ranks : Nat) : Prop :=
  RosterSound s ∧ EntriesMatch s ∧ s.alerts.rankCounter + ranks ≤ Config.maxRank

/-- ACK with these argument bytes is answered DONE with the count of entries newly acknowledged; the port joins the ack
set of every entry in one of the scopes, and of those newly acknowledged the ENDED ones that are NOTICE or then
acknowledged by all are removed, scope by scope, in roster order within each (R118, R119, R121, R152). The entries are
those present when the ACK is taken (log 25). -/
def AckTaken (s : State) (p : PortId) (args : List Byte) (scopes : List (Entry → Bool)) : Prop :=
  ∃ t, exec (.ack p args) s = .next t ∧
    (let newly := scopes.flatMap fun scope => s.alerts.roster.filter fun e => scope e && !e.acks[p]
     let leaving := newly.filter fun e =>
       e.isEnded && (e.severity == .notice || allPorts.all fun q => q == p || !s.due q e || e.acks[q])
     RemovedInTurn (leaving.map (·.source))
       { s with alerts := { s.alerts with
         roster := s.alerts.roster.map fun e =>
           if scopes.any fun scope => scope e then { e with acks := e.acks.set p true } else e } } t ∧
     Answers s t p 0x10 .done [byte1 newly.length] ∧
     ChangesOnly [.alerts, .attention, .ports, .reminders, .lamps] s t)

/-! ## Requests on a range of seats (9.6) -/

/-- The seats from `a` to `b`, ascending. -/
def rangeSeats (a b : SeatId) : List SeatId := allSeats.filter fun i => decide (a ≤ i) && decide (i ≤ b)

/-- The request made of one seat after others: the count of those answered DONE with 1, and the state, with the ports and
the outputs as they were. -/
def requestOnSeat (p : PortId) (r : Request) (acc : Nat × State) (i : SeatId) : Nat × State :=
  match exec (r.row p [seatByte i]) acc.2 with
  | .next t =>
    (acc.1 + flag (t.ports[p].response.any fun x => decide (x.completion = .done) && decide (x.result = [1])),
      { t with ports := acc.2.ports, reminders := acc.2.reminders, lamps := acc.2.lamps })
  | _ => acc

/-! ## The queue -/

/-- A marker never stands first in the queue (R139). -/
def MarkerNeverFirst (s : State) : Prop := ∀ p n rest, s.queue ≠ QEntry.marker p n :: rest

/-- At most 2 markers of a port, and of a seat at most one QUEUED and one IN_FLIGHT SYNC, and only while it is ACTIVE
(R128). -/
def QueueSound (s : State) : Prop :=
  (∀ p : PortId, s.queue.countP (·.isMarkerOf p) ≤ 2) ∧
  ∀ i : SeatId, s.queue.countP (·.isQueuedOf i) ≤ 1 ∧ s.queue.countP (·.isInFlightOf i) ≤ 1 ∧
    (s.seats[i].state ≠ .active → ∀ st, QEntry.sync i st ∉ s.queue)

/-- A SYNC request of the seat, taken in the first of the four ways that applies (R129). -/
def SyncRequested (i : SeatId) (s t : State) : Prop :=
  (s.seats[i].state ≠ .active → t.queue = s.queue ∧ t.syncs[i].owed = true) ∧
  (s.seats[i].state = .active → QEntry.sync i .queued ∈ s.queue → t.queue = s.queue ∧ t.syncs[i].owed = false) ∧
  (s.seats[i].state = .active → QEntry.sync i .queued ∉ s.queue → 24 ≤ s.queue.length →
    t.queue = s.queue ∧ t.syncs[i].owed = true) ∧
  (s.seats[i].state = .active → QEntry.sync i .queued ∉ s.queue → s.queue.length < 24 →
    t.queue = s.queue ++ [QEntry.sync i .queued] ∧ t.syncs[i].owed = false) ∧
  t.syncs = s.syncs.set i { s.syncs[i] with owed := t.syncs[i].owed }

/-- The seat may be given owed service beside the entries `q`: ACTIVE, owed, and no QUEUED SYNC (R130). -/
def MayBeServed (s : State) (q : List QEntry) (i : SeatId) : Prop :=
  s.seats[i].state = .active ∧ s.syncs[i].owed = true ∧ QEntry.sync i .queued ∉ q

/-! ## Reminders and lamps -/

/-- A reminder timer runs exactly while its port's reminder condition holds, and a lamp is demanded exactly as its mode
and selector say (R162, R166). -/
def OutputsFollow (s : State) : Prop :=
  (∀ p : PortId, s.reminders[p].timer.isSome = s.remindCondition p) ∧
  ∀ m : LampId, s.lamps[m].demanded = s.lampDemand s.lamps[m]

/-! ## Reading a frame -/

/-- The desired pattern and hold are those of the seat's conditions, floor flag and mute hold as they stand (R101). -/
def IndicatorFollows (t : State) (i : SeatId) : Prop :=
  t.mute[i].pattern =
    (if (t.slot (.seat i .voiceInMute)).isRaised then .muteFlash
     else if (t.slot (.seat i .floorMuted)).isRaised then .floorPrompt
     else if (t.slot (.seat i .battery)).severity? = some .urgent then .batteryFast
     else if t.mute[i].floor then .floorSteady
     else if (t.slot (.seat i .battery)).severity? = some .warning then .batterySlow
     else .dark) ∧
  t.mute[i].order = if t.mute[i].hold = .none then .free else .held

/-- What the Battery Gauge leaves of a frame that covers so many frame periods: class and level (R54); a first frame or a
swap, which start a run (R55, R57); else weighted time and a drain sample (R56, R58, R59); minutes, streaks, BATTERY and
the battery state (R60 to R63). -/
def GaugeReads (s t : State) (i : SeatId) (o : OpenFrame) (periods : Nat) (appearance : Bool) : Prop :=
  let b := s.battery[i]
  let b' := t.battery[i]
  let level := o.payload.level.toNat
  let w := min 65535 (b.weighted + periods * 2 * if o.payload.audio = 2 ∨ o.payload.audio = 3 then 8 else 1)
  let swap := b.level.isSome && (decide (b.ref + 64 ≤ level) || (appearance && decide (b.ref + 32 ≤ level)))
  let before := if swap then none else (s.slot (.seat i .battery)).severity?
  b'.cls = classOfByte o.payload.cls ∧ b'.level = some level ∧
  (b.level = none ∨ swap = true →
    b'.ref = level ∧ b'.weighted = 0 ∧ b'.drain = s.params.drain[b'.cls] ∧ b'.samples = 0) ∧
  (b.level ≠ none → swap = false → level < b.ref → 4800 ≤ w →
    b'.ref = level ∧ b'.weighted = 0 ∧ b'.drain = (3 * b.drain + (b.ref - level) * 76800 / w + 2) / 4 ∧
      b'.samples = min 255 (b.samples + 1)) ∧
  (b.level ≠ none → swap = false → b.ref ≤ level ∨ w < 4800 →
    b'.ref = b.ref ∧ b'.weighted = w ∧ b'.drain = b.drain ∧ b'.samples = b.samples) ∧
  b'.minutes = min 999 (16 * level / b'.drain) ∧
  b'.lowStreak = (if b'.minutes < s.params.lowMinutes ∨ level ≤ 38
    then min 3 ((if swap then 0 else b.lowStreak) + 1) else 0) ∧
  b'.critStreak = (if b'.minutes < s.params.critMinutes ∨ level ≤ 13
    then min 3 ((if swap then 0 else b.critStreak) + 1) else 0) ∧
  (t.slot (.seat i .battery)).severity? =
    (if b'.critStreak = 3 then some .urgent
     else if b'.lowStreak = 3 ∧ before = none then some .warning else before) ∧
  b'.status =
    (if b'.critStreak = 3 ∧ before ≠ some .urgent then .critical
     else if b'.critStreak ≠ 3 ∧ b'.lowStreak = 3 ∧ before = none then .low
     else if swap then .ok else b.status)

/-- What the Signal Monitor's two tests leave of a frame, by the smoothed strength and the history after it (R73, R74,
R76). -/
def MonitorReads (s t : State) (i : SeatId) (appearance : Bool) : Prop :=
  let weak := (s.slot (.seat i .signalWeak)).isRaised
  let streak := if appearance then 0 else s.signal[i].weakStreak
  let erratic := (s.slot (.seat i .linkErratic)).isRaised
  let missed := t.signal[i].history.count false
  (∀ e, t.signal[i].strength = some e →
    (e < 10 * s.params.weakThreshold → t.signal[i].weakStreak = min 15 (streak + 1) ∧
      (t.slot (.seat i .signalWeak)).isRaised = (weak || decide (15 ≤ streak + 1))) ∧
    (10 * s.params.weakThreshold ≤ e → e < 10 * (s.params.weakThreshold + 4) →
      t.signal[i].weakStreak = (if weak then streak else 0) ∧ (t.slot (.seat i .signalWeak)).isRaised = weak) ∧
    (10 * (s.params.weakThreshold + 4) ≤ e →
      t.signal[i].weakStreak = 0 ∧ (t.slot (.seat i .signalWeak)).isRaised = false)) ∧
  (t.slot (.seat i .linkErratic)).isRaised =
    (if erratic then decide (4 < missed) else decide (12 ≤ missed ∧ t.signal[i].history.length = 64)) ∧
  (weak = false → (t.slot (.seat i .signalWeak)).isRaised = true →
    (t.slot (.seat i .signalWeak)).severity? = some .notice) ∧
  (erratic = false → (t.slot (.seat i .linkErratic)).isRaised = true →
    (t.slot (.seat i .linkErratic)).severity? = some .notice)

/-- The slot stands as it did: clear, qualifying, or raised at its severity. -/
def SlotStays (s t : State) (src : Source) : Prop :=
  (t.slot src).severity? = (s.slot src).severity? ∧ (t.slot src).isQualifying = (s.slot src).isQualifying

/-- What the Supervisor leaves of a frame with audio state `a`: the toggle count and the chatter window (R98, R99),
VOICE_IN_MUTE and OPEN_NO_FLOOR (R94, R96), FLOOR_MUTED (R97), MUTE_CHATTER (R100). -/
def SupervisorReads (s t : State) (i : SeatId) (a : AudioState) (appearance : Bool) : Prop :=
  let m := s.mute[i]
  let m' := t.mute[i]
  let voice := Source.seat i .voiceInMute
  let opened := Source.seat i .openNoFloor
  let muted := Source.seat i .floorMuted
  let chatter := Source.seat i .muteChatter
  let toggle := !appearance && decide (m.hold = .none) &&
    s.seats[i].lastAudio.any fun x => (x.isMuted && a.isLive) || (x.isLive && a.isMuted)
  m'.toggles = (if toggle then (if m.chatterWindow = none then 1 else min 15 (m.toggles + 1)) else m.toggles) ∧
  m'.chatterWindow = (if toggle = true ∧ m.chatterWindow = none then some 100 else m.chatterWindow) ∧
  (t.slot chatter).isRaised =
    ((s.slot chatter).isRaised || (toggle && decide (s.params.chatterThreshold ≤ m'.toggles))) ∧
  ((t.slot chatter).isRaised = false → (t.slot chatter).isQualifying =
    ((s.slot chatter).isQualifying || (toggle && decide (m.chatterWindow = none)))) ∧
  (s.slot voice = .clear → a = .mutedVoice →
    t.slot voice = .qualifying ∧ m'.voiceQualify = some s.params.voiceQualify) ∧
  (s.slot voice = .clear → a ≠ .mutedVoice → t.slot voice = .clear ∧ m'.voiceQualify = m.voiceQualify) ∧
  (s.slot voice = .qualifying → a = .mutedVoice →
    t.slot voice = .qualifying ∧ m'.voiceQualify = m.voiceQualify) ∧
  (s.slot voice = .qualifying → a ≠ .mutedVoice → t.slot voice = .clear ∧ m'.voiceQualify = none) ∧
  ((s.slot voice).isRaised = true → SlotStays s t voice ∧
    m'.voiceEnd = if a = .mutedVoice then some 30 else m.voiceEnd) ∧
  (s.slot opened = .clear → a.isLive = true → m.floor = false → 0 < s.params.openGrace →
    t.slot opened = .qualifying ∧ m'.openGrace = some s.params.openGrace) ∧
  (s.slot opened = .clear → a.isLive = true → m.floor = false → s.params.openGrace = 0 →
    (t.slot opened).severity? = some .warning) ∧
  (s.slot opened = .clear → a.isMuted = true ∨ m.floor = true → t.slot opened = .clear) ∧
  (s.slot opened ≠ .clear → a.isMuted = true → t.slot opened = .clear ∧ m'.openGrace = none) ∧
  (s.slot opened ≠ .clear → a.isLive = true → SlotStays s t opened ∧ m'.openGrace = m.openGrace) ∧
  m'.hold = (if s.slot opened = .clear ∧ a.isLive = true ∧ m.floor = false ∧ s.params.openGrace = 0 ∧
    s.params.autoMute = true ∧ m.hold = .none then .auto else m.hold) ∧
  (s.slot muted = .clear → a.isMuted = true → m.floor = true → m.hold = .none →
    t.slot muted = .qualifying ∧ m'.floorMutedQualify = some s.params.floorMutedQualify) ∧
  (s.slot muted = .clear → a.isLive = true ∨ m.floor = false ∨ m.hold ≠ .none → t.slot muted = .clear) ∧
  (s.slot muted ≠ .clear → a.isLive = true → t.slot muted = .clear ∧ m'.floorMutedQualify = none) ∧
  (s.slot muted ≠ .clear → a.isMuted = true → SlotStays s t muted ∧ m'.floorMutedQualify = m.floorMutedQualify)

/-- What the evaluators that read an accepted frame leave of it: the Gauge always, the Signal Monitor and the Supervisor
where the seat is ACTIVE (R15); then the indicator, and an ACTIVE seat stays owed only where the queue is full (R14, step
6). -/
def EvaluatorsRead (s t : State) (i : SeatId) (o : OpenFrame) (periods : Nat) (appearance : Bool) : Prop :=
  GaugeReads s t i o periods appearance ∧
  (o.payload.audio ≠ 4 →
    MonitorReads s t i appearance ∧ SupervisorReads s t i (audioOfByte o.payload.audio) appearance) ∧
  IndicatorFollows t i ∧ (t.seats[i].state = .active → t.syncs[i].owed = true → 24 ≤ t.queue.length)

/-- What the order echo of a normal frame does to the seat's IN_FLIGHT SYNC `g`: an equal tag confirms it, and it leaves
the queue; another tag has no effect (R134). -/
def EchoRead (s t : State) (i : SeatId) (o : OpenFrame) (g : InFlight) : Prop :=
  (o.payload.echo.setWidth 4 = g.tag →
    t.syncs[i].confirmed = some (g.pattern, g.hold) ∧ t.syncs[i].stalled = false ∧
    (∀ h, QEntry.sync i (.inFlight h) ∉ t.queue) ∧
    (s.seats[i].state = .active → o.payload.audio ≠ 4 → (g.pattern, g.hold) ≠ (s.mute[i].pattern, s.mute[i].order) →
      QEntry.sync i .queued ∈ t.queue ∨ t.syncs[i].owed = true)) ∧
  (o.payload.echo.setWidth 4 ≠ g.tag →
    t.syncs[i].confirmed = s.syncs[i].confirmed ∧ t.syncs[i].stalled = s.syncs[i].stalled ∧
    (o.payload.audio ≠ 4 → QEntry.sync i (.inFlight g) ∈ t.queue))

/-! ## OFF ports -/

/-- The queue holds no marker of the port. -/
def State.noMarkerOf (s : State) (p : PortId) : Prop := ∀ n, QEntry.marker p n ∉ s.queue

/-- A port whose role is OFF sends nothing, waits for nothing, has attention and its overflow mark clear, no reminder
and no marker (R141, R159). -/
def OffPorts (s : State) : Prop :=
  ∀ p : PortId, s.ports[p].role = .off →
    s.ports[p].response = none ∧ s.ports[p].waiting = none ∧ s.attention[p] = false ∧
    s.alerts.overflow[p] = false ∧ s.reminders[p].timer = none ∧ s.noMarkerOf p

end Sys2Proof.Machine
end

