-- ==== Sys2Proof/Certificates/Slice0/Obligations.lean ====
section
/-! DEFINITION. The statements for the provers, as OBLIGATIONS.json lists them. `ChangesOnly`, `Admitted`, `Answers` and
the other words they use are in Sys2Proof/Safety.lean. -/

open Sys2Proof Sys2Proof.Machine

/-! ## Steps -/

/-- A step takes the command at the front of the pending ones and answers as the command does with the rest pending. -/
def Obligations.StepTakesFrontCommand : Prop :=
  ∀ (c : Instr) (rest : List Instr) (s : State), s.pending = c :: rest → step s = exec c { s with pending := rest }

/-- Every command answers a next state in every state, and leaves the pending commands and the line events alone; with
no command pending a step takes one line event, or idles (the model's choice, log 2). -/
def Obligations.CommandsAnswerAndKeepQueues : Prop :=
  (∀ (c : Instr) (s : State), ∃ t, exec c s = .next t ∧ t.pending = s.pending ∧ t.rxInput = s.rxInput) ∧
  (∀ s : State, s.pending = [] → s.rxInput = [] → step s = .next s) ∧
  (∀ (s : State) (e : LineInput) (rest : List LineInput), s.pending = [] → s.rxInput = e :: rest →
    step s = .next (State.receive { s with rxInput := rest } e))

/-! ## Power-on, initialisation, clock, restart -/

/-- POWER_ON gives every block its power-on values, whatever the state before; the roles are stated beside. That the line
levels outlast it is the model's choice (logs 10 and 12), and so is that it cuts off an ORDER frame on a downlink and a
response on a console transmit line (logs 24 and 30). -/
def Obligations.PowerOnValues : Prop :=
  ∀ (straps : Vector Strap 4) (s : State), ∃ t, exec (.powerOn straps) s = .next t ∧
    t.part = .starting ∧ t.clock = 0 ∧ t.initTimer = some 40 ∧
    t.params = { lossTime := 12, weakThreshold := -85, lowMinutes := 30, critMinutes := 8,
                 drain := #v[40, 32, 56, 24], voiceQualify := 20, openGrace := 10, floorMutedQualify := 50,
                 chatterThreshold := 6, autoMute := false, floorLimit := 4, mergeWindow := 6 } ∧
    (∀ l : LinkId, t.links[l] =
      { enable := true, state := .down, offset := 0, badFrames := 0, identity := none, breakStart := none,
        lastBreak := none, silence := none, slot := none, attributed := 0, rx := .hunting,
        lineActive := s.links[l].lineActive, breakTimer := none, tx := none }) ∧
    t.openFrames = [] ∧ t.strangers = [] ∧ t.floorCount = 0 ∧ t.queue = [] ∧
    (∀ i : SeatId, t.seats[i] =
      { radio := none, state := .vacant, lastBoot := none, lastFrame := none, bestLink := none, copies := 0,
        lastAudio := none, lastHeard := none, quiet := false }) ∧
    (∀ i : SeatId, t.battery[i] =
      { cls := 0, level := none, ref := 0, weighted := 0, drain := 40, samples := 0, minutes := 0, lowStreak := 0,
        critStreak := 0, status := .ok }) ∧
    (∀ i : SeatId, t.signal[i] =
      { strength := none, weakStreak := 0, history := [], lossTimer := none, grace := none, cause := .none,
        lossStart := none }) ∧
    (∀ i : SeatId, t.mute[i] =
      { voiceQualify := none, voiceEnd := none, openGrace := none, floorMutedQualify := none, toggles := 0,
        chatterWindow := none, floor := false, hold := .none, pattern := .dark, order := .free }) ∧
    (∀ i : SeatId, t.syncs[i] = { orderTag := 0, confirmed := none, owed := false, stalled := false }) ∧
    t.alerts.roster = [] ∧ t.alerts.nextTag = 1 ∧ t.alerts.rankCounter = 0 ∧ (∀ src, t.slot src = .clear) ∧
    (∀ p : PortId, t.alerts.overflow[p] = false ∧ t.attention[p] = false ∧ t.markers[p] = ⟨1, 0⟩ ∧
      t.reminders[p] = ⟨0, 0, none⟩) ∧
    (∀ p : PortId, t.ports[p].rx = .hunting ∧ t.ports[p].inBreak = false ∧ t.ports[p].response = none ∧
      t.ports[p].waiting = none ∧ t.ports[p].overrun = false ∧ t.ports[p].tag = .none ∧ t.ports[p].mask = false ∧
      (t.ports[p].role ≠ .off → t.ports[p].view = ⟨1, 192, .notice, BitVec.allOnes 10⟩)) ∧
    (∀ m : LampId, t.lamps[m] =
      { mode := .off, lowest := .notice, scope := .any, activeP := 10, activeO := 5, stagedP := 10, stagedO := 5,
        demanded := false, cycle := .stopped })

/-- The role each port takes from the straps: OFF, MONITOR, DESK, CHAIR by the strap table, with CHAIR for the
lowest-numbered port strapped so and MONITOR for the others; only POWER_ON changes a role. -/
def Obligations.RolesComeFromStraps : Prop :=
  (∀ (straps : Vector Strap 4) (s : State) (p : PortId), ∃ t, exec (.powerOn straps) s = .next t ∧
    (straps[p] = ⟨false, false⟩ → t.ports[p].role = .off) ∧
    (straps[p] = ⟨false, true⟩ → t.ports[p].role = .monitor) ∧
    (straps[p] = ⟨true, false⟩ → t.ports[p].role = .desk) ∧
    (straps[p] = ⟨true, true⟩ → (∀ q : PortId, q < p → straps[q] ≠ ⟨true, true⟩) → t.ports[p].role = .chair) ∧
    (straps[p] = ⟨true, true⟩ → (∃ q : PortId, q < p ∧ straps[q] = ⟨true, true⟩) → t.ports[p].role = .monitor)) ∧
  (∀ (c : Instr) (s t : State) (p : PortId), (∀ straps, c ≠ .powerOn straps) → exec c s = .next t →
    t.ports[p].role = s.ports[p].role)

/-- Initialisation completes: READY, the clock counts from 0, enabled links begin to receive, and a held line starts a
break of 2 ms there. A tenth adds 1 to the chamber clock modulo 2³² in READY, and leaves it standing in STARTING. -/
def Obligations.InitialisationAndClock : Prop :=
  (∀ s : State, s.part = .starting → ∃ t, exec .initialisationComplete s = .next t ∧
     t.part = .ready ∧ t.clock = 0 ∧ t.initTimer = none ∧
     (∀ l : LinkId, s.links[l].enable = true → t.links[l] =
       { s.links[l] with rx := .hunting, breakTimer := if s.links[l].lineActive then some 2 else none }) ∧
     (∀ l : LinkId, s.links[l].enable = false → t.links[l] = s.links[l]) ∧
     ChangesOnly [.part, .clock, .initTimer, .links] s t) ∧
  (∀ s : State, s.part = .ready → exec .chamberClockTick s = .next { s with clock := s.clock + 1 }) ∧
  (∀ s : State, s.part = .starting → exec .chamberClockTick s = .next s)

/-- RESTART is answered DONE and does nothing more; its response is one whose end begins the restart. -/
def Obligations.RestartIsAnswered : Prop :=
  ∀ (s : State) (p : PortId), Admitted s p .restart → exec (.restart p []) s = .next
    { s with ports := s.ports.set p { s.ports[p] with
      tag := .none, overrun := false, response := some ⟨0x3F, .done, s.ports[p].overrun, [], true⟩ } }

/-- The end of a RESTART response begins the restart, by either row that names it (log 5): what is kept and what is
cleared. -/
def Obligations.RestartBegins : Prop :=
  ∀ (s : State) (p : PortId) (r : Response), s.ports[p].response = some r → r.restarts = true →
    ∃ t, exec (.restartBegin p) s = .next t ∧ exec (.responseEnd p) s = .next t ∧
    t.part = .starting ∧ t.clock = 0 ∧ t.initTimer = some 40 ∧ t.params = s.params ∧
    (∀ l : LinkId, t.links[l] =
      { s.links[l] with
        state := if s.links[l].enable then .down else .disabled, badFrames := 0, breakStart := none,
        lastBreak := none, silence := none, slot := none, attributed := 0, rx := .hunting, breakTimer := none }) ∧
    t.openFrames = [] ∧ t.strangers = [] ∧ t.floorCount = 0 ∧ t.queue = [] ∧
    (∀ i : SeatId, s.bound i = false → t.seats[i] = s.seats[i] ∧ t.battery[i] = s.battery[i] ∧
      t.signal[i] = s.signal[i] ∧ t.mute[i] = s.mute[i] ∧ t.syncs[i] = s.syncs[i]) ∧
    (∀ i : SeatId, s.bound i = true →
      t.seats[i] = { SeatRec.vacant with radio := s.seats[i].radio, state := .awaiting } ∧
      t.battery[i] = Battery.fresh s.params.drain[0] ∧ t.signal[i] = Signal.fresh ∧ t.mute[i] = Mute.fresh ∧
      t.syncs[i] = SyncRec.fresh) ∧
    t.alerts.roster = [] ∧ t.alerts.nextTag = 1 ∧ t.alerts.rankCounter = 0 ∧ (∀ src, t.slot src = .clear) ∧
    (∀ q : PortId, t.alerts.overflow[q] = false ∧ t.attention[q] = false ∧ t.markers[q] = ⟨1, 0⟩ ∧
      t.reminders[q].staged = s.reminders[q].staged ∧ t.reminders[q].timer = none ∧
      (s.reminders[q].timer.isSome = true → t.reminders[q].active = s.reminders[q].staged)) ∧
    (∀ q : PortId, t.ports[q] =
      { s.ports[q] with
        rx := .hunting, waiting := none, overrun := false, tag := .none,
        response := if q = p then none else s.ports[q].response.map fun x => { x with restarts := false } }) ∧
    (∀ m : LampId, t.lamps[m].mode = s.lamps[m].mode ∧ t.lamps[m].lowest = s.lamps[m].lowest ∧
      t.lamps[m].scope = s.lamps[m].scope ∧ t.lamps[m].stagedP = s.lamps[m].stagedP ∧
      t.lamps[m].stagedO = s.lamps[m].stagedO ∧
      (s.lamps[m].mode ≠ .on → t.lamps[m].demanded = false ∧ t.lamps[m].cycle = .stopped ∧
        t.lamps[m].activeP = s.lamps[m].stagedP ∧ t.lamps[m].activeO = s.lamps[m].stagedO)) ∧
    t.pending = s.pending ∧ t.rxInput = s.rxInput

/-! ## Arrivals at a console port -/

/-- An arrival at a port that is sending takes the empty waiting place, or is dropped with the overrun flag set. That the
row of a request or of a bad frame equals ARRIVAL_WAITING whatever the port does is the model's choice (log 17). -/
def Obligations.ArrivalsWaitOrDrop : Prop :=
  ∀ (s : State) (p : PortId) (a : Arrival), s.ports[p].role ≠ .off → s.ports[p].inBreak = false →
    (s.ports[p].response.isSome = true → s.ports[p].waiting = none →
      exec (.arrivalWaiting p a) s = .next { s with ports := s.ports.set p { s.ports[p] with waiting := some a } }) ∧
    (s.ports[p].response.isSome = true → s.ports[p].waiting.isSome = true →
      exec (.arrivalWaiting p a) s = .next { s with ports := s.ports.set p { s.ports[p] with overrun := true } }) ∧
    exec (rowOfArrival p a) s = exec (.arrivalWaiting p a) s

/-- A bad frame taken at once, and a frame cut short by the inter-byte timer, are answered FRAME-ERROR with the request
code if one was received; the tag state stays and no block is touched. -/
def Obligations.BadFramesAnswered : Prop :=
  ∀ (s : State) (p : PortId), s.ports[p].role ≠ .off → s.ports[p].inBreak = false → s.ports[p].response = none →
    (∀ code : Option Byte, exec (.frameError p code) s = .next
      { s with ports := s.ports.set p { s.ports[p] with
        overrun := false, response := some ⟨code.getD 0, .frameError, s.ports[p].overrun, [], false⟩ } }) ∧
    (s.ports[p].rx = .started → exec (.consoleInterByteTimeout p) s = .next
      { s with ports := s.ports.set p { s.ports[p] with
        rx := .hunting, overrun := false,
        response := some ⟨0, .frameError, s.ports[p].overrun, [], false⟩ } }) ∧
    (∀ (n : Nat) (got : List Byte), s.ports[p].rx = .body n got → exec (.consoleInterByteTimeout p) s = .next
      { s with ports := s.ports.set p { s.ports[p] with
        rx := .hunting, overrun := false,
        response := some ⟨got.head?.getD 0, .frameError, s.ports[p].overrun, [], false⟩ } })

/-- The first four checks of a request, in order: STARTING, UNKNOWN-REQUEST, NOT-PERMITTED, BAD-ARGUMENT for the number
of argument bytes. A request refused there is answered, leaves the tag state NONE and touches no block. Which roles may
make each request, the number of its argument bytes and its code are spelled out. -/
def Obligations.RequestsRefusedInOrder : Prop :=
  (∀ (s : State) (p : PortId), s.ports[p].role ≠ .off → s.ports[p].inBreak = false → s.ports[p].response = none →
     (∀ (r : Request) (args : List Byte),
       (s.part = .starting → r ≠ .summary →
         exec (r.row p args) s = .next (s.answered p r.code .starting [])) ∧
       (s.part = .ready ∨ r = .summary → r.permits s.ports[p].role = false →
         exec (r.row p args) s = .next (s.answered p r.code .notPermitted [])) ∧
       (s.part = .ready ∨ r = .summary → r.permits s.ports[p].role = true → args.length ≠ r.argCount →
         exec (r.row p args) s = .next (s.answered p r.code .badArgument []))) ∧
     (∀ (code : Byte) (args : List Byte), code ∉ Config.requestCodes →
       (s.part = .starting → exec (.unknownRequest p code args) s = .next (s.answered p code .starting [])) ∧
       (s.part = .ready → exec (.unknownRequest p code args) s = .next (s.answered p code .unknownRequest [])))) ∧
  (∀ (r : Request) (role : Role), r.permits role = true ↔ role ≠ .off ∧
    (r ∈ [.quiet, .unquiet, .swap, .bind, .unbind, .setParam, .setLamp, .restart] → role = .desk) ∧
    (r ∈ [.hold, .free] → role = .desk ∨ role = .chair) ∧ (r ∈ [.grant, .revoke, .revokeAll] → role = .chair)) ∧
  allRequests.map Request.argCount =
    [0, 2, 1, 1, 0, 1] ++ [3, 6, 2, 1, 0, 0, 1, 1] ++ [1, 1, 1, 1, 1, 1, 1, 0, 5, 1] ++ [3, 7, 0] ∧
  allRequests.map Request.code =
    [1, 2, 3, 4, 5, 6] ++ [0x10, 0x11, 0x12, 0x13, 0x14, 0x15, 0x16, 0x17] ++
    [0x20, 0x21, 0x22, 0x23, 0x24, 0x25, 0x26, 0x27, 0x28, 0x29] ++ [0x30, 0x31, 0x3F]

/-- The end of a response leaves the line idle; a waiting arrival is then taken as if it arrived at that moment. That this
holds behind a RESTART response too, where another one began the restart, is the model's choice (log 28). -/
def Obligations.ResponseEnds : Prop :=
  ∀ (s : State) (p : PortId) (r : Response), s.ports[p].response = some r → r.restarts = false →
    (s.ports[p].waiting = none →
      exec (.responseEnd p) s = .next { s with ports := s.ports.set p { s.ports[p] with response := none } }) ∧
    (∀ a : Arrival, s.ports[p].waiting = some a → s.ports[p].role ≠ .off → s.ports[p].inBreak = false →
      exec (.responseEnd p) s = exec (.arrivalWaiting p a)
        { s with ports := s.ports.set p { s.ports[p] with response := none, waiting := none } })

/-- A port break resets the port and removes its markers uncompleted; one that cuts off a RESTART response begins the
restart, in the same event (log 18); the end of the held line lets the port hunt again. -/
def Obligations.PortBreaks : Prop :=
  (∀ (s : State) (p : PortId), s.ports[p].role ≠ .off → s.ports[p].inBreak = false → MarkerNeverFirst s →
    (∀ r, s.ports[p].response = some r → r.restarts = false) →
    ∃ t, exec (.portBreak p) s = .next t ∧
      t.ports = s.ports.set p { s.ports[p] with
        rx := .hunting, waiting := none, response := none, overrun := false, tag := .none, inBreak := true,
        lineActive := true, breakTimer := none } ∧
      t.attention = s.attention.set p false ∧ t.noMarkerOf p ∧
      (∀ (q : PortId) (n : Nat), q ≠ p → (QEntry.marker q n ∈ t.queue ↔ QEntry.marker q n ∈ s.queue)) ∧
      ChangesOnly [.ports, .attention, .queue, .syncs] s t) ∧
  (∀ (s : State) (p : PortId) (r : Response), s.ports[p].role ≠ .off → s.ports[p].inBreak = false →
    s.ports[p].response = some r → r.restarts = true →
    ∃ t, exec (.portBreak p) s = .next t ∧ t.part = .starting ∧ t.clock = 0 ∧ t.initTimer = some 40 ∧
      t.ports[p] = { s.ports[p] with
        rx := .hunting, waiting := none, response := none, overrun := false, tag := .none, inBreak := true,
        lineActive := true, breakTimer := none } ∧
      t.queue = [] ∧ t.alerts.roster = [] ∧ t.openFrames = [] ∧ t.strangers = [] ∧ t.params = s.params ∧
      (∀ q : PortId, t.attention[q] = false) ∧
      (∀ i : SeatId, t.seats[i].radio = s.seats[i].radio)) ∧
  (∀ (s : State) (p : PortId), s.ports[p].inBreak = true → exec (.portBreakEnd p) s = .next
    { s with ports := s.ports.set p { s.ports[p] with
      inBreak := false, lineActive := false, breakTimer := none, rx := .hunting } })

/-! ## Antenna links and the Merge Unit -/

/-- A COPY with no open frame of its key. With another link UP it opens one at the end of the table with the corrected
strength: on an UP link, which restarts its silence timer, on a DOWN or SILENT link, which goes UP, and in a full
table, which settles its oldest open frame first. With no other link UP it settles at once, as its merge window's expiry
would. On a DOWN or SILENT link a COPY, whatever its key, brings the link UP as a STATUS frame does, and then acts as on
that UP link. That reminders and lamps are evaluated once, at the end of the whole COPY, is the model's choice (log 31). -/
def Obligations.CopyOpensFrame : Prop :=
  (∀ (s : State) (l : LinkId) (payload : MicPayload) (raw : Byte), s.part = .ready →
    (∀ o ∈ s.openFrames, OpenFrame.key o ≠ MicPayload.key payload) →
    (let new : OpenFrame :=
      { payload := payload, bestStrength := max (-120) (min (-20) (raw.toInt + s.links[l].offset)), bestLink := l,
        heard := [l], window := s.params.mergeWindow }
     (s.links[l].state = .up → (∃ m : LinkId, m ≠ l ∧ s.links[m].state = .up) → s.openFrames.length < 16 →
      ∃ t, exec (.copy l payload raw) s = .next t ∧ t.openFrames = s.openFrames ++ [new] ∧
        t.links = s.links.set l { s.links[l] with silence := some 15 } ∧
        ChangesOnly [.openFrames, .links, .reminders, .lamps] s t) ∧
     (s.links[l].state = .down ∨ s.links[l].state = .silent → (∃ m : LinkId, m ≠ l ∧ s.links[m].state = .up) →
      s.openFrames.length < 16 →
      ∃ t, exec (.copy l payload raw) s = .next t ∧ t.openFrames = s.openFrames ++ [new] ∧
        t.links = s.links.set l { s.links[l] with state := .up, silence := some 15, slot := some 50 } ∧
        ChangesOnly [.openFrames, .links, .signal, .alerts, .attention, .reminders, .lamps] s t) ∧
     (s.links[l].state = .up → (∃ m : LinkId, m ≠ l ∧ s.links[m].state = .up) → s.openFrames.length = 16 →
      (s.openFrames.map OpenFrame.key).Nodup →
      ∃ t, exec (.copy l payload raw) s = .next t ∧ t.openFrames = s.openFrames.drop 1 ++ [new]) ∧
     (s.links[l].state = .up → (∀ m : LinkId, m ≠ l → s.links[m].state ≠ .up) → s.openFrames.length < 16 →
      exec (.copy l payload raw) s = exec (.mergeWindowExpiry (MicPayload.key payload))
        { s with
          links := s.links.set l { s.links[l] with silence := some 15 }
          openFrames := s.openFrames ++ [new] }) ∧
     (∀ o, s.openFrames.head? = some o → s.links[l].state = .up → s.openFrames.length = 16 →
      (s.openFrames.map OpenFrame.key).Nodup →
      ∃ u, exec (.mergeWindowExpiry (OpenFrame.key o))
          { s with links := s.links.set l { s.links[l] with silence := some 15 } } = .next u ∧
        ((∃ m : LinkId, m ≠ l ∧ s.links[m].state = .up) →
          exec (.copy l payload raw) s = .next { u with openFrames := s.openFrames.drop 1 ++ [new] }) ∧
        ((∀ m : LinkId, m ≠ l → s.links[m].state ≠ .up) →
          exec (.copy l payload raw) s = exec (.mergeWindowExpiry (MicPayload.key payload))
            { u with
              reminders := s.reminders, lamps := s.lamps, openFrames := s.openFrames.drop 1 ++ [new] })))) ∧
  (∀ (s : State) (l : LinkId) (payload : MicPayload) (raw : Byte) (x : BitVec 32), s.part = .ready →
    s.links[l].state = .down ∨ s.links[l].state = .silent →
    ∃ u, exec (.status l x) s = .next u ∧ u.links[l].state = .up ∧
      exec (.copy l payload raw) s = exec (.copy l payload raw)
        { u with
          links := u.links.set l { u.links[l] with identity := s.links[l].identity }
          reminders := s.reminders, lamps := s.lamps })

/-- A COPY joins the open frame of its key: links heard, best strength and best link by the tie rule; the payload and
the window stay. With an UP link still missing the frame stays open; with every UP link heard it settles at once, as its
merge window's expiry would. -/
def Obligations.CopyJoinsFrame : Prop :=
  ∀ (s : State) (l : LinkId) (payload : MicPayload) (raw : Byte) (pre post : List OpenFrame) (o : OpenFrame),
    s.part = .ready → s.links[l].state = .up → s.openFrames = pre ++ o :: post →
    OpenFrame.key o = MicPayload.key payload →
    (∀ x ∈ pre ++ post, OpenFrame.key x ≠ MicPayload.key payload) →
    (let b := max (-120) (min (-20) (raw.toInt + s.links[l].offset))
     let joined : OpenFrame :=
      { o with
        heard := if l ∈ o.heard then o.heard else o.heard ++ [l]
        bestStrength := max o.bestStrength b
        bestLink := if o.bestStrength < b then l else if b = o.bestStrength then min l o.bestLink else o.bestLink }
     ((∃ m : LinkId, s.links[m].state = .up ∧ m ≠ l ∧ m ∉ o.heard) →
      ∃ t, exec (.copy l payload raw) s = .next t ∧ t.openFrames = pre ++ joined :: post ∧
        t.links = s.links.set l { s.links[l] with silence := some 15 } ∧
        ChangesOnly [.openFrames, .links, .reminders, .lamps] s t) ∧
     ((∀ m : LinkId, s.links[m].state = .up → m ≠ l → m ∈ o.heard) →
      exec (.copy l payload raw) s = exec (.mergeWindowExpiry (MicPayload.key payload))
        { s with
          links := s.links.set l { s.links[l] with silence := some 15 }
          openFrames := pre ++ joined :: post }))

/-- A STATUS frame: in UP the silence timer restarts; in DOWN or SILENT the link goes UP, its timers start, a raised
RECEIVER_LINK ends and the recovery graces of its attributed seats start. The identity is stored. A link that is
BROKEN or DISABLED takes no frame and detects no break. -/
def Obligations.StatusFrames : Prop :=
  ∀ (s : State) (l : LinkId) (x : BitVec 32), s.part = .ready →
    (s.links[l].state = .up → ∃ t, exec (.status l x) s = .next t ∧
      t.links = s.links.set l { s.links[l] with silence := some 15, identity := some x } ∧
      ChangesOnly [.links, .reminders, .lamps] s t) ∧
    (s.links[l].state = .down ∨ s.links[l].state = .silent → ∃ t, exec (.status l x) s = .next t ∧
      t.links = s.links.set l { s.links[l] with
        state := .up, silence := some 15, slot := some 50, identity := some x } ∧
      (∀ i : SeatId, t.signal[i] =
        if s.signal[i].cause = .link l then { s.signal[i] with grace := some s.params.lossTime } else s.signal[i]) ∧
      ((s.slot (.link l)).isRaised = true → t.slot (.link l) = .clear) ∧
      ChangesOnly [.links, .signal, .alerts, .attention, .reminders, .lamps] s t) ∧
    (s.links[l].state = .broken ∨ s.links[l].state = .disabled → exec (.status l x) s = .next s ∧
      (∀ m raw, exec (.copy l m raw) s = .next s) ∧ exec (.uplinkBadFrame l) s = .next s ∧
      exec (.breakDetected l) s = .next s)

/-- A discarded frame, and a frame cut short by the inter-byte timer, add 1 to the bad-frame count, which stops at
65535, and nothing else changes. The silence timer expires: SILENT, both timers stop, RECEIVER_LINK raised at WARNING, or
URGENT with seats still attributed. -/
def Obligations.BadFramesAndSilence : Prop :=
  (∀ (s : State) (l : LinkId), s.part = .ready →
     s.links[l].state = .down ∨ s.links[l].state = .up ∨ s.links[l].state = .silent →
     exec (.uplinkBadFrame l) s = .next
       { s with links := s.links.set l { s.links[l] with badFrames := min 65535 (s.links[l].badFrames + 1) } } ∧
     (s.links[l].rx ≠ .hunting → exec (.uplinkInterByteTimeout l) s = .next
       { s with links := s.links.set l { s.links[l] with
         rx := .hunting, badFrames := min 65535 (s.links[l].badFrames + 1) } })) ∧
  (∀ (s : State) (l : LinkId), s.links[l].silence.isSome = true → ∃ t, exec (.silenceTimerExpiry l) s = .next t ∧
     t.links = s.links.set l { s.links[l] with state := .silent, silence := none, slot := none } ∧
     (t.slot (.link l)).severity? = some (if 0 < s.links[l].attributed then .urgent else .warning) ∧
     ChangesOnly [.links, .alerts, .attention, .reminders, .lamps] s t)

/-- A break takes a link that is DOWN, UP or SILENT to BROKEN, raising RECEIVER_LINK from UP; its end takes it to DOWN
with the duration captured. -/
def Obligations.LinkBreaks : Prop :=
  (∀ (s : State) (l : LinkId), s.part = .ready →
    s.links[l].state = .down ∨ s.links[l].state = .up ∨ s.links[l].state = .silent →
    ∃ t, exec (.breakDetected l) s = .next t ∧
      t.links = s.links.set l { s.links[l] with
        state := .broken, breakStart := some s.clock, silence := none, slot := none, rx := .hunting,
        lineActive := true, breakTimer := none } ∧
      (s.links[l].state = .up → (t.slot (.link l)).severity? =
        some (if 0 < s.links[l].attributed then .urgent else .warning)) ∧
      (s.links[l].state ≠ .up → ∀ src, t.slot src = s.slot src) ∧
      ChangesOnly [.links, .alerts, .attention, .reminders, .lamps] s t) ∧
  (∀ (s : State) (l : LinkId) (b : Stamp), s.links[l].state = .broken → s.links[l].breakStart = some b →
    ∃ t, exec (.breakEnd l) s = .next t ∧
      t.links = s.links.set l { s.links[l] with
        state := .down, lastBreak := some (min 65535 (s.clock - b).toNat), breakStart := none, lineActive := false,
        breakTimer := none } ∧
      (∀ src, t.slot src = s.slot src) ∧ ChangesOnly [.links, .alerts] s t)

/-- A settled frame of an unbound valid radio ID is appended to the stranger list with attention to DESK ports, where a
full list first loses the entry heard longest ago (of equal stamps the one nearest the front), or updates its entry; an
expired aging timer removes the entry. -/
def Obligations.StrangersKept : Prop :=
  (∀ (s : State) (o : OpenFrame), Stands s o → o.payload.radio ≠ 0 → o.payload.radio ≠ 0xFFFFFFFF →
    (∀ i : SeatId, s.seats[i].radio ≠ some o.payload.radio) →
    ((∀ x ∈ s.strangers, x.radio ≠ o.payload.radio) → s.strangers.length < 8 →
      ∃ t, exec (.mergeWindowExpiry (OpenFrame.key o)) s = .next t ∧ t.openFrames = openFramesWithout s o ∧
        t.strangers = s.strangers ++
          [{ radio := o.payload.radio, boot := o.payload.boot, format := o.payload.format, firstHeard := s.clock,
             lastHeard := s.clock, strength := o.bestStrength, aging := 600 }] ∧
        (∀ p : PortId, t.attention[p] = (s.ports[p].role == .desk || s.attention[p])) ∧
        ChangesOnly [.openFrames, .strangers, .attention, .reminders, .lamps] s t) ∧
    (∀ pre post x, s.strangers = pre ++ x :: post → s.strangers.length = 8 → (s.strangers.map (·.radio)).Nodup →
      (∀ y ∈ s.strangers, y.radio ≠ o.payload.radio) →
      (∀ y ∈ pre, (s.clock - y.lastHeard).toNat < (s.clock - x.lastHeard).toNat) →
      (∀ y ∈ post, (s.clock - y.lastHeard).toNat ≤ (s.clock - x.lastHeard).toNat) →
      ∃ t, exec (.mergeWindowExpiry (OpenFrame.key o)) s = .next t ∧ t.openFrames = openFramesWithout s o ∧
        t.strangers = pre ++ post ++
          [{ radio := o.payload.radio, boot := o.payload.boot, format := o.payload.format, firstHeard := s.clock,
             lastHeard := s.clock, strength := o.bestStrength, aging := 600 }] ∧
        (∀ p : PortId, t.attention[p] = (s.ports[p].role == .desk || s.attention[p])) ∧
        ChangesOnly [.openFrames, .strangers, .attention, .reminders, .lamps] s t) ∧
    ((∃ x ∈ s.strangers, x.radio = o.payload.radio) →
      ∃ t, exec (.mergeWindowExpiry (OpenFrame.key o)) s = .next t ∧ t.openFrames = openFramesWithout s o ∧
        t.strangers = (s.strangers.map fun x =>
          if x.radio = o.payload.radio then
            { x with boot := o.payload.boot, format := o.payload.format, lastHeard := s.clock,
                     strength := o.bestStrength, aging := 600 }
          else x) ∧
        ChangesOnly [.openFrames, .strangers, .reminders, .lamps] s t)) ∧
  (∀ (s : State) (r : RadioId), exec (.strangerAgingExpiry r) s = .next
    { s with strangers := s.strangers.filter fun x => x.radio != r })

/-! ## Frames of bound seats -/

/-- Duplicate, stale and ignored frames of a bound seat have no effect but to leave the open-frame table. -/
def Obligations.RepeatedFramesDiscarded : Prop :=
  ∀ (s : State) (o : OpenFrame) (i : SeatId), Stands s o → BoundTo s o.payload.radio i →
    s.seats[i].lastBoot = some o.payload.boot →
    (s.seats[i].state = .refused ∨
      ((s.seats[i].state = .active ∨ s.seats[i].state = .standby ∨ s.seats[i].state = .lost) ∧
        ∃ f, s.seats[i].lastFrame = some f ∧
          ((o.payload.frame - f).toNat = 0 ∨ 32768 ≤ (o.payload.frame - f).toNat))) →
    ∃ t, exec (.mergeWindowExpiry (OpenFrame.key o)) s = .next t ∧ t.openFrames = openFramesWithout s o ∧
      ChangesOnly [.openFrames, .reminders, .lamps] s t

/-- A normal frame of an ACTIVE, STANDBY or LOST seat: the acceptance fields, STANDBY or ACTIVE by its audio state, the
battery class and level, the loss timer, and for an ACTIVE outcome the smoothed strength and the history. A loss has
ended. The order echo confirms the seat's IN_FLIGHT SYNC of an equal tag, and no other. No other seat's record
changes. -/
def Obligations.NormalFrameAccepted : Prop :=
  ∀ (s : State) (o : OpenFrame) (i : SeatId) (f : BitVec 16), Stands s o → BoundTo s o.payload.radio i →
    s.seats[i].state = .active ∨ s.seats[i].state = .standby ∨ s.seats[i].state = .lost →
    s.seats[i].lastBoot = some o.payload.boot → s.seats[i].lastFrame = some f →
    0 < (o.payload.frame - f).toNat → (o.payload.frame - f).toNat < 32768 →
    ∃ t, exec (.mergeWindowExpiry (OpenFrame.key o)) s = .next t ∧ t.openFrames = openFramesWithout s o ∧
      t.seats[i] = { s.seats[i] with
        state := if o.payload.audio = 4 then .standby else .active,
        quiet := if o.payload.audio = 4 ∧ s.seats[i].state = .active then false else s.seats[i].quiet,
        lastBoot := some o.payload.boot, lastFrame := some o.payload.frame, bestLink := some o.bestLink,
        copies := o.heard.length, lastAudio := some (audioOfByte o.payload.audio), lastHeard := some s.clock } ∧
      t.battery[i].cls = classOfByte o.payload.cls ∧ t.battery[i].level = some o.payload.level.toNat ∧
      (o.payload.audio ≠ 4 →
        t.signal[i].lossTimer = some s.params.lossTime ∧
        (∀ e, s.signal[i].strength = some e →
          t.signal[i].strength = some (e + (10 * o.bestStrength - e).tdiv 8)) ∧
        (let h := s.signal[i].history ++ List.replicate (min ((o.payload.frame - f).toNat - 1) 64) false ++ [true]
         t.signal[i].history = h.drop (h.length - 64))) ∧
      (o.payload.audio = 4 →
        t.signal[i].strength = s.signal[i].strength ∧ t.signal[i].history = s.signal[i].history ∧
        (s.seats[i].state = .active → t.signal[i].lossTimer = none ∧ t.signal[i].weakStreak = 0)) ∧
      (s.seats[i].state = .lost →
        t.signal[i].cause = .none ∧ t.signal[i].lossStart = none ∧ t.signal[i].grace = none) ∧
      (∀ pre post g, s.queue = pre ++ QEntry.sync i (.inFlight g) :: post →
        (∀ h, QEntry.sync i (.inFlight h) ∉ pre ++ post) → EchoRead s t i o g) ∧
      ((∀ g, QEntry.sync i (.inFlight g) ∉ s.queue) →
        t.syncs[i].confirmed = s.syncs[i].confirmed ∧ t.syncs[i].stalled = s.syncs[i].stalled) ∧
      (s.seats[i].state ≠ .lost → t.links = s.links) ∧
      t.mute[i].floor = s.mute[i].floor ∧ OtherSeatsSame i s t ∧
      ChangesOnly [.openFrames, .seats, .battery, .signal, .mute, .links, .alerts, .attention, .queue, .syncs,
        .markers, .reminders, .lamps] s t

/-- An appearance inside the format window takes any bound seat to STANDBY or ACTIVE by its audio state: E at 10 times
the best strength, history emptied, then one received slot for an ACTIVE seat, whose loss timer starts; quiet clear,
confirmed values absent, FORMAT_REFUSED no longer raised. -/
def Obligations.AppearanceAccepted : Prop :=
  ∀ (s : State) (o : OpenFrame) (i : SeatId), Stands s o → BoundTo s o.payload.radio i → s.seats[i].state ≠ .vacant →
    (s.seats[i].state = .awaiting ∨ s.seats[i].lastBoot ≠ some o.payload.boot) →
    2 ≤ o.payload.format.toNat → o.payload.format.toNat ≤ 5 →
    ∃ t, exec (.mergeWindowExpiry (OpenFrame.key o)) s = .next t ∧ t.openFrames = openFramesWithout s o ∧
      t.seats[i] = { s.seats[i] with
        state := if o.payload.audio = 4 then .standby else .active, quiet := false,
        lastBoot := some o.payload.boot, lastFrame := some o.payload.frame, bestLink := some o.bestLink,
        copies := o.heard.length, lastAudio := some (audioOfByte o.payload.audio), lastHeard := some s.clock } ∧
      t.signal[i].history = (if o.payload.audio = 4 then [] else [true]) ∧
      t.signal[i].strength = some (10 * o.bestStrength) ∧
      (o.payload.audio ≠ 4 → t.signal[i].lossTimer = some s.params.lossTime) ∧
      (o.payload.audio = 4 → s.seats[i].state = .active → t.signal[i].lossTimer = none) ∧
      t.battery[i].cls = classOfByte o.payload.cls ∧ t.battery[i].level = some o.payload.level.toNat ∧
      t.syncs[i].confirmed = none ∧ (t.slot (.seat i .formatRefused)).isRaised = false ∧
      (s.seats[i].state ≠ .lost → t.links = s.links) ∧
      t.mute[i].floor = s.mute[i].floor ∧ OtherSeatsSame i s t ∧
      ChangesOnly [.openFrames, .seats, .battery, .signal, .mute, .links, .alerts, .attention, .queue, .syncs,
        .markers, .reminders, .lamps] s t

/-- The evaluators read a normal frame and an appearance inside the format window as `EvaluatorsRead` says: the Battery
Gauge, and where the seat comes out ACTIVE the Signal Monitor and the Supervisor, and then the indicator. A normal frame
covers as many frame periods as its frame count has advanced, an appearance one. -/
def Obligations.EvaluatorsReadFrames : Prop :=
  (∀ (s : State) (o : OpenFrame) (i : SeatId) (f : BitVec 16), Stands s o → BoundTo s o.payload.radio i →
    s.seats[i].state = .active ∨ s.seats[i].state = .standby ∨ s.seats[i].state = .lost →
    s.seats[i].lastBoot = some o.payload.boot → s.seats[i].lastFrame = some f →
    0 < (o.payload.frame - f).toNat → (o.payload.frame - f).toNat < 32768 →
    ∃ t, exec (.mergeWindowExpiry (OpenFrame.key o)) s = .next t ∧
      EvaluatorsRead s t i o (o.payload.frame - f).toNat false) ∧
  (∀ (s : State) (o : OpenFrame) (i : SeatId), Stands s o → BoundTo s o.payload.radio i → s.seats[i].state ≠ .vacant →
    (s.seats[i].state = .awaiting ∨ s.seats[i].lastBoot ≠ some o.payload.boot) →
    2 ≤ o.payload.format.toNat → o.payload.format.toNat ≤ 5 →
    ∃ t, exec (.mergeWindowExpiry (OpenFrame.key o)) s = .next t ∧ EvaluatorsRead s t i o 1 true)

/-- An appearance outside the format window takes any bound seat to REFUSED: FORMAT_REFUSED is raised, the owed flag is
set, confirmed values absent, and the history and the battery section stay. The quiet flag is clear, which for a seat
in a state other than ACTIVE is the model's reading of R12 (log 15). -/
def Obligations.AppearanceRefused : Prop :=
  ∀ (s : State) (o : OpenFrame) (i : SeatId), Stands s o → BoundTo s o.payload.radio i → s.seats[i].state ≠ .vacant →
    (s.seats[i].state = .awaiting ∨ s.seats[i].lastBoot ≠ some o.payload.boot) →
    (o.payload.format.toNat < 2 ∨ 5 < o.payload.format.toNat) →
    ∃ t, exec (.mergeWindowExpiry (OpenFrame.key o)) s = .next t ∧ t.openFrames = openFramesWithout s o ∧
      t.seats[i] = { s.seats[i] with
        state := .refused, quiet := false, lastBoot := some o.payload.boot, lastFrame := some o.payload.frame,
        bestLink := some o.bestLink, copies := o.heard.length, lastAudio := some (audioOfByte o.payload.audio),
        lastHeard := some s.clock } ∧
      (t.slot (.seat i .formatRefused)).isRaised = true ∧ t.syncs[i].owed = true ∧ t.syncs[i].confirmed = none ∧
      t.signal[i].history = s.signal[i].history ∧ t.signal[i].strength = s.signal[i].strength ∧
      t.battery[i] = s.battery[i] ∧ (s.seats[i].state ≠ .lost → t.links = s.links) ∧
      t.mute[i].floor = s.mute[i].floor ∧ t.mute[i].hold = s.mute[i].hold ∧ OtherSeatsSame i s t ∧
      ChangesOnly [.openFrames, .seats, .signal, .mute, .links, .alerts, .attention, .queue, .syncs, .markers,
        .reminders, .lamps] s t

/-! ## Timers of seats -/

/-- The loss timer expires: LOST with the loss start stamped, the quiet flag clear and the owed flag set; the cause is
SIGNAL with SIGNAL_LOSS raised where the best link is UP or DISABLED, else LINK with the link's count grown by 1. -/
def Obligations.LossTimerExpires : Prop :=
  ∀ (s : State) (i : SeatId) (l : LinkId), s.signal[i].lossTimer.isSome = true → s.seats[i].bestLink = some l →
    ∃ t, exec (.lossTimerExpiry i) s = .next t ∧
      t.seats[i] = { s.seats[i] with state := .lost, quiet := false } ∧
      t.signal[i].lossTimer = none ∧ t.signal[i].lossStart = some s.clock ∧ t.signal[i].weakStreak = 0 ∧
      t.signal[i].history = s.signal[i].history ∧ t.syncs[i].owed = true ∧
      t.mute[i].floor = s.mute[i].floor ∧ t.mute[i].hold = s.mute[i].hold ∧ t.mute[i].toggles = 0 ∧
      (s.links[l].state = .up ∨ s.links[l].state = .disabled →
        t.signal[i].cause = .signal ∧ (t.slot (.seat i .signalLoss)).isRaised = true ∧ t.links = s.links) ∧
      (s.links[l].state = .down ∨ s.links[l].state = .silent ∨ s.links[l].state = .broken →
        t.signal[i].cause = .link l ∧
        t.links = s.links.set l { s.links[l] with attributed := s.links[l].attributed + 1 } ∧
        ((s.slot (.link l)).isRaised = true → (t.slot (.link l)).severity? = some .urgent)) ∧
      OtherSeatsSame i s t ∧
      ChangesOnly [.seats, .signal, .mute, .links, .alerts, .attention, .queue, .syncs, .markers, .reminders, .lamps]
        s t

/-- The recovery grace of an attributed seat expires: cause SIGNAL, the link's count falls by 1, SIGNAL_LOSS is raised,
URGENT with the floor or a live last audio state, else WARNING. -/
def Obligations.RecoveryGraceExpires : Prop :=
  ∀ (s : State) (i : SeatId) (l : LinkId), s.signal[i].grace.isSome = true → s.signal[i].cause = .link l →
    ∃ t, exec (.recoveryGraceExpiry i) s = .next t ∧
      t.signal = s.signal.set i { s.signal[i] with grace := none, cause := .signal } ∧
      t.links = s.links.set l { s.links[l] with attributed := s.links[l].attributed - 1 } ∧
      (t.slot (.seat i .signalLoss)).severity? =
        some (if s.mute[i].floor = true ∨ s.seats[i].lastAudio = some .openMic ∨ s.seats[i].lastAudio = some .openVoice
          then .urgent else .warning) ∧
      ChangesOnly [.signal, .links, .alerts, .attention, .reminders, .lamps] s t

/-- The qualify timers expire: VOICE_IN_MUTE is raised with its end timer started, OPEN_NO_FLOOR is raised and may set an
AUTO hold, FLOOR_MUTED is raised, each at its severity and stamped; on a quiet seat QUIETED, else with a listing attempt,
where the roster is sound and agrees with the slots (what a supersession leaves of R113 is the model's choice, log 26);
the desired pattern and hold follow. -/
def Obligations.QualifyTimersExpire : Prop :=
  (∀ (s : State) (i : SeatId), s.mute[i].voiceQualify.isSome = true →
    (let sev : Severity := if s.mute[i].floor then .warning else .notice
     ∃ t, exec (.voiceQualifyExpiry i) s = .next t ∧
      t.mute = s.mute.set i { s.mute[i] with voiceQualify := none, voiceEnd := some 30, pattern := .muteFlash,
                                             order := if s.mute[i].hold = .none then .free else .held } ∧
      (t.slot (.seat i .voiceInMute)).severity? = some sev ∧ MuteRaised s t i .voiceInMute sev ∧
      ChangesOnly [.mute, .alerts, .attention, .queue, .syncs, .reminders, .lamps] s t)) ∧
  (∀ (s : State) (i : SeatId), s.mute[i].openGrace.isSome = true →
    ∃ t, exec (.openGraceExpiry i) s = .next t ∧
      (t.slot (.seat i .openNoFloor)).severity? = some .warning ∧ t.mute[i].openGrace = none ∧
      t.mute[i].hold = (if s.params.autoMute = true ∧ s.mute[i].hold = .none then .auto else s.mute[i].hold) ∧
      (s.params.autoMute = true → s.mute[i].hold = .none →
        t.slot (.seat i .floorMuted) = .clear ∧ t.mute[i].floorMutedQualify = none) ∧
      t.mute[i].floor = s.mute[i].floor ∧ IndicatorFollows t i ∧ SameBut i s.mute t.mute ∧
      ((s.slot (.seat i .floorMuted)).isRaised = false → MuteRaised s t i .openNoFloor .warning) ∧
      ChangesOnly [.mute, .alerts, .attention, .queue, .syncs, .reminders, .lamps] s t) ∧
  (∀ (s : State) (i : SeatId), s.mute[i].floorMutedQualify.isSome = true →
    ∃ t, exec (.floorMutedQualifyExpiry i) s = .next t ∧
      (t.slot (.seat i .floorMuted)).severity? = some .notice ∧
      t.mute = s.mute.set i { s.mute[i] with
        floorMutedQualify := none
        pattern := if (s.slot (.seat i .voiceInMute)).isRaised then .muteFlash else .floorPrompt
        order := if s.mute[i].hold = .none then .free else .held } ∧
      MuteRaised s t i .floorMuted .notice ∧
      ChangesOnly [.mute, .alerts, .attention, .queue, .syncs, .reminders, .lamps] s t)

/-- The voice end timer ends VOICE_IN_MUTE; the chatter window restarts for a raised MUTE_CHATTER with C of 2 or more,
and stops otherwise, with the condition ended or cancelled; C becomes 0. An ending leaves a LISTED condition's entry
ENDED and stamped, or removes it, with a re-listing. -/
def Obligations.EndTimersExpire : Prop :=
  (∀ (s : State) (i : SeatId), s.mute[i].voiceEnd.isSome = true →
    ∃ t, exec (.voiceEndExpiry i) s = .next t ∧
      ((s.slot (.seat i .voiceInMute)).isRaised = true → t.slot (.seat i .voiceInMute) = .clear) ∧
      (RosterReady s 1 → ConditionEnded s t (.seat i .voiceInMute)) ∧
      ((s.slot (.seat i .voiceInMute)).isRaised = false → t.alerts = s.alerts ∧ t.attention = s.attention) ∧
      t.mute[i].voiceEnd = none ∧ SameBut i s.mute t.mute ∧
      ChangesOnly [.mute, .alerts, .attention, .queue, .syncs, .reminders, .lamps] s t) ∧
  (∀ (s : State) (i : SeatId), s.mute[i].chatterWindow.isSome = true →
    ∃ t, exec (.chatterWindowExpiry i) s = .next t ∧
      ((s.slot (.seat i .muteChatter)).isRaised = true ∧ 2 ≤ s.mute[i].toggles →
        t.mute = s.mute.set i { s.mute[i] with toggles := 0, chatterWindow := some 100 } ∧ t.alerts = s.alerts) ∧
      (¬((s.slot (.seat i .muteChatter)).isRaised = true ∧ 2 ≤ s.mute[i].toggles) →
        t.mute = s.mute.set i { s.mute[i] with toggles := 0, chatterWindow := none } ∧
        t.slot (.seat i .muteChatter) = .clear ∧
        (RosterReady s 1 → ConditionEnded s t (.seat i .muteChatter))) ∧
      ChangesOnly [.mute, .alerts, .attention, .reminders, .lamps] s t)

/-! ## Downlink queue -/

/-- A slot sends the oldest reissue due of the link's seats, else the first issue of the oldest QUEUED SYNC that may
go, else nothing; the slot timer restarts with 50 ms each time. A radio ID that is absent is sent as 0, the model's
choice (log 11). The confirmation window expires: reissue due after 1 or 2 issues; after the third the SYNC fails and
leaves the queue, the seat is stalled, its confirmed values stay and its owed flag is not set; then owed service, and a
marker that comes to stand first completes. -/
def Obligations.SlotsIssueOrders : Prop :=
  (∀ (s : State) (l : LinkId) (pre post : List QEntry) (i : SeatId) (f : InFlight),
    s.links[l].slot.isSome = true → s.queue = pre ++ QEntry.sync i (.inFlight f) :: post → f.reissueDue = true →
    s.seats[i].bestLink = some l →
    (∀ j g, QEntry.sync j (.inFlight g) ∈ pre → g.reissueDue = true → s.seats[j].bestLink ≠ some l) →
    (∀ g, QEntry.sync i (.inFlight g) ∉ pre) →
    exec (.downlinkSlot l) s = .next
      { s with
        queue := pre ++
          QEntry.sync i (.inFlight { f with issues := f.issues + 1, window := some 600, reissueDue := false }) :: post
        links := s.links.set l { s.links[l] with
          slot := some 50, tx := some ⟨s.seats[i].radio.getD 0, f.tag, f.pattern, f.hold⟩ } }) ∧
  (∀ (s : State) (l : LinkId) (pre post : List QEntry) (i : SeatId),
    s.links[l].slot.isSome = true → s.queue = pre ++ QEntry.sync i .queued :: post → s.seats[i].bestLink = some l →
    (∀ j g, QEntry.sync j (.inFlight g) ∈ s.queue → g.reissueDue = true → s.seats[j].bestLink ≠ some l) →
    (∀ g, QEntry.sync i (.inFlight g) ∉ s.queue) →
    (∀ j, QEntry.sync j .queued ∈ pre →
      s.seats[j].bestLink ≠ some l ∨ ∃ g, QEntry.sync j (.inFlight g) ∈ s.queue) →
    exec (.downlinkSlot l) s = .next
      { s with
        queue := pre ++ QEntry.sync i (.inFlight
          { tag := s.syncs[i].orderTag + 1, pattern := s.mute[i].pattern, hold := s.mute[i].order, issues := 1,
            window := some 600, reissueDue := false }) :: post
        syncs := s.syncs.set i { s.syncs[i] with orderTag := s.syncs[i].orderTag + 1 }
        links := s.links.set l { s.links[l] with
          slot := some 50
          tx := some ⟨s.seats[i].radio.getD 0, s.syncs[i].orderTag + 1, s.mute[i].pattern, s.mute[i].order⟩ } }) ∧
  (∀ (s : State) (l : LinkId), s.links[l].slot.isSome = true →
    (∀ j g, QEntry.sync j (.inFlight g) ∈ s.queue → g.reissueDue = true → s.seats[j].bestLink ≠ some l) →
    (∀ j, QEntry.sync j .queued ∈ s.queue →
      s.seats[j].bestLink ≠ some l ∨ ∃ g, QEntry.sync j (.inFlight g) ∈ s.queue) →
    exec (.downlinkSlot l) s = .next { s with links := s.links.set l { s.links[l] with slot := some 50 } }) ∧
  (∀ (s : State) (l : LinkId), exec (.orderFrameEnd l) s = .next
    { s with links := s.links.set l { s.links[l] with tx := none } }) ∧
  (∀ (s : State) (i : SeatId) (pre post : List QEntry) (f : InFlight),
    s.queue = pre ++ QEntry.sync i (.inFlight f) :: post → (∀ g, QEntry.sync i (.inFlight g) ∉ pre ++ post) →
    f.window.isSome = true →
    (f.issues < 3 → exec (.syncWindowExpiry i) s = .next
      { s with queue := pre ++ QEntry.sync i (.inFlight { f with window := none, reissueDue := true }) :: post }) ∧
    (3 ≤ f.issues → ∃ t, exec (.syncWindowExpiry i) s = .next t ∧ t.syncs[i].stalled = true ∧
      (∀ j : SeatId, t.syncs[j].confirmed = s.syncs[j].confirmed ∧ t.syncs[j].orderTag = s.syncs[j].orderTag ∧
        (t.syncs[j].owed = true → s.syncs[j].owed = true) ∧
        (j ≠ i → t.syncs[j].stalled = s.syncs[j].stalled)) ∧
      (∀ g, QEntry.sync i (.inFlight g) ∉ t.queue) ∧
      ((∀ p n rest, pre ++ post ≠ QEntry.marker p n :: rest) → s.queue.length ≤ 24 →
        t.markers = s.markers ∧ t.attention = s.attention ∧
        ((∀ j, ¬MayBeServed s (pre ++ post) j) → t.queue = pre ++ post ∧ ∀ j : SeatId, t.syncs[j].owed = s.syncs[j].owed) ∧
        (∀ j, MayBeServed s (pre ++ post) j → (∀ k, k < j → ¬MayBeServed s (pre ++ post) k) →
          t.queue = pre ++ post ++ [QEntry.sync j .queued] ∧ t.syncs[j].owed = false)) ∧
      (∀ p n rest, pre = [] → post = QEntry.marker p n :: rest → (∀ q m more, rest ≠ QEntry.marker q m :: more) →
        t.markers = s.markers.set p { s.markers[p] with last := n } ∧ t.attention = s.attention.set p true) ∧
      ChangesOnly [.queue, .syncs, .markers, .attention] s t))

/-- MARK: QUEUE-FULL, MARK-LIMIT, or DONE with the port's next number; the marker joins the tail, or completes at once
in an empty queue. -/
def Obligations.MarkPlacesMarker : Prop :=
  ∀ (s : State) (p : PortId), Admitted s p .mark →
    (24 ≤ s.queue.length → exec (.mark p []) s = .next (s.answered p 0x15 .queueFull [])) ∧
    (s.queue.length < 24 → 2 ≤ s.markerCount p → exec (.mark p []) s = .next (s.answered p 0x15 .markLimit [])) ∧
    (s.queue.length < 24 → s.markerCount p < 2 → s.queue ≠ [] → exec (.mark p []) s = .next
      { s.answered p 0x15 .done [byte1 s.markers[p].next] with
        queue := s.queue ++ [QEntry.marker p s.markers[p].next]
        markers := s.markers.set p
          { s.markers[p] with next := if s.markers[p].next < 255 then s.markers[p].next + 1 else 1 } }) ∧
    (s.queue = [] → ∃ t, exec (.mark p []) s = .next t ∧ Answers s t p 0x15 .done [byte1 s.markers[p].next] ∧
      t.markers = s.markers.set p
        { next := if s.markers[p].next < 255 then s.markers[p].next + 1 else 1, last := s.markers[p].next } ∧
      t.attention = s.attention.set p true ∧ t.noMarkerOf p ∧
      ChangesOnly [.queue, .syncs, .markers, .attention, .ports] s t)

/-! ## Attention, reminders, lamps -/

/-- The attention line is active exactly while the role is not OFF, attention is pending and the mask is off. SET-MASK
changes the mask and never attention pending; masks are off at power-on, and RESTART and a port reset keep them. -/
def Obligations.AttentionLineFollows : Prop :=
  (∀ (s : State) (p : PortId), s.attentionLine p = true ↔
    s.ports[p].role ≠ .off ∧ s.attention[p] = true ∧ s.ports[p].mask = false) ∧
  (∀ (s : State) (p : PortId) (b : Byte), Admitted s p .setMask → b = 0 ∨ b = 1 →
    ∃ t, exec (.setMask p [b]) s = .next t ∧ t.ports[p].mask = (b == 1) ∧ t.attention = s.attention) ∧
  (∀ (straps : Vector Strap 4) (s : State) (q : PortId),
    ∃ t, exec (.powerOn straps) s = .next t ∧ t.ports[q].mask = false) ∧
  (∀ (s : State) (p q : PortId), (∃ t, exec (.restartBegin p) s = .next t ∧ t.ports[q].mask = s.ports[q].mask) ∧
    ∃ t, exec (.portBreak p) s = .next t ∧ t.ports[q].mask = s.ports[q].mask)

/-- SET-REMIND, SET-MASK and CLEAR-OVERFLOW act on the requesting port alone: the staged period, at most 255; the mask;
the overflow mark. -/
def Obligations.PortSettingsStored : Prop :=
  (∀ (s : State) (p : PortId) (w : BitVec 16), Admitted s p .setRemind →
    ∃ t, exec (.setRemind p (bytes16 w)) s = .next t ∧ t.reminders[p].staged = min w.toNat 255 ∧
      Answers s t p 0x12 (if 255 < w.toNat then .clamped else .done) [byte1 (min w.toNat 255)] ∧
      SameBut p s.reminders t.reminders ∧ ChangesOnly [.ports, .reminders] s t) ∧
  (∀ (s : State) (p : PortId) (b : Byte), Admitted s p .setMask →
    (b = 0 ∨ b = 1 → exec (.setMask p [b]) s = .next
      { s with ports := s.ports.set p { s.ports[p].answering 0x13 .done [] with mask := b == 1 } }) ∧
    (b ≠ 0 → b ≠ 1 → exec (.setMask p [b]) s = .next (s.answered p 0x13 .badArgument []))) ∧
  (∀ (s : State) (p : PortId), Admitted s p .clearOverflow → exec (.clearOverflow p []) s = .next
    { s.answered p 0x14 .done [] with
      alerts := { s.alerts with overflow := s.alerts.overflow.set p false } })

/-- SET-REMIND writes the staged period. With the timer stopped the period is active at once, and starts the timer if
a WARNING or URGENT entry is due and unacknowledged; a running timer, whose condition holds, keeps its period, and with a
period of 0 staged its expiry reminds once more and stops it. -/
def Obligations.SetRemindStages : Prop :=
  ∀ (s : State) (p : PortId) (w : BitVec 16), Admitted s p .setRemind →
    ∃ t, exec (.setRemind p (bytes16 w)) s = .next t ∧ t.reminders[p].staged = min w.toNat 255 ∧
      (s.reminders[p].timer = none → t.reminders[p].active = min w.toNat 255 ∧
        t.reminders[p].timer =
          if w.toNat ≠ 0 ∧ ∃ e ∈ s.alerts.roster, s.dueUnacked p e = true ∧ e.severity ≠ .notice
          then some (10 * min w.toNat 255) else none) ∧
      (s.reminders[p].timer.isSome = true → s.remindCondition p = true →
        t.reminders[p].active = s.reminders[p].active ∧ t.reminders[p].timer = s.reminders[p].timer ∧
        (w = 0 → ∃ u, exec (.reminderTimerExpiry p) t = .next u ∧ u.attention[p] = true ∧
          u.reminders[p].timer = none))

/-- The reminder timer expires: attention pending, the staged period becomes active, and the timer starts again unless
it is 0. -/
def Obligations.ReminderExpires : Prop :=
  ∀ (s : State) (p : PortId), s.reminders[p].timer.isSome = true → exec (.reminderTimerExpiry p) s = .next
    { s with
      attention := s.attention.set p true
      reminders := s.reminders.set p
        { s.reminders[p] with
          active := s.reminders[p].staged
          timer := if s.reminders[p].staged = 0 then none else some (10 * s.reminders[p].staged) } }

/-- The output of a lamp by its demand and active values, with the lit and dark parts of its cycle. -/
def Obligations.LampOutputs : Prop :=
  (∀ m : Lamp,
    (m.demanded = false → m.output = false) ∧
    (m.demanded = true → m.activeO = 0 → m.output = false) ∧
    (m.demanded = true → 0 < m.activeO → m.activeP ≤ m.activeO → m.output = true) ∧
    (∀ start n, m.demanded = true → 0 < m.activeO → m.activeO < m.activeP →
      (m.cycle = .running start (.lit n) → m.output = true) ∧
      (m.cycle = .running start (.dark n) → m.output = false))) ∧
  (∀ (s : State) (k : LampId) (start : Stamp) (n : Nat),
    (s.lamps[k].cycle = .running start (.lit n) → exec (.lampOnTimeEnd k) s = .next
      { s with
        lamps := s.lamps.set k { s.lamps[k] with cycle := .running start (.dark (s.lamps[k].activeP - s.lamps[k].activeO)) } }) ∧
    (s.lamps[k].cycle = .running start (.dark n) → exec (.lampPeriodEnd k) s = .next
      { s with
        lamps := s.lamps.set k { s.lamps[k] with
          activeP := s.lamps[k].stagedP
          activeO := s.lamps[k].stagedO
          cycle := if 0 < s.lamps[k].stagedO ∧ s.lamps[k].stagedO < s.lamps[k].stagedP
            then .running s.clock (.lit s.lamps[k].stagedO) else .stopped } }))

/-- SET-LAMP: values out of range are refused, P and O are brought into 2..50 and 0..50 and staged, mode and selector
act at once, and the active values follow at once unless the lamp was blinking and stays demanded (log 6). -/
def Obligations.SetLampConfigures : Prop :=
  (∀ (s : State) (p : PortId) (k : LampId) (mode : LampMode) (low : Severity) (scope : LampScope)
      (args : List Byte), Admitted s p .setLamp → args.length = 7 → argNat args 0 = k.val →
    modeOfCode (argByte args 1) = some mode → severityOfCode (argByte args 2) = some low →
    scopeOfCode (argByte args 3) (argNat args 4) = some scope →
    (let bp := max 2 (min 50 (argNat args 5))
     let bo := min 50 (argNat args 6)
     ∃ t, exec (.setLamp p args) s = .next t ∧
      Answers s t p 0x31 (if bp = argNat args 5 ∧ bo = argNat args 6 then .done else .clamped) [byte1 bp, byte1 bo] ∧
      t.lamps[k].mode = mode ∧ t.lamps[k].lowest = low ∧ t.lamps[k].scope = scope ∧
      t.lamps[k].stagedP = bp ∧ t.lamps[k].stagedO = bo ∧
      (t.lamps[k].demanded = true ↔ mode = .on ∨ (mode = .function ∧ ∃ e ∈ s.alerts.roster,
        low.num ≤ e.severity.num ∧ (scope = .any ∨ ∃ q, scope = .unackedBy q ∧ s.dueUnacked q e = true))) ∧
      (t.lamps[k].demanded = true → s.lamps[k].demanded = true → 0 < s.lamps[k].activeO →
        s.lamps[k].activeO < s.lamps[k].activeP →
        t.lamps[k].activeP = s.lamps[k].activeP ∧ t.lamps[k].activeO = s.lamps[k].activeO) ∧
      (t.lamps[k].demanded = false ∨ s.lamps[k].demanded = false ∨ s.lamps[k].activeO = 0 ∨
        s.lamps[k].activeP ≤ s.lamps[k].activeO → t.lamps[k].activeP = bp ∧ t.lamps[k].activeO = bo) ∧
      (t.lamps[k].demanded = false → t.lamps[k].cycle = .stopped) ∧
      SameBut k s.lamps t.lamps ∧ ChangesOnly [.ports, .lamps] s t)) ∧
  (∀ (s : State) (p : PortId) (args : List Byte), Admitted s p .setLamp → args.length = 7 →
    (4 ≤ argNat args 0 ∨ 3 ≤ argNat args 1 ∨ argNat args 2 = 0 ∨ 4 ≤ argNat args 2 ∨ 2 ≤ argNat args 3 ∨
      (argNat args 3 = 1 ∧ 4 ≤ argNat args 4)) →
    exec (.setLamp p args) s = .next (s.answered p 0x31 .badArgument []))

/-! ## Reads -/

/-- SUMMARY is answered in STARTING and READY with its 19 bytes, and then clears attention pending of its port. The bytes
are the part state and clock; the roster count, the due-unacknowledged count, the highest severity among those and the
tag of the first; the overflow mark, the last completed marker, the stranger count; the link states. -/
def Obligations.SummaryReportsAndClears : Prop :=
  ∀ (s : State) (p : PortId), s.ports[p].role ≠ .off → s.ports[p].inBreak = false → s.ports[p].response = none →
    exec (.summary p []) s = .next
      { s.answered p 0x01 .done (s.summaryBytes p) with attention := s.attention.set p false } ∧
    (s.summaryBytes p).length = 19 ∧ (s.summaryBytes p).take 5 = byte1 s.part.code :: bytes32 s.clock ∧
    (∃ sev tag : Nat,
      ((s.summaryBytes p).drop 5).take 8 =
        [byte1 s.alerts.roster.length, byte1 (s.alerts.roster.countP (s.dueUnacked p)), byte1 sev] ++ nat16 tag ++
        [if s.alerts.overflow[p] then 1 else 0, byte1 s.markers[p].last, byte1 s.strangers.length] ∧
      ((∀ e ∈ s.alerts.roster, s.dueUnacked p e = false) → sev = 0 ∧ tag = 0) ∧
      ((∃ e ∈ s.alerts.roster, s.dueUnacked p e = true) →
        ∃ e ∈ s.alerts.roster, s.dueUnacked p e = true ∧ sev = e.severity.num) ∧
      (∀ e ∈ s.alerts.roster, s.dueUnacked p e = true → e.severity.num ≤ sev) ∧
      (∀ pre post e, s.alerts.roster = pre ++ e :: post → s.dueUnacked p e = true →
        (∀ x ∈ pre, s.dueUnacked p x = false) → tag = e.tag)) ∧
    (s.summaryBytes p).drop 13 = [byte1 s.links[0].state.code, byte1 s.links[1].state.code,
      byte1 s.links[2].state.code, byte1 s.links[3].state.code, byte1 s.links[4].state.code,
      byte1 s.links[5].state.code]

/-- The reads are answered with their records and change nothing else; numbers out of range are BAD-ARGUMENT. -/
def Obligations.ReadsReportOnly : Prop :=
  ∀ (s : State) (p : PortId),
    (Admitted s p .readSeat →
      (∀ i : SeatId, exec (.readSeat p [seatByte i]) s = .next (s.answered p 0x03 .done (s.seatBytes i))) ∧
      (∀ b : Byte, b = 0 ∨ 192 < b.toNat →
        exec (.readSeat p [b]) s = .next (s.answered p 0x03 .badArgument []))) ∧
    (Admitted s p .readLink →
      (∀ l : LinkId, exec (.readLink p [byte1 l.val]) s = .next (s.answered p 0x04 .done (s.linkBytes l))) ∧
      (∀ b : Byte, 6 ≤ b.toNat → exec (.readLink p [b]) s = .next (s.answered p 0x04 .badArgument []))) ∧
    (Admitted s p .readStrangers → exec (.readStrangers p []) s = .next
      (s.answered p 0x05 .done (byte1 s.strangers.length :: s.strangers.flatMap Stranger.bytes))) ∧
    (Admitted s p .readParam →
      (∀ (b : Byte) (q : Param), paramOfId b.toNat = some q →
        exec (.readParam p [b]) s = .next (s.answered p 0x06 .done (b :: int16 (s.paramValue q)))) ∧
      (∀ b : Byte, paramOfId b.toNat = none →
        exec (.readParam p [b]) s = .next (s.answered p 0x06 .badArgument []))) ∧
    (Admitted s p .readRoster →
      (∀ a n : Byte, 1 ≤ n.toNat → n.toNat ≤ 6 → exec (.readRoster p [a, n]) s = .next
        (s.answered p 0x02 .done (byte1 s.alerts.roster.length ::
          byte1 (min n.toNat (s.alerts.roster.length - a.toNat)) ::
          ((s.alerts.roster.drop a.toNat).take n.toNat).flatMap (s.entryBytes p)))) ∧
      (∀ a n : Byte, n = 0 ∨ 6 < n.toNat →
        exec (.readRoster p [a, n]) s = .next (s.answered p 0x02 .badArgument [])))

/-- The seat record has 56 bytes, the link record 19, a roster entry 28, a stranger entry 15, and the seat record's
first fields stand where the layout puts them. -/
def Obligations.RecordLayouts : Prop :=
  (∀ (s : State) (i : SeatId), (s.seatBytes i).length = 56 ∧
    (s.seatBytes i).take 2 = [seatByte i, byte1 s.seats[i].state.code] ∧
    ((s.seatBytes i).drop 3).take 4 = bytes32 (s.seats[i].radio.getD 0) ∧
    ((s.seatBytes i).drop 13).take 4 = bytes32 (s.seats[i].lastHeard.getD 0) ∧
    ((s.seatBytes i).drop 40).take 3 =
      [byte1 s.mute[i].hold.code, byte1 s.mute[i].pattern.code, byte1 s.mute[i].order.code] ∧
    (s.seatBytes i).drop 47 = seatKinds.map fun k => (s.slot (.seat i k)).byte) ∧
  (∀ (s : State) (l : LinkId), (s.linkBytes l).length = 19 ∧
    (s.linkBytes l).take 3 = [byte1 l.val, byte1 (flag s.links[l].enable), byte1 s.links[l].state.code] ∧
    ((s.linkBytes l).drop 7).take 4 = bytes32 (s.links[l].identity.getD 0)) ∧
  (∀ (s : State) (p : PortId) (e : Entry), (s.entryBytes p e).length = 28 ∧
    (s.entryBytes p e).take 2 = nat16 e.tag ∧ ((s.entryBytes p e).drop 7).take 4 = bytes32 e.stamp) ∧
  (∀ x : Stranger, (Stranger.bytes x).length = 15 ∧ (Stranger.bytes x).take 4 = bytes32 x.radio)

/-! ## Acknowledgement and views -/

/-- ACK on a roster of LIVE entries: the port joins the ack sets in scope (a tag, a seat, a tagged range, every due
entry), the count is of entries newly acknowledged, and nothing is removed. The last acknowledgement an ENDED entry waits
for removes it: with nothing WAITING its place stays free, else the first WAITING condition is listed there; in every
scope the ENDED entries so acknowledged are removed one after the other, in roster order, on a tagged range seat by seat,
ascending. That a range reaches only the entries present when it is taken is the model's reading (log 25). A tag that no
entry holds is STALE; an unknown scope and a seat above 192 are BAD-ARGUMENT. -/
def Obligations.AckActs : Prop :=
  (∀ (s : State) (p : PortId), Admitted s p .ack →
     ((∀ e ∈ s.alerts.roster, e.phase = .live) →
       (∀ w : BitVec 16, AckAdds s p (3 :: bytes16 w) (s.due p)) ∧
       (∀ i : SeatId, AckAdds s p [2, 0, seatByte i] fun e => decide (e.source.seat? = some i)) ∧
       (∀ a b : SeatId, s.ports[p].tag = .range a b → AckAdds s p [2, 0, 0] fun e =>
         e.source.seat?.any fun i => decide (a ≤ i) && decide (i ≤ b)) ∧
       (∀ w : BitVec 16, (∃ e ∈ s.alerts.roster, e.tag = w.toNat) →
         AckAdds s p (1 :: bytes16 w) fun e => decide (e.tag = w.toNat))) ∧
     (∀ w : BitVec 16, (∀ e ∈ s.alerts.roster, e.tag ≠ w.toNat) →
       exec (.ack p (1 :: bytes16 w)) s = .next (s.answered p 0x10 .stale [])) ∧
     (∀ (b : Byte) (w : BitVec 16), b ≠ 1 → b ≠ 2 → b ≠ 3 →
       exec (.ack p (b :: bytes16 w)) s = .next (s.answered p 0x10 .badArgument [])) ∧
     (∀ w : BitVec 16, 192 < w.toNat →
       exec (.ack p (2 :: bytes16 w)) s = .next (s.answered p 0x10 .badArgument [])) ∧
     (RosterReady s 48 →
       (∀ w : BitVec 16, AckTaken s p (3 :: bytes16 w) [s.due p]) ∧
       (∀ i : SeatId, AckTaken s p [2, 0, seatByte i] [fun e => decide (e.source.seat? = some i)]) ∧
       (∀ a b : SeatId, s.ports[p].tag = .range a b → AckTaken s p [2, 0, 0]
         ((rangeSeats a b).map fun i e => decide (e.source.seat? = some i))) ∧
       (∀ w : BitVec 16, (∃ e ∈ s.alerts.roster, e.tag = w.toNat) →
         AckTaken s p (1 :: bytes16 w) [fun e => decide (e.tag = w.toNat)]))) ∧
  (∀ (s : State) (p : PortId) (pre post : List Entry) (e : Entry) (w : BitVec 16), Admitted s p .ack →
     s.alerts.roster = pre ++ e :: post → e.tag = w.toNat → e.isEnded = true → e.acks[p] = false →
     (∀ x ∈ pre ++ post, x.tag ≠ e.tag ∧ x.source ≠ e.source) →
     (∀ q : PortId, q ≠ p → s.due q e = true → e.acks[q] = true) →
     ((∀ src r, s.slot src = .raised r → r.listing ≠ .waiting) →
       ∃ t, exec (.ack p (1 :: bytes16 w)) s = .next t ∧ t.alerts = { s.alerts with roster := pre ++ post } ∧
         Answers s t p 0x10 .done [1] ∧ ChangesOnly [.alerts, .ports, .reminders, .lamps] s t) ∧
     (∀ src r, FirstWaiting s src r → (∀ x ∈ pre ++ post, x.source ≠ src) → RosterSound s →
       s.alerts.rankCounter < Config.maxRank →
       ∃ t, exec (.ack p (1 :: bytes16 w)) s = .next t ∧ EntryCreated s t (pre ++ post) src r ∧
         t.alerts.overflow = s.alerts.overflow ∧ (∀ other, other ≠ src → t.slot other = s.slot other) ∧
         (∀ q : PortId, t.attention[q] = (s.dueTo q src r.severity || s.attention[q])) ∧
         Answers s t p 0x10 .done [1] ∧ ChangesOnly [.alerts, .attention, .ports, .reminders, .lamps] s t))

/-- SET-VIEW: the checks in order, and the target port's new view; on a roster of LIVE entries nothing is removed, and
attention is set on the target exactly for an entry newly due and not acknowledged. In any roster that is judged first
(log 22), and then the ENDED entries that are NOTICE or acknowledged by all under the new view are removed, one after
the other. -/
def Obligations.SetViewReplacesView : Prop :=
  (∀ (s : State) (p q : PortId) (base limit : Byte) (low : Severity) (kinds : BitVec 16), Admitted s p .setView →
     (let args : List Byte := byte1 q.val :: base :: limit :: byte1 low.num :: bytes16 kinds
      (q ≠ p → s.ports[p].role ≠ .desk → exec (.setView p args) s = .next (s.answered p 0x11 .notPermitted [])) ∧
      (q = p ∨ s.ports[p].role = .desk → s.ports[q].role = .off →
        exec (.setView p args) s = .next (s.answered p 0x11 .badArgument [])) ∧
      (q = p ∨ s.ports[p].role = .desk → s.ports[q].role ≠ .off →
        (base = 0 ∨ 192 < base.toNat ∨ limit = 0 ∨ 192 < limit.toNat ∨ 1024 ≤ kinds.toNat) →
        exec (.setView p args) s = .next (s.answered p 0x11 .badArgument [])) ∧
      (q = p ∨ s.ports[p].role = .desk → s.ports[q].role ≠ .off →
        base ≠ 0 → base.toNat ≤ 192 → limit ≠ 0 → limit.toNat ≤ 192 → kinds.toNat < 1024 →
        (let v : View := ⟨base.toNat, limit.toNat, low, kinds.setWidth 10⟩
         ∃ t, exec (.setView p args) s = .next t ∧ t.ports[q].view = v ∧
          t.ports[p].response = some ⟨0x11, .done, s.ports[p].overrun, [], false⟩ ∧
          (∀ r : PortId, r ≠ p → r ≠ q → t.ports[r] = s.ports[r]) ∧
          ((∀ e ∈ s.alerts.roster, e.phase = .live) → t.alerts = s.alerts ∧
           ∀ r : PortId, t.attention[r] = true ↔ s.attention[r] = true ∨
             (r = q ∧ ∃ e ∈ s.alerts.roster, v.admits e.source e.severity = true ∧ s.due q e = false ∧
               e.acks[q] = false)) ∧
          (RosterReady s 48 →
           (let u : State := { s with
              ports := s.ports.set q { s.ports[q] with view := v }
              attention := Vector.ofFn fun r => s.attention[r] || (r == q && s.alerts.roster.any fun e =>
                v.admits e.source e.severity && !s.due q e && !e.acks[q]) }
            let leaving := s.alerts.roster.filter fun e =>
              e.isEnded && (e.severity == .notice || allPorts.all fun r => !u.due r e || e.acks[r])
            RemovedInTurn (leaving.map (·.source)) u t)) ∧
          ChangesOnly [.ports, .alerts, .attention, .reminders, .lamps] s t)))) ∧
  (∀ (s : State) (p : PortId) (args : List Byte), Admitted s p .setView → args.length = 6 →
     4 ≤ argNat args 0 ∨ ((argNat args 0 = p.val ∨ s.ports[p].role = .desk) ∧
       (argNat args 3 = 0 ∨ 4 ≤ argNat args 3)) →
     exec (.setView p args) s = .next (s.answered p 0x11 .badArgument []))

/-! ## Seats on request -/

/-- FREE with seat 0 and a tagged range frees every held bound seat of the range, skips the others, and counts. QUIET,
UNQUIET, HOLD, FREE, SWAP and REVOKE with seat 0 and a tagged range do what the request does on each seat of the range,
ascending, and answer the count of seats it changed. TAG-FIRST and TAG-LAST: the tag state they leave and their answers;
every other request taken leaves the state NONE. Seat 0 without a tagged range is answered SEQUENCE by every request that
takes a range, ACK of scope SEAT among them; a seat above 192 is BAD-ARGUMENT (for ACK stated with it). -/
def Obligations.RangeFreesSeats : Prop :=
  (∀ (s : State) (p : PortId) (a b : SeatId), Admitted s p .free → s.ports[p].tag = .range a b →
     ∃ t, exec (.free p [0]) s = .next t ∧
       (∀ i : SeatId, a ≤ i → i ≤ b → s.bound i = true → t.mute[i].hold = .none ∧
         (s.mute[i].hold = .none → t.mute[i] = s.mute[i]) ∧ (s.mute[i].hold ≠ .none → t.mute[i].order = .free)) ∧
       (∀ i : SeatId, ¬(a ≤ i ∧ i ≤ b) ∨ s.bound i = false → t.mute[i] = s.mute[i]) ∧
       Answers s t p 0x23 .done [byte1 ((List.finRange 192).countP fun i =>
         decide (a ≤ i) && decide (i ≤ b) && s.bound i && s.mute[i].hold != .none)] ∧
       ChangesOnly [.mute, .queue, .syncs, .ports] s t) ∧
  (∀ (s : State) (p : PortId) (r : Request) (a b : SeatId), r ∈ [.quiet, .unquiet, .hold, .free, .swap, .revoke] →
    Admitted s p r → s.ports[p].tag = .range a b → ∃ t, exec (r.row p [0]) s = .next t ∧
      (let u := (rangeSeats a b).foldl (requestOnSeat p r) (0, s)
       Answers s t p r.code .done [byte1 u.1] ∧ ChangesOnly [.ports, .reminders, .lamps] u.2 t)) ∧
  (∀ (s : State) (p : PortId), Admitted s p .tagFirst →
    (∀ i : SeatId, exec (.tagFirst p [seatByte i]) s = .next
      { s with ports := s.ports.set p { s.ports[p].answering 0x16 .done [] with tag := .first i } }) ∧
    (∀ b : Byte, b = 0 ∨ 192 < b.toNat →
      exec (.tagFirst p [b]) s = .next (s.answered p 0x16 .badArgument []))) ∧
  (∀ (s : State) (p : PortId), Admitted s p .tagLast →
    (∀ b : Byte, (∀ a, s.ports[p].tag ≠ .first a) →
      exec (.tagLast p [b]) s = .next (s.answered p 0x17 .sequence [])) ∧
    (∀ (a : SeatId) (b : Byte), s.ports[p].tag = .first a → b = 0 ∨ 192 < b.toNat →
      exec (.tagLast p [b]) s = .next (s.answered p 0x17 .badArgument [])) ∧
    (∀ a i : SeatId, s.ports[p].tag = .first a → a ≤ i →
      (a.val / 8 = i.val / 8 ∨ (a.val % 8 = 0 ∧ i.val % 8 = 7)) → exec (.tagLast p [seatByte i]) s = .next
      { s with ports := s.ports.set p { s.ports[p].answering 0x17 .done [] with tag := .range a i } }) ∧
    (∀ a i : SeatId, s.ports[p].tag = .first a →
      ¬(a ≤ i ∧ (a.val / 8 = i.val / 8 ∨ (a.val % 8 = 0 ∧ i.val % 8 = 7))) →
      exec (.tagLast p [seatByte i]) s = .next (s.answered p 0x17 .range []))) ∧
  (∀ (s : State) (p : PortId) (r : Request), r ∈ [.quiet, .unquiet, .hold, .free, .swap, .revoke] → Admitted s p r →
     ((∀ a b, s.ports[p].tag ≠ .range a b) → exec (r.row p [0]) s = .next (s.answered p r.code .sequence [])) ∧
     (∀ b : Byte, 192 < b.toNat → exec (r.row p [b]) s = .next (s.answered p r.code .badArgument []))) ∧
  (∀ (s : State) (p : PortId) (r : Request) (args : List Byte), r ≠ .tagFirst → r ≠ .tagLast →
    s.ports[p].role ≠ .off → s.ports[p].inBreak = false → s.ports[p].response = none →
    ∃ t, exec (r.row p args) s = .next t ∧ t.ports[p].tag = .none) ∧
  (∀ (s : State) (p : PortId), Admitted s p .ack → (∀ a b, s.ports[p].tag ≠ .range a b) →
    exec (.ack p [2, 0, 0]) s = .next (s.answered p 0x10 .sequence []))

/-- QUIET on an ACTIVE seat sets the flag and turns its WAITING conditions into QUIETED; UNQUIET clears it and leaves no
condition of the seat QUIETED: each becomes WAITING and makes its listing attempt, in order. The other answers change
nothing; that UNQUIET is answered DONE on a VACANT seat too is the model's reading of R10 (log 23). -/
def Obligations.QuietAndUnquiet : Prop :=
  (∀ (s : State) (p : PortId) (i : SeatId), Admitted s p .quiet →
    (s.seats[i].state = .active → s.seats[i].quiet = false → ∃ t, exec (.quiet p [seatByte i]) s = .next t ∧
      t.seats = s.seats.set i { s.seats[i] with quiet := true } ∧
      (∀ k, t.slot (.seat i k) = (s.slot (.seat i k)).mapRaised fun r =>
        if r.listing = .waiting then { r with listing := .quieted } else r) ∧
      (∀ src, src.seat? ≠ some i → t.slot src = s.slot src) ∧ t.alerts.roster = s.alerts.roster ∧
      Answers s t p 0x20 .done [1] ∧ ChangesOnly [.seats, .alerts, .ports] s t) ∧
    (s.seats[i].state = .active → s.seats[i].quiet = true →
      exec (.quiet p [seatByte i]) s = .next (s.answered p 0x20 .done [0])) ∧
    (s.seats[i].state = .vacant → exec (.quiet p [seatByte i]) s = .next (s.answered p 0x20 .vacant [])) ∧
    (s.seats[i].state ≠ .active → s.seats[i].state ≠ .vacant →
      exec (.quiet p [seatByte i]) s = .next (s.answered p 0x20 .absent []))) ∧
  (∀ (s : State) (p : PortId) (i : SeatId), Admitted s p .unquiet →
    (s.seats[i].quiet = true → ∃ t, exec (.unquiet p [seatByte i]) s = .next t ∧
      t.seats = s.seats.set i { s.seats[i] with quiet := false } ∧
      (∀ k r, t.slot (.seat i k) = .raised r → r.listing ≠ .quieted) ∧
      (RosterReady s 9 → ∀ cs, QuietedInOrder s i cs →
        ∃ u, ChangesOnly [.seats, .alerts] s u ∧ u.seats = t.seats ∧
          (∀ k, u.slot (.seat i k) = (s.slot (.seat i k)).mapRaised fun r =>
            if r.listing = .quieted then { r with listing := .waiting } else r) ∧
          (∀ src, src.seat? ≠ some i → u.slot src = s.slot src) ∧
          { u.alerts with seatSlots := s.alerts.seatSlots } = s.alerts ∧ AttemptsInTurn cs u t) ∧
      Answers s t p 0x21 .done [1] ∧ ChangesOnly [.seats, .alerts, .attention, .ports, .reminders, .lamps] s t) ∧
    (s.seats[i].quiet = false → ∃ t, exec (.unquiet p [seatByte i]) s = .next t ∧
      Answers s t p 0x21 .done [0] ∧ ChangesOnly [.ports, .reminders, .lamps] s t))

/-- HOLD and FREE on one seat: the hold, the desired hold, and their answers; a changed desired hold asks for a SYNC. -/
def Obligations.HoldAndFree : Prop :=
  (∀ (s : State) (p : PortId) (i : SeatId), Admitted s p .hold →
    (s.bound i = true → s.mute[i].hold ≠ .console → ∃ t, exec (.hold p [seatByte i]) s = .next t ∧
      t.mute[i].hold = .console ∧ t.mute[i].order = .held ∧ t.mute[i].floorMutedQualify = none ∧
      t.mute[i].floor = s.mute[i].floor ∧ t.slot (.seat i .floorMuted) = .clear ∧ SameBut i s.mute t.mute ∧
      (s.mute[i].order = .free → SyncRequested i s t) ∧ Answers s t p 0x22 .done [1] ∧
      ChangesOnly [.mute, .alerts, .attention, .queue, .syncs, .ports, .reminders, .lamps] s t) ∧
    (s.bound i = true → s.mute[i].hold = .console → ∃ t, exec (.hold p [seatByte i]) s = .next t ∧
      Answers s t p 0x22 .done [0] ∧ ChangesOnly [.ports, .reminders, .lamps] s t) ∧
    (s.bound i = false → exec (.hold p [seatByte i]) s = .next (s.answered p 0x22 .vacant []))) ∧
  (∀ (s : State) (p : PortId) (i : SeatId), Admitted s p .free →
    (s.bound i = true → s.mute[i].hold ≠ .none → ∃ t, exec (.free p [seatByte i]) s = .next t ∧
      t.mute[i].hold = .none ∧ t.mute[i].order = .free ∧ t.mute[i].floor = s.mute[i].floor ∧
      SameBut i s.mute t.mute ∧ (s.mute[i].order = .held → SyncRequested i s t) ∧
      Answers s t p 0x23 .done [1] ∧ ChangesOnly [.mute, .queue, .syncs, .ports] s t) ∧
    (s.bound i = true → s.mute[i].hold = .none →
      exec (.free p [seatByte i]) s = .next (s.answered p 0x23 .done [0])) ∧
    (s.bound i = false → exec (.free p [seatByte i]) s = .next (s.answered p 0x23 .vacant [])))

/-- SWAP on a bound seat whose level is known resets the battery section and ends BATTERY; an unknown level is ABSENT,
a VACANT seat VACANT. -/
def Obligations.SwapResetsBattery : Prop :=
  ∀ (s : State) (p : PortId) (i : SeatId), Admitted s p .swap →
    (∀ level, s.bound i = true → s.battery[i].level = some level → ∃ t, exec (.swap p [seatByte i]) s = .next t ∧
      t.battery = s.battery.set i { s.battery[i] with
        drain := s.params.drain[s.battery[i].cls], weighted := 0, ref := level, samples := 0,
        minutes := min 999 (16 * level / s.params.drain[s.battery[i].cls]), lowStreak := 0, critStreak := 0,
        status := .ok } ∧
      (t.slot (.seat i .battery)).isRaised = false ∧ SameBut i s.mute t.mute ∧
      t.mute[i].floor = s.mute[i].floor ∧ t.mute[i].hold = s.mute[i].hold ∧
      Answers s t p 0x24 .done [1] ∧
      ChangesOnly [.battery, .mute, .alerts, .attention, .queue, .syncs, .ports, .reminders, .lamps] s t) ∧
    (s.bound i = true → s.battery[i].level = none →
      exec (.swap p [seatByte i]) s = .next (s.answered p 0x24 .absent [])) ∧
    (s.bound i = false → exec (.swap p [seatByte i]) s = .next (s.answered p 0x24 .vacant []))

/-- GRANT: its checks in order, and what it does to a bound seat without the floor. A LISTED condition that escalates takes
a new rank, and its ack set is emptied; OPEN_NO_FLOOR ends behind the escalations. -/
def Obligations.GrantGivesFloor : Prop :=
  ∀ (s : State) (p : PortId), Admitted s p .grant →
    (∀ b : Byte, b = 0 ∨ 192 < b.toNat → exec (.grant p [b]) s = .next (s.answered p 0x25 .badArgument [])) ∧
    (∀ i : SeatId,
      (s.bound i = false → exec (.grant p [seatByte i]) s = .next (s.answered p 0x25 .vacant [])) ∧
      (s.bound i = true → s.mute[i].floor = true →
        exec (.grant p [seatByte i]) s = .next (s.answered p 0x25 .done [])) ∧
      (s.bound i = true → s.mute[i].floor = false → s.floorCount = s.params.floorLimit →
        exec (.grant p [seatByte i]) s = .next (s.answered p 0x25 .floorFull [])) ∧
      (s.bound i = true → s.mute[i].floor = false → s.floorCount < s.params.floorLimit →
        ∃ t, exec (.grant p [seatByte i]) s = .next t ∧
          t.mute[i].floor = true ∧ t.floorCount = s.floorCount + 1 ∧
          t.mute[i].hold = (if s.mute[i].hold = .auto then .none else s.mute[i].hold) ∧
          t.mute[i].order = (if s.mute[i].hold = .console then .held else .free) ∧
          (s.seats[i].state = .lost → (s.slot (.seat i .signalLoss)).severity? = some .warning →
            (t.slot (.seat i .signalLoss)).severity? = some .urgent) ∧
          ((s.slot (.seat i .voiceInMute)).severity? = some .notice →
            (t.slot (.seat i .voiceInMute)).severity? = some .warning) ∧
          t.slot (.seat i .openNoFloor) = .clear ∧ t.mute[i].openGrace = none ∧ SameBut i s.mute t.mute ∧
          (RosterReady s 3 → ∃ u v : State,
            ChangesOnly [.mute, .floorCount, .alerts, .attention] s u ∧
            ChangesOnly [.mute, .floorCount, .alerts, .attention] s v ∧
            (s.seats[i].state = .lost → EscalatedFrom s u (.seat i .signalLoss) .warning .urgent) ∧
            (s.seats[i].state ≠ .lost → u.alerts = s.alerts ∧ u.attention = s.attention) ∧
            EscalatedFrom u v (.seat i .voiceInMute) .notice .warning ∧
            ConditionEnded v t (.seat i .openNoFloor) ∧
            ((v.slot (.seat i .openNoFloor)).isRaised = false →
              t.alerts = v.alerts.setSlot (.seat i .openNoFloor) .clear ∧ t.attention = v.attention)) ∧
          Answers s t p 0x25 .done [] ∧
          ChangesOnly [.mute, .floorCount, .alerts, .attention, .queue, .syncs, .ports, .reminders, .lamps] s t))

/-- REVOKE on a seat that holds the floor, and REVOKE-ALL: the flags clear, the count falls, FLOOR_MUTED of each seat that
held the floor is gone with its qualify timer, holds stay, the desired pattern and hold follow. -/
def Obligations.RevokeTakesFloor : Prop :=
  (∀ (s : State) (p : PortId) (i : SeatId), Admitted s p .revoke →
    (s.bound i = true → s.mute[i].floor = true → ∃ t, exec (.revoke p [seatByte i]) s = .next t ∧
      t.mute[i].floor = false ∧ t.floorCount = s.floorCount - 1 ∧ t.mute[i].hold = s.mute[i].hold ∧
      t.slot (.seat i .floorMuted) = .clear ∧ t.mute[i].floorMutedQualify = none ∧ IndicatorFollows t i ∧
      SameBut i s.mute t.mute ∧ Answers s t p 0x26 .done [1] ∧
      ChangesOnly [.mute, .floorCount, .alerts, .attention, .queue, .syncs, .ports, .reminders, .lamps] s t) ∧
    (s.bound i = true → s.mute[i].floor = false → ∃ t, exec (.revoke p [seatByte i]) s = .next t ∧
      Answers s t p 0x26 .done [0] ∧ ChangesOnly [.ports, .reminders, .lamps] s t) ∧
    (s.bound i = false → exec (.revoke p [seatByte i]) s = .next (s.answered p 0x26 .vacant []))) ∧
  (∀ (s : State) (p : PortId), Admitted s p .revokeAll → (∀ i : SeatId, s.mute[i].floor = true → s.bound i = true) →
    ∃ t, exec (.revokeAll p []) s = .next t ∧
      (∀ i : SeatId, t.mute[i].floor = false ∧ t.mute[i].hold = s.mute[i].hold ∧
        (s.mute[i].floor = false → t.mute[i] = s.mute[i]) ∧
        (s.mute[i].floor = true → t.slot (.seat i .floorMuted) = .clear ∧ t.mute[i].floorMutedQualify = none ∧
          IndicatorFollows t i)) ∧
      t.floorCount = s.floorCount - (List.finRange 192).countP (fun i => s.mute[i].floor) ∧
      Answers s t p 0x27 .done [byte1 ((List.finRange 192).countP fun i => s.mute[i].floor)] ∧
      ChangesOnly [.mute, .floorCount, .alerts, .attention, .queue, .syncs, .ports, .reminders, .lamps] s t)

/-- BIND: its checks in order, and on DONE the seat AWAITING with the radio ID and the stranger entry gone. -/
def Obligations.BindTakesSeat : Prop :=
  ∀ (s : State) (p : PortId) (b : Byte) (r : RadioId), Admitted s p .bind →
    (b = 0 ∨ 192 < b.toNat ∨ r = 0 ∨ r = 0xFFFFFFFF →
      exec (.bind p (b :: bytes32 r)) s = .next (s.answered p 0x28 .badArgument [])) ∧
    (∀ i : SeatId, b = seatByte i → r ≠ 0 → r ≠ 0xFFFFFFFF →
      (s.bound i = true → exec (.bind p (b :: bytes32 r)) s = .next (s.answered p 0x28 .seatTaken [])) ∧
      (s.bound i = false → (∃ j : SeatId, s.seats[j].radio = some r) →
        exec (.bind p (b :: bytes32 r)) s = .next (s.answered p 0x28 .idTaken [])) ∧
      (s.bound i = false → (∀ j : SeatId, s.seats[j].radio ≠ some r) →
        exec (.bind p (b :: bytes32 r)) s = .next
          { s.answered p 0x28 .done [] with
            seats := s.seats.set i { s.seats[i] with radio := some r, state := .awaiting }
            strangers := s.strangers.filter fun x => x.radio != r }))

/-- UNBIND on a bound seat in any state: the record takes its power-on values, its conditions and entries are gone, its
SYNCs have left the queue, the floor and an attribution are given back; a VACANT seat is answered VACANT, and a number
that is no seat's BAD-ARGUMENT. -/
def Obligations.UnbindFreesSeat : Prop :=
  (∀ (s : State) (p : PortId) (b : Byte), Admitted s p .unbind → b = 0 ∨ 192 < b.toNat →
    exec (.unbind p [b]) s = .next (s.answered p 0x29 .badArgument [])) ∧
  ∀ (s : State) (p : PortId) (i : SeatId), Admitted s p .unbind →
    (s.bound i = false → exec (.unbind p [seatByte i]) s = .next (s.answered p 0x29 .vacant [])) ∧
    (s.bound i = true → ∃ t, exec (.unbind p [seatByte i]) s = .next t ∧
      t.seats = s.seats.set i SeatRec.vacant ∧ t.battery = s.battery.set i (Battery.fresh s.params.drain[0]) ∧
      t.signal = s.signal.set i Signal.fresh ∧ t.mute = s.mute.set i Mute.fresh ∧ t.syncs[i] = SyncRec.fresh ∧
      (∀ k, t.slot (.seat i k) = .clear) ∧ (∀ e ∈ t.alerts.roster, e.source.seat? ≠ some i) ∧
      (QueueSound s → ∀ x, QEntry.sync i x ∉ t.queue) ∧
      t.floorCount = (if s.mute[i].floor then s.floorCount - 1 else s.floorCount) ∧
      (∀ l : LinkId, t.links[l] =
        if s.signal[i].cause = .link l then { s.links[l] with attributed := s.links[l].attributed - 1 }
        else s.links[l]) ∧
      Answers s t p 0x29 .done [] ∧
      ChangesOnly [.seats, .battery, .signal, .mute, .syncs, .links, .floorCount, .alerts, .attention, .queue,
        .markers, .ports, .reminders, .lamps] s t)

/-! ## Parameters -/

/-- The ranges and identifiers of the parameters. SET-PARAM on a parameter other than link enable: the value is brought
into range, the floor limit raised to the floor count, critical minutes lowered below low minutes; the value stored is
returned. -/
def Obligations.SetParamStores : Prop :=
  (∀ ps : Params, Param.range ps .lossTime = (6, 50) ∧ Param.range ps .weakThreshold = (-110, -60) ∧
    Param.range ps .lowMinutes = (5, 60) ∧ Param.range ps .critMinutes = (1, (ps.lowMinutes : Int) - 1) ∧
    (∀ c, Param.range ps (.drain c) = (1, 4095)) ∧ Param.range ps .voiceQualify = (10, 100) ∧
    Param.range ps .openGrace = (0, 100) ∧ Param.range ps .floorMutedQualify = (20, 300) ∧
    Param.range ps .chatterThreshold = (3, 15) ∧ Param.range ps .autoMute = (0, 1) ∧
    Param.range ps .floorLimit = (1, 16) ∧ Param.range ps .mergeWindow = (2, 20) ∧
    (∀ l, Param.range ps (.linkEnable l) = (0, 1) ∧ Param.range ps (.linkOffset l) = (-8, 7))) ∧
  (List.range 16).map paramOfId =
    [none, some .lossTime, some .weakThreshold, some .lowMinutes, some .critMinutes, some (.drain 0),
     some (.drain 1), some (.drain 2)] ++
    [some (.drain 3), some .voiceQualify, some .openGrace, some .floorMutedQualify, some .chatterThreshold,
     some .autoMute, some .floorLimit, some .mergeWindow] ∧
  (∀ l : LinkId, paramOfId (16 + l.val) = some (.linkEnable l) ∧ paramOfId (24 + l.val) = some (.linkOffset l)) ∧
  (∀ n : Nat, n ∈ [22, 23] ∨ 30 ≤ n → paramOfId n = none) ∧
  (∀ (s : State) (p : PortId) (b : Byte) (w : BitVec 16) (q : Param), Admitted s p .setParam →
    paramOfId b.toNat = some q → (∀ l, q ≠ .linkEnable l) →
    (let v := max (Param.range s.params q).1 (min (Param.range s.params q).2 w.toInt)
     let stored := if q = .floorLimit then max v s.floorCount else v
     ∃ t, exec (.setParam p (b :: bytes16 w)) s = .next t ∧ t.paramValue q = stored ∧
      (∀ q', q' ≠ q → ¬(q = .lowMinutes ∧ q' = .critMinutes) → t.paramValue q' = s.paramValue q') ∧
      (q = .lowMinutes → t.params.critMinutes = min s.params.critMinutes (stored.toNat - 1)) ∧
      Answers s t p 0x30
        (if stored = w.toInt ∧ (q = .lowMinutes → t.params.critMinutes = s.params.critMinutes) then .done else .clamped)
        (int16 stored ++ if q = .lowMinutes ∧ t.params.critMinutes ≠ s.params.critMinutes
          then nat16 t.params.critMinutes else []) ∧
      ChangesOnly [.params, .links, .ports, .reminders, .lamps] s t)) ∧
  (∀ (s : State) (p : PortId) (b : Byte) (w : BitVec 16), Admitted s p .setParam → paramOfId b.toNat = none →
    exec (.setParam p (b :: bytes16 w)) s = .next (s.answered p 0x30 .badArgument []))

/-- SET-PARAM of link enable, off for a value of 0 or below, on above 0: off takes an enabled link to DISABLED, ends
RECEIVER_LINK, cuts an ORDER frame off and turns its attributed seats to cause SIGNAL; on takes a DISABLED link to DOWN;
the value the link already has changes nothing. -/
def Obligations.SetParamLinkEnable : Prop :=
  ∀ (s : State) (p : PortId) (l : LinkId) (w : BitVec 16), Admitted s p .setParam →
    (let args : List Byte := byte1 (16 + l.val) :: bytes16 w
     let how : Completion := if w = 0 ∨ w = 1 then .done else .clamped
     (w.toInt ≤ 0 → s.links[l].enable = true → ∃ t, exec (.setParam p args) s = .next t ∧
       t.links = s.links.set l { s.links[l] with
         enable := false, state := .disabled, silence := none, slot := none, rx := .hunting, breakStart := none,
         breakTimer := none, attributed := 0, tx := none } ∧
       (t.slot (.link l)).isRaised = false ∧
       (∀ i : SeatId, s.signal[i].cause = .link l →
         t.signal[i] = { s.signal[i] with cause := .signal, grace := none } ∧
         (t.slot (.seat i .signalLoss)).isRaised = true) ∧
       (∀ i : SeatId, s.signal[i].cause ≠ .link l → t.signal[i] = s.signal[i]) ∧
       Answers s t p 0x30 how [0, 0] ∧
       ChangesOnly [.links, .signal, .alerts, .attention, .ports, .reminders, .lamps] s t) ∧
     (0 < w.toInt → s.links[l].enable = false → ∃ t, exec (.setParam p args) s = .next t ∧
       t.links = s.links.set l { s.links[l] with
         enable := true, state := .down, rx := .hunting,
         breakTimer := if s.links[l].lineActive then some 2 else none } ∧
       Answers s t p 0x30 how [0, 1] ∧ ChangesOnly [.links, .ports, .reminders, .lamps] s t) ∧
     ((0 < w.toInt ↔ s.links[l].enable = true) → ∃ t, exec (.setParam p args) s = .next t ∧
       Answers s t p 0x30 how [0, byte1 (flag s.links[l].enable)] ∧
       ChangesOnly [.ports, .reminders, .lamps] s t))

/-! ## Frames on the lines -/

/-- The characters of a STATUS or COPY frame, sent on the uplink of a link that hunts, become that row among the pending
ones (the model's own queue, log 2), with every field as it was sent. -/
def Obligations.UplinkFramesReceived : Prop :=
  (∀ (s : State) (l : LinkId) (x : BitVec 32), s.linkHears l = true → s.links[l].rx = .hunting →
    s.uplinkBytes l (frameBytes 0xE7 (0x02 :: bytes32 x)) = { s with pending := s.pending ++ [.status l x] }) ∧
  (∀ (s : State) (l : LinkId) (m : MicPayload) (raw : Byte), s.linkHears l = true → s.links[l].rx = .hunting →
    s.uplinkBytes l (frameBytes 0xE7 (copyBytes m raw)) = { s with pending := s.pending ++ [.copy l m raw] })

/-- The characters of a request frame, sent to a port that hunts, become the row of that request with its argument
bytes, or ARRIVAL_WAITING while the port sends (the pending commands are the model's own queue, logs 2 and 17). -/
def Obligations.RequestFramesReceived : Prop :=
  ∀ (s : State) (p : PortId) (r : Request) (args : List Byte), s.ports[p].role ≠ .off → s.ports[p].inBreak = false →
    s.ports[p].rx = .hunting → args.length < 60 →
    s.consoleBytes p (frameBytes 0x5A (r.code :: args)) = { s with
      pending := s.pending ++
        [if s.ports[p].response.isSome then .arrivalWaiting p (.request r.code args) else r.row p args] }

/-! ## Invariants -/

/-- The state after reset, with the roles the model names for it (log 1), satisfies every invariant below. -/
def Obligations.ResetIsSafe : Prop :=
  Capacity State.reset ∧ Settings State.reset ∧ BindingMap State.reset ∧ RosterSound State.reset ∧
  RosterMatches State.reset ∧ MarkerNeverFirst State.reset ∧ QueueSound State.reset ∧ OffPorts State.reset ∧
  OutputsFollow State.reset

/-- Every step keeps the tables within their capacities, and the open frames' keys distinct. -/
def Obligations.StepKeepsCapacity : Prop := ∀ s t : State, Capacity s → step s = .next t → Capacity t

/-- Every step keeps the parameters in range, and the floor count equal to the number of floor flags and at or below the
floor limit. -/
def Obligations.StepKeepsSettings : Prop := ∀ s t : State, Settings s → step s = .next t → Settings t

/-- Every step keeps the binding map sound, and the strangers' radio IDs distinct. -/
def Obligations.StepKeepsBindingMap : Prop := ∀ s t : State, BindingMap s → step s = .next t → BindingMap t

/-- Every step keeps the roster in order, with distinct tags and distinct ranks. -/
def Obligations.StepKeepsRoster : Prop := ∀ s t : State, RosterSound s → step s = .next t → RosterSound t

/-- Every step keeps the roster and the condition slots in agreement: no two entries of one origin and kind, and the LIVE
entries are those of the LISTED conditions, at their severity, and a WAITING condition has none; and what can raise a
condition is at work only while it is not raised. -/
def Obligations.StepKeepsRosterMatched : Prop := ∀ s t : State, RosterMatches s → step s = .next t → RosterMatches t

/-- Every step keeps a marker from standing first in the queue; and it keeps at most 2 markers of a port, and one QUEUED
and one IN_FLIGHT SYNC of a seat, and those only while it is ACTIVE. -/
def Obligations.StepKeepsMarkersBehind : Prop :=
  (∀ s t : State, MarkerNeverFirst s → step s = .next t → MarkerNeverFirst t) ∧
  ∀ s t : State, QueueSound s → step s = .next t → QueueSound t

/-- Every step keeps OFF ports silent; and it keeps each reminder timer running exactly while its condition holds and
each lamp demanded exactly as its mode and selector say. -/
def Obligations.StepKeepsOffPorts : Prop :=
  (∀ s t : State, OffPorts s → step s = .next t → OffPorts t) ∧
  ∀ s t : State, OutputsFollow s → step s = .next t → OutputsFollow t
end

