-- ==== Sys2Proof/Laws/Ack.lean ====
section
/-! SUPPORT. What an ACK of one scope and of a tagged range reaches: the entries, and their count (R121, R123, R152). -/

namespace Sys2Proof.Machine.Laws

open Sys2Proof

theorem mem_seatsBetween {a b i : SeatId} : i ∈ seatsBetween a b ↔ a ≤ i ∧ i ≤ b := by
  simp [seatsBetween, allSeats]

theorem nodup_seatsBetween (a b : SeatId) : (seatsBetween a b).Nodup := (List.nodup_finRange 192).filter _

/-- An ACK of one scope, with its list of newly acknowledged entries. -/
theorem acknowledge_eq (s : State) (p : PortId) (scope : Entry → Bool) :
    s.acknowledge p scope =
      (let newly := s.alerts.roster.filter (Entry.newlyAcked p scope)
       let s1 := s.setRoster (s.alerts.roster.map fun e => if scope e then { e with acks := e.acks.set p true } else e)
       (.done [byte1 newly.length], (s1.removalTests (newly.map (·.source))).evalOutputs)) := by
  simp [State.acknowledge, State.acknowledgeInTurn, -Fin.getElem_fin]

/-- A tagged range reaches the entries whose origin is a seat within it. -/
theorem any_ofSeat (a b : SeatId) (e : Entry) :
    ((seatsBetween a b).map Entry.ofSeat).any (fun scope => scope e) =
      e.source.seat?.any fun i => decide (a ≤ i) && decide (i ≤ b) := by
  rw [Bool.eq_iff_iff]
  cases h : e.source.seat? <;> simp [Entry.ofSeat, h, mem_seatsBetween]

/-- One entry, counted at each seat of a list: once, if its seat is in the list. -/
theorem sum_ofSeat {is : List SeatId} (nd : is.Nodup) (q : Entry → Bool) (e : Entry) :
    (is.map fun i => if Entry.ofSeat i e && q e then 1 else 0).sum =
      if (is.any fun i => Entry.ofSeat i e) && q e then 1 else 0 := by
  induction is with
  | nil => rfl
  | cons i is ih =>
    rw [List.map_cons, List.sum_cons, ih nd.of_cons, List.any_cons]
    by_cases h : e.source.seat? = some i
    · have rest : (is.any fun j => Entry.ofSeat j e) = false := by
        rw [List.any_eq_false]
        intro j hj
        have : i ≠ j := fun e => (List.nodup_cons.1 nd).1 (e ▸ hj)
        simp [Entry.ofSeat, h, this]
      rw [rest, show Entry.ofSeat i e = true from decide_eq_true h]
      simp
    · rw [show Entry.ofSeat i e = false from decide_eq_false h]
      simp

/-- The entries met seat by seat are as many as those met in one pass over the roster. -/
theorem length_ofSeat {is : List SeatId} (nd : is.Nodup) (q : Entry → Bool) (es : List Entry) :
    (is.flatMap fun i => es.filter fun e => Entry.ofSeat i e && q e).length =
      es.countP fun e => (is.any fun i => Entry.ofSeat i e) && q e := by
  induction es with
  | nil => simp
  | cons e es ih =>
    rw [List.countP_cons, ← ih, ← sum_ofSeat nd q e, List.length_flatMap, List.length_flatMap, ← List.sum_map_add]
    congr 1
    refine List.map_congr_left fun i _ => ?_
    rw [List.filter_cons]
    split <;> rfl

/-- A tagged range counts the entries of its seats that the port had not acknowledged (R123). -/
theorem length_newlyAcked_range (a b : SeatId) (p : PortId) (es : List Entry) :
    (((seatsBetween a b).map Entry.ofSeat).flatMap fun scope => es.filter (Entry.newlyAcked p scope)).length =
      es.countP fun e => (e.source.seat?.any fun i => decide (a ≤ i) && decide (i ≤ b)) && !e.acks[p] := by
  rw [List.flatMap_map]
  refine (length_ofSeat (nodup_seatsBetween a b) (fun e => !e.acks[p]) es).trans (List.countP_congr fun e _ => ?_)
  rw [← any_ofSeat, List.any_map]
  rfl

end Sys2Proof.Machine.Laws
end

