-- ==== Sys2Proof/Laws/State.lean ====
section
/-! SUPPORT. What each update of one record leaves in each field of the state, true by rfl: no later proof unfolds a
record update. -/

namespace Sys2Proof.Machine.Laws

open Sys2Proof Sys2Proof.Machine

/-! ## Reading a record of a table after writing one, with the index as it stands in the model's text -/

theorem get_set_self {α : Type} {n : Nat} (v : Vector α n) (i : Fin n) (x : α) : (v.set i x)[i] = x := by simp

theorem get_set_ne {α : Type} {n : Nat} (v : Vector α n) {i j : Fin n} (h : j ≠ i) (x : α) : (v.set i x)[j] = v[j] := by
  have : i.val ≠ j.val := fun e => h (Fin.ext e.symm)
  simp [this]

theorem get_ofFn {α : Type} {n : Nat} (f : Fin n → α) (i : Fin n) : (Vector.ofFn f)[i] = f i := by simp

theorem get_map {α β : Type} {n : Nat} (f : α → β) (v : Vector α n) (i : Fin n) : (v.map f)[i] = f v[i] := by simp

theorem set_set_self {α : Type} {n : Nat} (v : Vector α n) (i : Fin n) (x y : α) : (v.set i x).set i y = v.set i y := by
  simp

theorem ext_get {α : Type} {n : Nat} {v w : Vector α n} (h : ∀ i : Fin n, v[i] = w[i]) : v = w :=
  Vector.ext fun k hk => h ⟨k, hk⟩

variable (s : State)

/-! ## modLink -/

section
variable (l : LinkId) (f : LinkRec → LinkRec)

@[simp] theorem modLink_part : (s.modLink l f).part = s.part := rfl
@[simp] theorem modLink_clock : (s.modLink l f).clock = s.clock := rfl
@[simp] theorem modLink_initTimer : (s.modLink l f).initTimer = s.initTimer := rfl
@[simp] theorem modLink_params : (s.modLink l f).params = s.params := rfl
@[simp] theorem modLink_links : (s.modLink l f).links = s.links.set l (f s.links[l]) := rfl
@[simp] theorem modLink_openFrames : (s.modLink l f).openFrames = s.openFrames := rfl
@[simp] theorem modLink_seats : (s.modLink l f).seats = s.seats := rfl
@[simp] theorem modLink_strangers : (s.modLink l f).strangers = s.strangers := rfl
@[simp] theorem modLink_battery : (s.modLink l f).battery = s.battery := rfl
@[simp] theorem modLink_signal : (s.modLink l f).signal = s.signal := rfl
@[simp] theorem modLink_mute : (s.modLink l f).mute = s.mute := rfl
@[simp] theorem modLink_floorCount : (s.modLink l f).floorCount = s.floorCount := rfl
@[simp] theorem modLink_alerts : (s.modLink l f).alerts = s.alerts := rfl
@[simp] theorem modLink_attention : (s.modLink l f).attention = s.attention := rfl
@[simp] theorem modLink_queue : (s.modLink l f).queue = s.queue := rfl
@[simp] theorem modLink_syncs : (s.modLink l f).syncs = s.syncs := rfl
@[simp] theorem modLink_markers : (s.modLink l f).markers = s.markers := rfl
@[simp] theorem modLink_ports : (s.modLink l f).ports = s.ports := rfl
@[simp] theorem modLink_reminders : (s.modLink l f).reminders = s.reminders := rfl
@[simp] theorem modLink_lamps : (s.modLink l f).lamps = s.lamps := rfl
@[simp] theorem modLink_pending : (s.modLink l f).pending = s.pending := rfl
@[simp] theorem modLink_rxInput : (s.modLink l f).rxInput = s.rxInput := rfl

end

/-! ## modSeat -/

section
variable (i : SeatId) (f : SeatRec → SeatRec)

@[simp] theorem modSeat_part : (s.modSeat i f).part = s.part := rfl
@[simp] theorem modSeat_clock : (s.modSeat i f).clock = s.clock := rfl
@[simp] theorem modSeat_initTimer : (s.modSeat i f).initTimer = s.initTimer := rfl
@[simp] theorem modSeat_params : (s.modSeat i f).params = s.params := rfl
@[simp] theorem modSeat_links : (s.modSeat i f).links = s.links := rfl
@[simp] theorem modSeat_openFrames : (s.modSeat i f).openFrames = s.openFrames := rfl
@[simp] theorem modSeat_seats : (s.modSeat i f).seats = s.seats.set i (f s.seats[i]) := rfl
@[simp] theorem modSeat_strangers : (s.modSeat i f).strangers = s.strangers := rfl
@[simp] theorem modSeat_battery : (s.modSeat i f).battery = s.battery := rfl
@[simp] theorem modSeat_signal : (s.modSeat i f).signal = s.signal := rfl
@[simp] theorem modSeat_mute : (s.modSeat i f).mute = s.mute := rfl
@[simp] theorem modSeat_floorCount : (s.modSeat i f).floorCount = s.floorCount := rfl
@[simp] theorem modSeat_alerts : (s.modSeat i f).alerts = s.alerts := rfl
@[simp] theorem modSeat_attention : (s.modSeat i f).attention = s.attention := rfl
@[simp] theorem modSeat_queue : (s.modSeat i f).queue = s.queue := rfl
@[simp] theorem modSeat_syncs : (s.modSeat i f).syncs = s.syncs := rfl
@[simp] theorem modSeat_markers : (s.modSeat i f).markers = s.markers := rfl
@[simp] theorem modSeat_ports : (s.modSeat i f).ports = s.ports := rfl
@[simp] theorem modSeat_reminders : (s.modSeat i f).reminders = s.reminders := rfl
@[simp] theorem modSeat_lamps : (s.modSeat i f).lamps = s.lamps := rfl
@[simp] theorem modSeat_pending : (s.modSeat i f).pending = s.pending := rfl
@[simp] theorem modSeat_rxInput : (s.modSeat i f).rxInput = s.rxInput := rfl

end

/-! ## modBattery -/

section
variable (i : SeatId) (f : Battery → Battery)

@[simp] theorem modBattery_part : (s.modBattery i f).part = s.part := rfl
@[simp] theorem modBattery_clock : (s.modBattery i f).clock = s.clock := rfl
@[simp] theorem modBattery_initTimer : (s.modBattery i f).initTimer = s.initTimer := rfl
@[simp] theorem modBattery_params : (s.modBattery i f).params = s.params := rfl
@[simp] theorem modBattery_links : (s.modBattery i f).links = s.links := rfl
@[simp] theorem modBattery_openFrames : (s.modBattery i f).openFrames = s.openFrames := rfl
@[simp] theorem modBattery_seats : (s.modBattery i f).seats = s.seats := rfl
@[simp] theorem modBattery_strangers : (s.modBattery i f).strangers = s.strangers := rfl
@[simp] theorem modBattery_battery : (s.modBattery i f).battery = s.battery.set i (f s.battery[i]) := rfl
@[simp] theorem modBattery_signal : (s.modBattery i f).signal = s.signal := rfl
@[simp] theorem modBattery_mute : (s.modBattery i f).mute = s.mute := rfl
@[simp] theorem modBattery_floorCount : (s.modBattery i f).floorCount = s.floorCount := rfl
@[simp] theorem modBattery_alerts : (s.modBattery i f).alerts = s.alerts := rfl
@[simp] theorem modBattery_attention : (s.modBattery i f).attention = s.attention := rfl
@[simp] theorem modBattery_queue : (s.modBattery i f).queue = s.queue := rfl
@[simp] theorem modBattery_syncs : (s.modBattery i f).syncs = s.syncs := rfl
@[simp] theorem modBattery_markers : (s.modBattery i f).markers = s.markers := rfl
@[simp] theorem modBattery_ports : (s.modBattery i f).ports = s.ports := rfl
@[simp] theorem modBattery_reminders : (s.modBattery i f).reminders = s.reminders := rfl
@[simp] theorem modBattery_lamps : (s.modBattery i f).lamps = s.lamps := rfl
@[simp] theorem modBattery_pending : (s.modBattery i f).pending = s.pending := rfl
@[simp] theorem modBattery_rxInput : (s.modBattery i f).rxInput = s.rxInput := rfl

end

/-! ## modSignal -/

section
variable (i : SeatId) (f : Signal → Signal)

@[simp] theorem modSignal_part : (s.modSignal i f).part = s.part := rfl
@[simp] theorem modSignal_clock : (s.modSignal i f).clock = s.clock := rfl
@[simp] theorem modSignal_initTimer : (s.modSignal i f).initTimer = s.initTimer := rfl
@[simp] theorem modSignal_params : (s.modSignal i f).params = s.params := rfl
@[simp] theorem modSignal_links : (s.modSignal i f).links = s.links := rfl
@[simp] theorem modSignal_openFrames : (s.modSignal i f).openFrames = s.openFrames := rfl
@[simp] theorem modSignal_seats : (s.modSignal i f).seats = s.seats := rfl
@[simp] theorem modSignal_strangers : (s.modSignal i f).strangers = s.strangers := rfl
@[simp] theorem modSignal_battery : (s.modSignal i f).battery = s.battery := rfl
@[simp] theorem modSignal_signal : (s.modSignal i f).signal = s.signal.set i (f s.signal[i]) := rfl
@[simp] theorem modSignal_mute : (s.modSignal i f).mute = s.mute := rfl
@[simp] theorem modSignal_floorCount : (s.modSignal i f).floorCount = s.floorCount := rfl
@[simp] theorem modSignal_alerts : (s.modSignal i f).alerts = s.alerts := rfl
@[simp] theorem modSignal_attention : (s.modSignal i f).attention = s.attention := rfl
@[simp] theorem modSignal_queue : (s.modSignal i f).queue = s.queue := rfl
@[simp] theorem modSignal_syncs : (s.modSignal i f).syncs = s.syncs := rfl
@[simp] theorem modSignal_markers : (s.modSignal i f).markers = s.markers := rfl
@[simp] theorem modSignal_ports : (s.modSignal i f).ports = s.ports := rfl
@[simp] theorem modSignal_reminders : (s.modSignal i f).reminders = s.reminders := rfl
@[simp] theorem modSignal_lamps : (s.modSignal i f).lamps = s.lamps := rfl
@[simp] theorem modSignal_pending : (s.modSignal i f).pending = s.pending := rfl
@[simp] theorem modSignal_rxInput : (s.modSignal i f).rxInput = s.rxInput := rfl

end

/-! ## modMute -/

section
variable (i : SeatId) (f : Mute → Mute)

@[simp] theorem modMute_part : (s.modMute i f).part = s.part := rfl
@[simp] theorem modMute_clock : (s.modMute i f).clock = s.clock := rfl
@[simp] theorem modMute_initTimer : (s.modMute i f).initTimer = s.initTimer := rfl
@[simp] theorem modMute_params : (s.modMute i f).params = s.params := rfl
@[simp] theorem modMute_links : (s.modMute i f).links = s.links := rfl
@[simp] theorem modMute_openFrames : (s.modMute i f).openFrames = s.openFrames := rfl
@[simp] theorem modMute_seats : (s.modMute i f).seats = s.seats := rfl
@[simp] theorem modMute_strangers : (s.modMute i f).strangers = s.strangers := rfl
@[simp] theorem modMute_battery : (s.modMute i f).battery = s.battery := rfl
@[simp] theorem modMute_signal : (s.modMute i f).signal = s.signal := rfl
@[simp] theorem modMute_mute : (s.modMute i f).mute = s.mute.set i (f s.mute[i]) := rfl
@[simp] theorem modMute_floorCount : (s.modMute i f).floorCount = s.floorCount := rfl
@[simp] theorem modMute_alerts : (s.modMute i f).alerts = s.alerts := rfl
@[simp] theorem modMute_attention : (s.modMute i f).attention = s.attention := rfl
@[simp] theorem modMute_queue : (s.modMute i f).queue = s.queue := rfl
@[simp] theorem modMute_syncs : (s.modMute i f).syncs = s.syncs := rfl
@[simp] theorem modMute_markers : (s.modMute i f).markers = s.markers := rfl
@[simp] theorem modMute_ports : (s.modMute i f).ports = s.ports := rfl
@[simp] theorem modMute_reminders : (s.modMute i f).reminders = s.reminders := rfl
@[simp] theorem modMute_lamps : (s.modMute i f).lamps = s.lamps := rfl
@[simp] theorem modMute_pending : (s.modMute i f).pending = s.pending := rfl
@[simp] theorem modMute_rxInput : (s.modMute i f).rxInput = s.rxInput := rfl

end

/-! ## modSync -/

section
variable (i : SeatId) (f : SyncRec → SyncRec)

@[simp] theorem modSync_part : (s.modSync i f).part = s.part := rfl
@[simp] theorem modSync_clock : (s.modSync i f).clock = s.clock := rfl
@[simp] theorem modSync_initTimer : (s.modSync i f).initTimer = s.initTimer := rfl
@[simp] theorem modSync_params : (s.modSync i f).params = s.params := rfl
@[simp] theorem modSync_links : (s.modSync i f).links = s.links := rfl
@[simp] theorem modSync_openFrames : (s.modSync i f).openFrames = s.openFrames := rfl
@[simp] theorem modSync_seats : (s.modSync i f).seats = s.seats := rfl
@[simp] theorem modSync_strangers : (s.modSync i f).strangers = s.strangers := rfl
@[simp] theorem modSync_battery : (s.modSync i f).battery = s.battery := rfl
@[simp] theorem modSync_signal : (s.modSync i f).signal = s.signal := rfl
@[simp] theorem modSync_mute : (s.modSync i f).mute = s.mute := rfl
@[simp] theorem modSync_floorCount : (s.modSync i f).floorCount = s.floorCount := rfl
@[simp] theorem modSync_alerts : (s.modSync i f).alerts = s.alerts := rfl
@[simp] theorem modSync_attention : (s.modSync i f).attention = s.attention := rfl
@[simp] theorem modSync_queue : (s.modSync i f).queue = s.queue := rfl
@[simp] theorem modSync_syncs : (s.modSync i f).syncs = s.syncs.set i (f s.syncs[i]) := rfl
@[simp] theorem modSync_markers : (s.modSync i f).markers = s.markers := rfl
@[simp] theorem modSync_ports : (s.modSync i f).ports = s.ports := rfl
@[simp] theorem modSync_reminders : (s.modSync i f).reminders = s.reminders := rfl
@[simp] theorem modSync_lamps : (s.modSync i f).lamps = s.lamps := rfl
@[simp] theorem modSync_pending : (s.modSync i f).pending = s.pending := rfl
@[simp] theorem modSync_rxInput : (s.modSync i f).rxInput = s.rxInput := rfl

end

/-! ## modMarkers -/

section
variable (p : PortId) (f : Markers → Markers)

@[simp] theorem modMarkers_part : (s.modMarkers p f).part = s.part := rfl
@[simp] theorem modMarkers_clock : (s.modMarkers p f).clock = s.clock := rfl
@[simp] theorem modMarkers_initTimer : (s.modMarkers p f).initTimer = s.initTimer := rfl
@[simp] theorem modMarkers_params : (s.modMarkers p f).params = s.params := rfl
@[simp] theorem modMarkers_links : (s.modMarkers p f).links = s.links := rfl
@[simp] theorem modMarkers_openFrames : (s.modMarkers p f).openFrames = s.openFrames := rfl
@[simp] theorem modMarkers_seats : (s.modMarkers p f).seats = s.seats := rfl
@[simp] theorem modMarkers_strangers : (s.modMarkers p f).strangers = s.strangers := rfl
@[simp] theorem modMarkers_battery : (s.modMarkers p f).battery = s.battery := rfl
@[simp] theorem modMarkers_signal : (s.modMarkers p f).signal = s.signal := rfl
@[simp] theorem modMarkers_mute : (s.modMarkers p f).mute = s.mute := rfl
@[simp] theorem modMarkers_floorCount : (s.modMarkers p f).floorCount = s.floorCount := rfl
@[simp] theorem modMarkers_alerts : (s.modMarkers p f).alerts = s.alerts := rfl
@[simp] theorem modMarkers_attention : (s.modMarkers p f).attention = s.attention := rfl
@[simp] theorem modMarkers_queue : (s.modMarkers p f).queue = s.queue := rfl
@[simp] theorem modMarkers_syncs : (s.modMarkers p f).syncs = s.syncs := rfl
@[simp] theorem modMarkers_markers : (s.modMarkers p f).markers = s.markers.set p (f s.markers[p]) := rfl
@[simp] theorem modMarkers_ports : (s.modMarkers p f).ports = s.ports := rfl
@[simp] theorem modMarkers_reminders : (s.modMarkers p f).reminders = s.reminders := rfl
@[simp] theorem modMarkers_lamps : (s.modMarkers p f).lamps = s.lamps := rfl
@[simp] theorem modMarkers_pending : (s.modMarkers p f).pending = s.pending := rfl
@[simp] theorem modMarkers_rxInput : (s.modMarkers p f).rxInput = s.rxInput := rfl

end

/-! ## modPort -/

section
variable (p : PortId) (f : PortRec → PortRec)

@[simp] theorem modPort_part : (s.modPort p f).part = s.part := rfl
@[simp] theorem modPort_clock : (s.modPort p f).clock = s.clock := rfl
@[simp] theorem modPort_initTimer : (s.modPort p f).initTimer = s.initTimer := rfl
@[simp] theorem modPort_params : (s.modPort p f).params = s.params := rfl
@[simp] theorem modPort_links : (s.modPort p f).links = s.links := rfl
@[simp] theorem modPort_openFrames : (s.modPort p f).openFrames = s.openFrames := rfl
@[simp] theorem modPort_seats : (s.modPort p f).seats = s.seats := rfl
@[simp] theorem modPort_strangers : (s.modPort p f).strangers = s.strangers := rfl
@[simp] theorem modPort_battery : (s.modPort p f).battery = s.battery := rfl
@[simp] theorem modPort_signal : (s.modPort p f).signal = s.signal := rfl
@[simp] theorem modPort_mute : (s.modPort p f).mute = s.mute := rfl
@[simp] theorem modPort_floorCount : (s.modPort p f).floorCount = s.floorCount := rfl
@[simp] theorem modPort_alerts : (s.modPort p f).alerts = s.alerts := rfl
@[simp] theorem modPort_attention : (s.modPort p f).attention = s.attention := rfl
@[simp] theorem modPort_queue : (s.modPort p f).queue = s.queue := rfl
@[simp] theorem modPort_syncs : (s.modPort p f).syncs = s.syncs := rfl
@[simp] theorem modPort_markers : (s.modPort p f).markers = s.markers := rfl
@[simp] theorem modPort_ports : (s.modPort p f).ports = s.ports.set p (f s.ports[p]) := rfl
@[simp] theorem modPort_reminders : (s.modPort p f).reminders = s.reminders := rfl
@[simp] theorem modPort_lamps : (s.modPort p f).lamps = s.lamps := rfl
@[simp] theorem modPort_pending : (s.modPort p f).pending = s.pending := rfl
@[simp] theorem modPort_rxInput : (s.modPort p f).rxInput = s.rxInput := rfl

end

/-! ## modReminder -/

section
variable (p : PortId) (f : Reminder → Reminder)

@[simp] theorem modReminder_part : (s.modReminder p f).part = s.part := rfl
@[simp] theorem modReminder_clock : (s.modReminder p f).clock = s.clock := rfl
@[simp] theorem modReminder_initTimer : (s.modReminder p f).initTimer = s.initTimer := rfl
@[simp] theorem modReminder_params : (s.modReminder p f).params = s.params := rfl
@[simp] theorem modReminder_links : (s.modReminder p f).links = s.links := rfl
@[simp] theorem modReminder_openFrames : (s.modReminder p f).openFrames = s.openFrames := rfl
@[simp] theorem modReminder_seats : (s.modReminder p f).seats = s.seats := rfl
@[simp] theorem modReminder_strangers : (s.modReminder p f).strangers = s.strangers := rfl
@[simp] theorem modReminder_battery : (s.modReminder p f).battery = s.battery := rfl
@[simp] theorem modReminder_signal : (s.modReminder p f).signal = s.signal := rfl
@[simp] theorem modReminder_mute : (s.modReminder p f).mute = s.mute := rfl
@[simp] theorem modReminder_floorCount : (s.modReminder p f).floorCount = s.floorCount := rfl
@[simp] theorem modReminder_alerts : (s.modReminder p f).alerts = s.alerts := rfl
@[simp] theorem modReminder_attention : (s.modReminder p f).attention = s.attention := rfl
@[simp] theorem modReminder_queue : (s.modReminder p f).queue = s.queue := rfl
@[simp] theorem modReminder_syncs : (s.modReminder p f).syncs = s.syncs := rfl
@[simp] theorem modReminder_markers : (s.modReminder p f).markers = s.markers := rfl
@[simp] theorem modReminder_ports : (s.modReminder p f).ports = s.ports := rfl
@[simp] theorem modReminder_reminders : (s.modReminder p f).reminders = s.reminders.set p (f s.reminders[p]) := rfl
@[simp] theorem modReminder_lamps : (s.modReminder p f).lamps = s.lamps := rfl
@[simp] theorem modReminder_pending : (s.modReminder p f).pending = s.pending := rfl
@[simp] theorem modReminder_rxInput : (s.modReminder p f).rxInput = s.rxInput := rfl

end

/-! ## modLamp -/

section
variable (m : LampId) (f : Lamp → Lamp)

@[simp] theorem modLamp_part : (s.modLamp m f).part = s.part := rfl
@[simp] theorem modLamp_clock : (s.modLamp m f).clock = s.clock := rfl
@[simp] theorem modLamp_initTimer : (s.modLamp m f).initTimer = s.initTimer := rfl
@[simp] theorem modLamp_params : (s.modLamp m f).params = s.params := rfl
@[simp] theorem modLamp_links : (s.modLamp m f).links = s.links := rfl
@[simp] theorem modLamp_openFrames : (s.modLamp m f).openFrames = s.openFrames := rfl
@[simp] theorem modLamp_seats : (s.modLamp m f).seats = s.seats := rfl
@[simp] theorem modLamp_strangers : (s.modLamp m f).strangers = s.strangers := rfl
@[simp] theorem modLamp_battery : (s.modLamp m f).battery = s.battery := rfl
@[simp] theorem modLamp_signal : (s.modLamp m f).signal = s.signal := rfl
@[simp] theorem modLamp_mute : (s.modLamp m f).mute = s.mute := rfl
@[simp] theorem modLamp_floorCount : (s.modLamp m f).floorCount = s.floorCount := rfl
@[simp] theorem modLamp_alerts : (s.modLamp m f).alerts = s.alerts := rfl
@[simp] theorem modLamp_attention : (s.modLamp m f).attention = s.attention := rfl
@[simp] theorem modLamp_queue : (s.modLamp m f).queue = s.queue := rfl
@[simp] theorem modLamp_syncs : (s.modLamp m f).syncs = s.syncs := rfl
@[simp] theorem modLamp_markers : (s.modLamp m f).markers = s.markers := rfl
@[simp] theorem modLamp_ports : (s.modLamp m f).ports = s.ports := rfl
@[simp] theorem modLamp_reminders : (s.modLamp m f).reminders = s.reminders := rfl
@[simp] theorem modLamp_lamps : (s.modLamp m f).lamps = s.lamps.set m (f s.lamps[m]) := rfl
@[simp] theorem modLamp_pending : (s.modLamp m f).pending = s.pending := rfl
@[simp] theorem modLamp_rxInput : (s.modLamp m f).rxInput = s.rxInput := rfl

end

/-! ## setSlot -/

section
variable (src : Source) (x : Slot)

@[simp] theorem setSlot_part : (s.setSlot src x).part = s.part := rfl
@[simp] theorem setSlot_clock : (s.setSlot src x).clock = s.clock := rfl
@[simp] theorem setSlot_initTimer : (s.setSlot src x).initTimer = s.initTimer := rfl
@[simp] theorem setSlot_params : (s.setSlot src x).params = s.params := rfl
@[simp] theorem setSlot_links : (s.setSlot src x).links = s.links := rfl
@[simp] theorem setSlot_openFrames : (s.setSlot src x).openFrames = s.openFrames := rfl
@[simp] theorem setSlot_seats : (s.setSlot src x).seats = s.seats := rfl
@[simp] theorem setSlot_strangers : (s.setSlot src x).strangers = s.strangers := rfl
@[simp] theorem setSlot_battery : (s.setSlot src x).battery = s.battery := rfl
@[simp] theorem setSlot_signal : (s.setSlot src x).signal = s.signal := rfl
@[simp] theorem setSlot_mute : (s.setSlot src x).mute = s.mute := rfl
@[simp] theorem setSlot_floorCount : (s.setSlot src x).floorCount = s.floorCount := rfl
@[simp] theorem setSlot_alerts : (s.setSlot src x).alerts = s.alerts.setSlot src x := rfl
@[simp] theorem setSlot_attention : (s.setSlot src x).attention = s.attention := rfl
@[simp] theorem setSlot_queue : (s.setSlot src x).queue = s.queue := rfl
@[simp] theorem setSlot_syncs : (s.setSlot src x).syncs = s.syncs := rfl
@[simp] theorem setSlot_markers : (s.setSlot src x).markers = s.markers := rfl
@[simp] theorem setSlot_ports : (s.setSlot src x).ports = s.ports := rfl
@[simp] theorem setSlot_reminders : (s.setSlot src x).reminders = s.reminders := rfl
@[simp] theorem setSlot_lamps : (s.setSlot src x).lamps = s.lamps := rfl
@[simp] theorem setSlot_pending : (s.setSlot src x).pending = s.pending := rfl
@[simp] theorem setSlot_rxInput : (s.setSlot src x).rxInput = s.rxInput := rfl

end

/-- Kinds are told apart by their place in the kind order. -/
theorem idx_injective {k k' : SeatKind} (h : k.idx = k'.idx) : k = k' := by
  revert h; cases k <;> cases k' <;> decide

/-- A write of one slot is read back there, and leaves every other slot. -/
theorem alerts_slot_setSlot (a : Alerts) (src src' : Source) (x : Slot) :
    (a.setSlot src x).slot src' = if src' = src then x else a.slot src' := by
  cases src with
  | link l =>
    cases src' with
    | link l' =>
      simp only [Alerts.setSlot, Alerts.slot, Source.link.injEq, Fin.getElem_fin, Vector.getElem_set, Fin.ext_iff, eq_comm]
    | seat j k' => simp [Alerts.setSlot, Alerts.slot]
  | seat i k =>
    cases src' with
    | link l' => simp [Alerts.setSlot, Alerts.slot]
    | seat j k' =>
      simp only [Alerts.setSlot, Alerts.slot, Source.seat.injEq, Fin.getElem_fin, Vector.getElem_set]
      by_cases hi : i.val = j.val
      · have e : i = j := Fin.ext hi
        subst e
        by_cases hk : k.idx.val = k'.idx.val
        · have e := idx_injective (Fin.ext hk); subst e; simp
        · have e : k' ≠ k := fun e => hk (by rw [e])
          simp [hk, e]
      · have e : j ≠ i := fun e => hi (by rw [e])
        simp [hi, e]

/-- A write of one slot of the state is read back there, and leaves every other slot. -/
theorem slot_setSlot (s : State) (src src' : Source) (x : Slot) :
    (s.setSlot src x).slot src' = if src' = src then x else s.slot src' :=
  alerts_slot_setSlot s.alerts src src' x

/-- The slots do not lie in the roster or its counters. -/
theorem alerts_slot_roster (a : Alerts) (es : List Entry) (tag rank : Nat) (src : Source) :
    ({ a with roster := es, nextTag := tag, rankCounter := rank } : Alerts).slot src = a.slot src := by
  cases src <;> rfl

/-! ## setRoster -/

section
variable (r : List Entry)

@[simp] theorem setRoster_part : (s.setRoster r).part = s.part := rfl
@[simp] theorem setRoster_clock : (s.setRoster r).clock = s.clock := rfl
@[simp] theorem setRoster_initTimer : (s.setRoster r).initTimer = s.initTimer := rfl
@[simp] theorem setRoster_params : (s.setRoster r).params = s.params := rfl
@[simp] theorem setRoster_links : (s.setRoster r).links = s.links := rfl
@[simp] theorem setRoster_openFrames : (s.setRoster r).openFrames = s.openFrames := rfl
@[simp] theorem setRoster_seats : (s.setRoster r).seats = s.seats := rfl
@[simp] theorem setRoster_strangers : (s.setRoster r).strangers = s.strangers := rfl
@[simp] theorem setRoster_battery : (s.setRoster r).battery = s.battery := rfl
@[simp] theorem setRoster_signal : (s.setRoster r).signal = s.signal := rfl
@[simp] theorem setRoster_mute : (s.setRoster r).mute = s.mute := rfl
@[simp] theorem setRoster_floorCount : (s.setRoster r).floorCount = s.floorCount := rfl
@[simp] theorem setRoster_alerts : (s.setRoster r).alerts = { s.alerts with roster := r } := rfl
@[simp] theorem setRoster_attention : (s.setRoster r).attention = s.attention := rfl
@[simp] theorem setRoster_queue : (s.setRoster r).queue = s.queue := rfl
@[simp] theorem setRoster_syncs : (s.setRoster r).syncs = s.syncs := rfl
@[simp] theorem setRoster_markers : (s.setRoster r).markers = s.markers := rfl
@[simp] theorem setRoster_ports : (s.setRoster r).ports = s.ports := rfl
@[simp] theorem setRoster_reminders : (s.setRoster r).reminders = s.reminders := rfl
@[simp] theorem setRoster_lamps : (s.setRoster r).lamps = s.lamps := rfl
@[simp] theorem setRoster_pending : (s.setRoster r).pending = s.pending := rfl
@[simp] theorem setRoster_rxInput : (s.setRoster r).rxInput = s.rxInput := rfl

end

/-! ## attend -/

section
variable (f : PortId → Bool)

@[simp] theorem attend_part : (s.attend f).part = s.part := rfl
@[simp] theorem attend_clock : (s.attend f).clock = s.clock := rfl
@[simp] theorem attend_initTimer : (s.attend f).initTimer = s.initTimer := rfl
@[simp] theorem attend_params : (s.attend f).params = s.params := rfl
@[simp] theorem attend_links : (s.attend f).links = s.links := rfl
@[simp] theorem attend_openFrames : (s.attend f).openFrames = s.openFrames := rfl
@[simp] theorem attend_seats : (s.attend f).seats = s.seats := rfl
@[simp] theorem attend_strangers : (s.attend f).strangers = s.strangers := rfl
@[simp] theorem attend_battery : (s.attend f).battery = s.battery := rfl
@[simp] theorem attend_signal : (s.attend f).signal = s.signal := rfl
@[simp] theorem attend_mute : (s.attend f).mute = s.mute := rfl
@[simp] theorem attend_floorCount : (s.attend f).floorCount = s.floorCount := rfl
@[simp] theorem attend_alerts : (s.attend f).alerts = s.alerts := rfl
@[simp] theorem attend_attention : (s.attend f).attention = Vector.ofFn fun p => f p || s.attention[p] := rfl
@[simp] theorem attend_queue : (s.attend f).queue = s.queue := rfl
@[simp] theorem attend_syncs : (s.attend f).syncs = s.syncs := rfl
@[simp] theorem attend_markers : (s.attend f).markers = s.markers := rfl
@[simp] theorem attend_ports : (s.attend f).ports = s.ports := rfl
@[simp] theorem attend_reminders : (s.attend f).reminders = s.reminders := rfl
@[simp] theorem attend_lamps : (s.attend f).lamps = s.lamps := rfl
@[simp] theorem attend_pending : (s.attend f).pending = s.pending := rfl
@[simp] theorem attend_rxInput : (s.attend f).rxInput = s.rxInput := rfl

end

/-! ## clearAttention -/

section
variable (p : PortId)

@[simp] theorem clearAttention_part : (s.clearAttention p).part = s.part := rfl
@[simp] theorem clearAttention_clock : (s.clearAttention p).clock = s.clock := rfl
@[simp] theorem clearAttention_initTimer : (s.clearAttention p).initTimer = s.initTimer := rfl
@[simp] theorem clearAttention_params : (s.clearAttention p).params = s.params := rfl
@[simp] theorem clearAttention_links : (s.clearAttention p).links = s.links := rfl
@[simp] theorem clearAttention_openFrames : (s.clearAttention p).openFrames = s.openFrames := rfl
@[simp] theorem clearAttention_seats : (s.clearAttention p).seats = s.seats := rfl
@[simp] theorem clearAttention_strangers : (s.clearAttention p).strangers = s.strangers := rfl
@[simp] theorem clearAttention_battery : (s.clearAttention p).battery = s.battery := rfl
@[simp] theorem clearAttention_signal : (s.clearAttention p).signal = s.signal := rfl
@[simp] theorem clearAttention_mute : (s.clearAttention p).mute = s.mute := rfl
@[simp] theorem clearAttention_floorCount : (s.clearAttention p).floorCount = s.floorCount := rfl
@[simp] theorem clearAttention_alerts : (s.clearAttention p).alerts = s.alerts := rfl
@[simp] theorem clearAttention_attention : (s.clearAttention p).attention = s.attention.set p false := rfl
@[simp] theorem clearAttention_queue : (s.clearAttention p).queue = s.queue := rfl
@[simp] theorem clearAttention_syncs : (s.clearAttention p).syncs = s.syncs := rfl
@[simp] theorem clearAttention_markers : (s.clearAttention p).markers = s.markers := rfl
@[simp] theorem clearAttention_ports : (s.clearAttention p).ports = s.ports := rfl
@[simp] theorem clearAttention_reminders : (s.clearAttention p).reminders = s.reminders := rfl
@[simp] theorem clearAttention_lamps : (s.clearAttention p).lamps = s.lamps := rfl
@[simp] theorem clearAttention_pending : (s.clearAttention p).pending = s.pending := rfl
@[simp] theorem clearAttention_rxInput : (s.clearAttention p).rxInput = s.rxInput := rfl

end

end Sys2Proof.Machine.Laws
end

