-- ==== Sys2Proof/Laws/Frames.lean ====
section
/-! SUPPORT. What each shared operation may change: one lemma for each, named `frame_<operation>`, and the composition of
frames. A proof cites these in place of unfolding the operation. -/

namespace Sys2Proof.Machine.Laws

open Sys2Proof Sys2Proof.Machine

variable {s t u : State} {V W : List Block}

/-! ## Composition -/

theorem frame_refl : ChangesOnly W s s := by
  intro b _; cases b <;> rfl

theorem frame_trans (h : ChangesOnly W s t) (k : ChangesOnly W t u) : ChangesOnly W s u := by
  intro b hb
  have h1 := h b hb
  have h2 := k b hb
  cases b <;> exact h2.trans h1

theorem frame_mono (h : ChangesOnly V s t) (hs : ∀ b ∈ V, b ∈ W) : ChangesOnly W s t :=
  fun b hb => h b fun hv => hb (hs b hv)

/-- A frame of fewer blocks after one of more. -/
theorem frame_then (h : ChangesOnly W s t) (k : ChangesOnly V t u) (hs : ∀ b ∈ V, b ∈ W) : ChangesOnly W s u :=
  frame_trans h (frame_mono k hs)

theorem frame_ite {c : Prop} [Decidable c] (h : ChangesOnly W s t) (k : ChangesOnly W s u) :
    ChangesOnly W s (if c then t else u) := by
  split <;> assumption

theorem frame_foldl {α : Type} (f : State → α → State) (xs : List α) (h : ∀ s x, ChangesOnly W s (f s x)) (s : State) :
    ChangesOnly W s (xs.foldl f s) := by
  induction xs generalizing s with
  | nil => exact frame_refl
  | cons x xs ih => exact frame_trans (h s x) (ih (f s x))

/-! ## Records -/

theorem frame_modLink (l : LinkId) (f : LinkRec → LinkRec) : ChangesOnly [.links] s (s.modLink l f) := by
  intro b h; cases b <;> first | rfl | exact absurd (by decide) h
theorem frame_modSeat (i : SeatId) (f : SeatRec → SeatRec) : ChangesOnly [.seats] s (s.modSeat i f) := by
  intro b h; cases b <;> first | rfl | exact absurd (by decide) h
theorem frame_modBattery (i : SeatId) (f : Battery → Battery) : ChangesOnly [.battery] s (s.modBattery i f) := by
  intro b h; cases b <;> first | rfl | exact absurd (by decide) h
theorem frame_modSignal (i : SeatId) (f : Signal → Signal) : ChangesOnly [.signal] s (s.modSignal i f) := by
  intro b h; cases b <;> first | rfl | exact absurd (by decide) h
theorem frame_modMute (i : SeatId) (f : Mute → Mute) : ChangesOnly [.mute] s (s.modMute i f) := by
  intro b h; cases b <;> first | rfl | exact absurd (by decide) h
theorem frame_modSync (i : SeatId) (f : SyncRec → SyncRec) : ChangesOnly [.syncs] s (s.modSync i f) := by
  intro b h; cases b <;> first | rfl | exact absurd (by decide) h
theorem frame_modMarkers (p : PortId) (f : Markers → Markers) : ChangesOnly [.markers] s (s.modMarkers p f) := by
  intro b h; cases b <;> first | rfl | exact absurd (by decide) h
theorem frame_modPort (p : PortId) (f : PortRec → PortRec) : ChangesOnly [.ports] s (s.modPort p f) := by
  intro b h; cases b <;> first | rfl | exact absurd (by decide) h
theorem frame_modReminder (p : PortId) (f : Reminder → Reminder) : ChangesOnly [.reminders] s (s.modReminder p f) := by
  intro b h; cases b <;> first | rfl | exact absurd (by decide) h
theorem frame_modLamp (m : LampId) (f : Lamp → Lamp) : ChangesOnly [.lamps] s (s.modLamp m f) := by
  intro b h; cases b <;> first | rfl | exact absurd (by decide) h
theorem frame_setSlot (src : Source) (x : Slot) : ChangesOnly [.alerts] s (s.setSlot src x) := by
  intro b h; cases b <;> first | rfl | exact absurd (by decide) h
theorem frame_setRoster (r : List Entry) : ChangesOnly [.alerts] s (s.setRoster r) := by
  intro b h; cases b <;> first | rfl | exact absurd (by decide) h
theorem frame_setListing (src : Source) (l : Listing) : ChangesOnly [.alerts] s (s.setListing src l) :=
  frame_setSlot _ _
theorem frame_attend (f : PortId → Bool) : ChangesOnly [.attention] s (s.attend f) := by
  intro b h; cases b <;> first | rfl | exact absurd (by decide) h
theorem frame_clearAttention (p : PortId) : ChangesOnly [.attention] s (s.clearAttention p) := by
  intro b h; cases b <;> first | rfl | exact absurd (by decide) h
theorem frame_setTag (p : PortId) (g : TagState) : ChangesOnly [.ports] s (s.setTag p g) := frame_modPort _ _
theorem frame_respond (p : PortId) (code : Byte) (r : Reply) : ChangesOnly [.ports] s (s.respond p code r) :=
  frame_modPort _ _

/-! ## Outputs -/

theorem frame_evalReminders : ChangesOnly [.reminders] s s.evalReminders := by
  intro b h; cases b <;> first | rfl | exact absurd (by decide) h
theorem frame_evalLamps : ChangesOnly [.lamps] s s.evalLamps := by
  intro b h; cases b <;> first | rfl | exact absurd (by decide) h
theorem frame_evalOutputs : ChangesOnly [.reminders, .lamps] s s.evalOutputs :=
  frame_then (frame_mono frame_evalReminders (by decide)) frame_evalLamps (by decide)

/-! ## Roster -/

/-- What a roster operation may change. -/
def rosterBlocks : List Block := [.alerts, .attention]

theorem frame_markOverflow (src : Source) (v : Severity) : ChangesOnly rosterBlocks s (s.markOverflow src v) := by
  intro b h; cases b <;> first | rfl | exact absurd (by decide) h
theorem frame_mapLive (src : Source) (f : Entry → Entry) : ChangesOnly rosterBlocks s (s.mapLive src f) :=
  frame_mono (frame_setRoster _) (by decide)
theorem frame_refresh (src : Source) : ChangesOnly rosterBlocks s (s.refresh src) := frame_mapLive _ _
theorem frame_createEntry (src : Source) (r : Raised) : ChangesOnly rosterBlocks s (s.createEntry src r) := by
  intro b h; cases b <;> first | rfl | exact absurd (by decide) h
theorem frame_dropEntry (src : Source) : ChangesOnly rosterBlocks s (s.dropEntry src) :=
  frame_mono (frame_setRoster _) (by decide)
theorem frame_displace (v : Entry) : ChangesOnly rosterBlocks s (s.displace v) := by
  unfold State.displace
  have h := frame_trans (frame_markOverflow (s := s) v.source v.severity) (frame_dropEntry v.source)
  exact frame_ite h (frame_then h (frame_setListing _ _) (by decide))
theorem frame_attempt (src : Source) : ChangesOnly rosterBlocks s (s.attempt src) := by
  unfold State.attempt
  split
  · refine frame_ite (frame_trans (frame_dropEntry _) (frame_createEntry _ _)) (frame_ite (frame_createEntry _ _) ?_)
    split
    · exact frame_trans (frame_displace _) (frame_createEntry _ _)
    · exact frame_trans (frame_mono (frame_setListing _ _) (by decide)) (frame_markOverflow _ _)
  · exact frame_refl
theorem frame_raise (src : Source) (v : Severity) (d : FixedDetail) :
    ChangesOnly rosterBlocks s (s.raise src v d) :=
  frame_ite (frame_mono (frame_setSlot _ _) (by decide))
    (frame_trans (frame_mono (frame_setSlot _ _) (by decide)) (frame_attempt _))
theorem frame_escalateEntry (src : Source) (v : Severity) :
    ChangesOnly rosterBlocks s (s.escalateEntry src v) := by
  unfold State.escalateEntry
  dsimp only
  split
  · intro b h; cases b <;> first | rfl | exact absurd (by decide) h
  · exact frame_refl
theorem frame_escalate (src : Source) (v : Severity) : ChangesOnly rosterBlocks s (s.escalate src v) := by
  unfold State.escalate
  split
  · dsimp only
    split
    · exact frame_trans (frame_mono (frame_setSlot _ _) (by decide)) (frame_escalateEntry _ _)
    · exact frame_trans (frame_mono (frame_setSlot _ _) (by decide)) (frame_attempt _)
    · exact frame_mono (frame_setSlot _ _) (by decide)
  · exact frame_refl
theorem frame_relist : ChangesOnly rosterBlocks s s.relist := by
  unfold State.relist
  split
  · exact frame_attempt _
  · exact frame_refl
theorem frame_removalTest (src : Source) : ChangesOnly rosterBlocks s (s.removalTest src) := by
  unfold State.removalTest
  split
  · exact frame_ite (frame_trans (frame_dropEntry _) frame_relist) frame_refl
  · exact frame_refl
theorem frame_removalTests (srcs : List Source) : ChangesOnly rosterBlocks s (s.removalTests srcs) :=
  frame_foldl _ _ (fun _ _ => frame_removalTest _) s
theorem frame_endCondition (src : Source) : ChangesOnly rosterBlocks s (s.endCondition src) := by
  unfold State.endCondition
  split
  · dsimp only
    split
    · exact frame_trans (frame_trans (frame_mono (frame_setSlot _ _) (by decide)) (frame_mapLive _ _))
        (frame_removalTest _)
    · exact frame_mono (frame_setSlot _ _) (by decide)
    · exact frame_mono (frame_setSlot _ _) (by decide)
  · exact frame_refl
theorem frame_endOrCancel (src : Source) : ChangesOnly rosterBlocks s (s.endOrCancel src) := by
  unfold State.endOrCancel
  split
  · exact frame_endCondition _
  · exact frame_mono (frame_setSlot _ _) (by decide)
  · exact frame_refl
theorem frame_removeSeatEntries (i : SeatId) : ChangesOnly rosterBlocks s (s.removeSeatEntries i) :=
  frame_foldl _ _ (fun _ _ => frame_trans (frame_dropEntry _) frame_relist) s
theorem frame_setQuiet (i : SeatId) : ChangesOnly [.seats, .alerts] s (s.setQuiet i) := by
  intro b h; cases b <;> first | rfl | exact absurd (by decide) h
theorem frame_clearQuiet (i : SeatId) : ChangesOnly [.seats, .alerts, .attention] s (s.clearQuiet i) := by
  unfold State.clearQuiet
  refine frame_ite ?_ frame_refl
  refine frame_trans (t := ((s.modSeat i fun q => { q with quiet := false }).relabel i .quieted .waiting)) ?_ ?_
  · intro b h; cases b <;> first | rfl | exact absurd (by decide) h
  · exact frame_foldl _ _ (fun _ _ => frame_mono (frame_attempt _) (by decide)) _

/-! ## Downlink queue -/

/-- What an entry leaving the queue may change. -/
def queueBlocks : List Block := [.queue, .syncs, .markers, .attention]

theorem frame_requestSync (i : SeatId) : ChangesOnly [.queue, .syncs] s (s.requestSync i) := by
  unfold State.requestSync
  refine frame_ite (frame_mono (frame_modSync _ _) (by decide)) (frame_ite (frame_mono (frame_modSync _ _) (by decide))
    (frame_ite (frame_mono (frame_modSync _ _) (by decide)) ?_))
  intro b h; cases b <;> first | rfl | exact absurd (by decide) h
theorem frame_serveOwed (skip : Option SeatId) : ChangesOnly [.queue, .syncs] s (s.serveOwed skip) := by
  unfold State.serveOwed
  split
  · exact frame_requestSync _
  · exact frame_refl
theorem frame_completeMarker (p : PortId) (n : Nat) : ChangesOnly [.markers, .attention] s (s.completeMarker p n) := by
  intro b h; cases b <;> first | rfl | exact absurd (by decide) h
theorem frame_setQueue (q : List QEntry) : ChangesOnly [.queue] s { s with queue := q } := by
  intro b h; cases b <;> first | rfl | exact absurd (by decide) h
theorem frame_afterLeave (skip : Option SeatId) (fuel : Nat) :
    ChangesOnly queueBlocks s (State.afterLeave skip fuel s) := by
  induction fuel generalizing s with
  | zero => exact frame_mono (frame_serveOwed _) (by decide)
  | succ n ih =>
    unfold State.afterLeave
    split
    · refine frame_trans (frame_trans ?_ ih) (frame_mono (frame_serveOwed _) (by decide))
      exact frame_trans (frame_mono (frame_setQueue _) (by decide)) (frame_mono (frame_completeMarker _ _) (by decide))
    · exact frame_mono (frame_serveOwed _) (by decide)
theorem frame_leave (skip : Option SeatId) (f : QEntry → Bool) : ChangesOnly queueBlocks s (s.leave skip f) := by
  unfold State.leave
  exact frame_ite (frame_trans (frame_mono (frame_setQueue _) (by decide)) (frame_afterLeave _ _)) frame_refl
theorem frame_dropSyncs (i : SeatId) : ChangesOnly queueBlocks s (s.dropSyncs i) :=
  frame_trans (frame_leave _ _) (frame_leave _ _)
theorem frame_sendOrder (l : LinkId) (i : SeatId) (f : InFlight) : ChangesOnly [.links] s (s.sendOrder l i f) :=
  frame_modLink _ _
theorem frame_firstIssue (l : LinkId) (i : SeatId) : ChangesOnly [.queue, .syncs, .links] s (s.firstIssue l i) := by
  intro b h; cases b <;> first | rfl | exact absurd (by decide) h
theorem frame_reissue (l : LinkId) (i : SeatId) (f : InFlight) : ChangesOnly [.queue, .links] s (s.reissue l i f) := by
  intro b h; cases b <;> first | rfl | exact absurd (by decide) h
theorem frame_openSlot (l : LinkId) : ChangesOnly [.queue, .syncs, .links] s (s.openSlot l) := by
  unfold State.openSlot
  split
  · exact frame_mono (frame_reissue _ _ _) (by decide)
  · split
    · exact frame_firstIssue _ _
    · exact frame_refl
theorem frame_readEcho (i : SeatId) (echo : BitVec 4) : ChangesOnly queueBlocks s (s.readEcho i echo) := by
  unfold State.readEcho
  split
  · refine frame_ite ?_ frame_refl
    have h : ∀ f : InFlight, ChangesOnly queueBlocks s
        ((s.modSync i fun y => { y with confirmed := some (f.pattern, f.hold), stalled := false }).leave none
          (·.isInFlightOf i)) :=
      fun f => frame_trans (frame_mono (frame_modSync _ _) (by decide)) (frame_leave _ _)
    exact frame_ite (h _) (frame_then (h _) (frame_requestSync _) (by decide))
  · exact frame_refl
theorem frame_syncWindowExpires (i : SeatId) : ChangesOnly queueBlocks s (s.syncWindowExpires i) := by
  unfold State.syncWindowExpires
  split
  · split
    · exact frame_ite (frame_mono (frame_setQueue _) (by decide))
        (frame_trans (frame_mono (frame_modSync _ _) (by decide)) (frame_leave _ _))
    · exact frame_refl
  · exact frame_refl
theorem frame_placeMarker (p : PortId) : ChangesOnly queueBlocks s (s.placeMarker p) := by
  unfold State.placeMarker
  refine frame_ite ?_ ?_
  · exact frame_trans (frame_trans (frame_mono (frame_modMarkers _ _) (by decide))
      (frame_mono (frame_completeMarker _ _) (by decide))) (frame_afterLeave _ _)
  · exact frame_then (frame_mono (frame_modMarkers _ _) (by decide)) (frame_setQueue _) (by decide)
theorem frame_dropMarkers (p : PortId) (fuel : Nat) : ChangesOnly queueBlocks s (s.dropMarkers p fuel) := by
  induction fuel generalizing s with
  | zero => exact frame_refl
  | succ n ih => exact frame_trans (frame_leave _ _) ih

/-! ## Battery Gauge and Signal Monitor -/

theorem frame_endBattery (i : SeatId) : ChangesOnly [.battery, .alerts, .attention] s (s.endBattery i) :=
  frame_then (frame_mono (frame_endCondition _) (by decide)) (frame_modBattery _ _) (by decide)
theorem frame_actOnStreaks (i : SeatId) : ChangesOnly [.battery, .alerts, .attention] s (s.actOnStreaks i) := by
  unfold State.actOnStreaks
  dsimp only
  refine frame_ite ?_ (frame_ite ?_ frame_refl)
  · split
    · exact frame_ite frame_refl
        (frame_then (frame_mono (frame_escalate _ _) (by decide)) (frame_modBattery _ _) (by decide))
    · exact frame_then (frame_mono (frame_raise _ _ _) (by decide)) (frame_modBattery _ _) (by decide)
  · split
    · exact frame_refl
    · exact frame_then (frame_mono (frame_raise _ _ _) (by decide)) (frame_modBattery _ _) (by decide)
theorem frame_gaugeReads (i : SeatId) (f : SeatFrame) (c : FrameClass) :
    ChangesOnly [.battery, .alerts, .attention] s (s.gaugeReads i f c) := by
  unfold State.gaugeReads
  have h : ChangesOnly [.battery, .alerts, .attention] s (s.modBattery i fun b => b.read s.params f c) :=
    frame_mono (frame_modBattery _ _) (by decide)
  exact frame_then (frame_trans (frame_ite (frame_trans h (frame_endBattery _)) h) (frame_actOnStreaks _))
    (frame_refresh _) (by decide)
theorem frame_weakTest (i : SeatId) (e : Int) : ChangesOnly [.signal, .alerts, .attention] s (s.weakTest i e) := by
  have h : ∀ g, ChangesOnly [.signal, .alerts, .attention] s (s.modSignal i g) :=
    fun g => frame_mono (frame_modSignal _ _) (by decide)
  unfold State.weakTest
  dsimp only
  refine frame_ite ?_ (frame_ite ?_ ?_)
  · exact frame_ite (frame_then (h _) (frame_raise _ _ _) (by decide)) (h _)
  · exact frame_ite frame_refl (h _)
  · exact frame_ite (frame_then (h _) (frame_endCondition _) (by decide)) (h _)
theorem frame_erraticTest (i : SeatId) : ChangesOnly rosterBlocks s (s.erraticTest i) := by
  unfold State.erraticTest
  exact frame_ite (frame_ite (frame_endCondition _) frame_refl) (frame_ite (frame_raise _ _ _) frame_refl)
theorem frame_monitorReads (i : SeatId) (f : SeatFrame) (c : FrameClass) :
    ChangesOnly [.signal, .alerts, .attention] s (s.monitorReads i f c) := by
  unfold State.monitorReads
  refine frame_then (frame_then (frame_then (frame_trans (frame_then ?_ (frame_refresh _) (by decide))
    (frame_weakTest _ _)) (frame_modSignal _ _) (by decide)) (frame_refresh _) (by decide)) (frame_erraticTest _)
    (by decide)
  exact frame_mono (frame_modSignal _ _) (by decide)

/-! ## Loss -/

/-- What a loss may change. -/
def lossBlocks : List Block := [.signal, .links, .alerts, .attention]

theorem frame_setAttributed (l : LinkId) (f : Nat → Nat) : ChangesOnly lossBlocks s (s.setAttributed l f) :=
  frame_then (frame_mono (frame_modLink _ _) (by decide)) (frame_refresh _) (by decide)
theorem frame_escalateLink (l : LinkId) : ChangesOnly rosterBlocks s (s.escalateLink l) := by
  unfold State.escalateLink
  split
  · exact frame_ite frame_refl (frame_escalate _ _)
  · exact frame_refl
theorem frame_raiseSignalLoss (i : SeatId) : ChangesOnly rosterBlocks s (s.raiseSignalLoss i) := frame_raise _ _ _
theorem frame_loseToSignal (i : SeatId) : ChangesOnly lossBlocks s (s.loseToSignal i) :=
  frame_then (frame_mono (frame_modSignal _ _) (by decide)) (frame_raiseSignalLoss _) (by decide)
theorem frame_loseToLink (i : SeatId) (l : LinkId) : ChangesOnly lossBlocks s (s.loseToLink i l) :=
  frame_then (frame_trans (frame_mono (frame_modSignal _ _) (by decide)) (frame_setAttributed _ _))
    (frame_escalateLink _) (by decide)
theorem frame_attribute (i : SeatId) : ChangesOnly lossBlocks s (s.attribute i) := by
  unfold State.attribute
  split
  · split <;> first | exact frame_loseToSignal _ | exact frame_loseToLink _ _
  · exact frame_loseToSignal _
theorem frame_captureDuration (i : SeatId) : ChangesOnly rosterBlocks s (s.captureDuration i) := frame_mapLive _ _
theorem frame_endLoss (i : SeatId) : ChangesOnly lossBlocks s (s.endLoss i) := by
  unfold State.endLoss
  refine frame_then (W := lossBlocks) ?_ (frame_modSignal _ _) (by decide)
  split
  · exact frame_mono (frame_trans (frame_captureDuration _) (frame_endCondition _)) (by decide)
  · exact frame_setAttributed _ _
  · exact frame_refl
theorem frame_startGraces (l : LinkId) : ChangesOnly [.signal] s (s.startGraces l) := by
  intro b h; cases b <;> first | rfl | exact absurd (by decide) h
theorem frame_convertSeat (l : LinkId) (i : SeatId) : ChangesOnly lossBlocks s (State.convertSeat l s i) :=
  frame_ite (frame_trans (frame_mono (frame_modSignal _ _) (by decide)) (frame_loseToSignal _)) frame_refl
theorem frame_convertSeats (l : LinkId) : ChangesOnly lossBlocks s (s.convertSeats l) :=
  frame_trans (frame_foldl _ _ (fun _ _ => frame_convertSeat _ _) s) (frame_setAttributed _ _)
theorem frame_graceExpires (i : SeatId) : ChangesOnly lossBlocks s (s.graceExpires i) := by
  unfold State.graceExpires
  have h : ∀ g, ChangesOnly lossBlocks s (s.modSignal i g) := fun g => frame_mono (frame_modSignal _ _) (by decide)
  split
  · dsimp only
    split
    · exact frame_trans (frame_trans (h _) (frame_setAttributed _ _)) (frame_loseToSignal _)
    · exact h _
    · exact h _
  · exact frame_refl

/-! ## Mute and Floor Supervisor -/

/-- What the Supervisor's reading of a frame may change. -/
def muteBlocks : List Block := [.mute, .alerts, .attention]

/-- What a derivation after it may change as well. -/
def orderBlocks : List Block := [.mute, .alerts, .attention, .queue, .syncs]

theorem frame_derive (i : SeatId) : ChangesOnly [.mute, .queue, .syncs] s (s.derive i) :=
  frame_ite frame_refl (frame_then (frame_mono (frame_modMute _ _) (by decide)) (frame_requestSync _) (by decide))
theorem frame_dropFloorMuted (i : SeatId) : ChangesOnly muteBlocks s (s.dropFloorMuted i) :=
  frame_then (frame_mono (frame_endOrCancel _) (by decide)) (frame_modMute _ _) (by decide)
theorem frame_dropOpenNoFloor (i : SeatId) : ChangesOnly muteBlocks s (s.dropOpenNoFloor i) :=
  frame_then (frame_mono (frame_endOrCancel _) (by decide)) (frame_modMute _ _) (by decide)
theorem frame_raiseOpenNoFloor (i : SeatId) (a : AudioState) :
    ChangesOnly muteBlocks s (s.raiseOpenNoFloor i a) := by
  have h : ChangesOnly muteBlocks s (s.raise (.seat i .openNoFloor) .warning (.audio a)) :=
    frame_mono (frame_raise _ _ _) (by decide)
  exact frame_ite (frame_trans (frame_then h (frame_modMute _ _) (by decide)) (frame_dropFloorMuted _)) h
theorem frame_countToggle (i : SeatId) : ChangesOnly muteBlocks s (s.countToggle i) := by
  have h : ∀ g, ChangesOnly muteBlocks s (s.modMute i g) := fun g => frame_mono (frame_modMute _ _) (by decide)
  exact frame_ite (frame_ite (frame_then (h _) (frame_setSlot _ _) (by decide)) (h _)) (h _)
theorem frame_voiceFrame (i : SeatId) (a : AudioState) : ChangesOnly muteBlocks s (s.voiceFrame i a) := by
  have h : ∀ x g, ChangesOnly muteBlocks s ((s.setSlot (.seat i .voiceInMute) x).modMute i g) :=
    fun x g => frame_then (frame_mono (frame_setSlot _ _) (by decide)) (frame_modMute _ _) (by decide)
  unfold State.voiceFrame
  dsimp only
  split
  · exact frame_ite (h _ _) frame_refl
  · exact frame_ite frame_refl (h _ _)
  · exact frame_ite (frame_mono (frame_modMute _ _) (by decide)) frame_refl
theorem frame_openFrame (i : SeatId) (a : AudioState) : ChangesOnly muteBlocks s (s.openFrame i a) := by
  unfold State.openFrame
  dsimp only
  split
  · exact frame_ite (frame_ite (frame_then (frame_mono (frame_setSlot _ _) (by decide)) (frame_modMute _ _) (by decide))
      (frame_raiseOpenNoFloor _ _)) frame_refl
  · exact frame_ite (frame_dropOpenNoFloor _) frame_refl
  · exact frame_ite (frame_dropOpenNoFloor _) frame_refl
theorem frame_floorFrame (i : SeatId) (a : AudioState) : ChangesOnly muteBlocks s (s.floorFrame i a) := by
  unfold State.floorFrame
  dsimp only
  split
  · exact frame_ite (frame_then (frame_mono (frame_setSlot _ _) (by decide)) (frame_modMute _ _) (by decide)) frame_refl
  · exact frame_ite (frame_dropFloorMuted _) frame_refl
  · exact frame_ite (frame_dropFloorMuted _) frame_refl
theorem frame_chatterTest (i : SeatId) (a : AudioState) : ChangesOnly rosterBlocks s (s.chatterTest i a) :=
  frame_ite (frame_raise _ _ _) frame_refl
theorem frame_supervisorReads (i : SeatId) (f : SeatFrame) (c : FrameClass) :
    ChangesOnly muteBlocks s (s.supervisorReads i f c) := by
  unfold State.supervisorReads
  have h : ∀ b : Bool, ChangesOnly muteBlocks s
      ((((if b then s.countToggle i else s).voiceFrame i f.audio).openFrame i f.audio).floorFrame i f.audio) :=
    fun b => frame_trans (frame_trans (frame_trans (frame_ite (frame_countToggle _) frame_refl) (frame_voiceFrame _ _))
      (frame_openFrame _ _)) (frame_floorFrame _ _)
  exact frame_ite (frame_then (h _) (frame_chatterTest _ _) (by decide)) (h _)
theorem frame_voiceQualifyExpires (i : SeatId) : ChangesOnly orderBlocks s (s.voiceQualifyExpires i) := by
  unfold State.voiceQualifyExpires
  split
  · exact frame_then (frame_then (frame_mono (frame_modMute _ _) (by decide)) (frame_raise _ _ _) (by decide))
      (frame_derive _) (by decide)
  · exact frame_refl
theorem frame_voiceEndExpires (i : SeatId) : ChangesOnly orderBlocks s (s.voiceEndExpires i) := by
  unfold State.voiceEndExpires
  split
  · exact frame_then (frame_then (frame_mono (frame_modMute _ _) (by decide)) (frame_endCondition _) (by decide))
      (frame_derive _) (by decide)
  · exact frame_refl
theorem frame_openGraceExpires (i : SeatId) : ChangesOnly orderBlocks s (s.openGraceExpires i) := by
  unfold State.openGraceExpires
  split
  · exact frame_then (frame_then (frame_mono (frame_modMute _ _) (by decide)) (frame_raiseOpenNoFloor _ _) (by decide))
      (frame_derive _) (by decide)
  · exact frame_refl
theorem frame_floorMutedQualifyExpires (i : SeatId) :
    ChangesOnly orderBlocks s (s.floorMutedQualifyExpires i) := by
  unfold State.floorMutedQualifyExpires
  split
  · exact frame_then (frame_then (frame_mono (frame_modMute _ _) (by decide)) (frame_raise _ _ _) (by decide))
      (frame_derive _) (by decide)
  · exact frame_refl
theorem frame_chatterWindowExpires (i : SeatId) : ChangesOnly muteBlocks s (s.chatterWindowExpires i) := by
  unfold State.chatterWindowExpires
  dsimp only
  split
  · exact frame_ite (frame_mono (frame_modMute _ _) (by decide))
      (frame_then (frame_mono (frame_endOrCancel _) (by decide)) (frame_modMute _ _) (by decide))
  · exact frame_refl
theorem frame_giveFloor (i : SeatId) : ChangesOnly [.mute, .floorCount] s (s.giveFloor i) := by
  intro b h; cases b <;> first | rfl | exact absurd (by decide) h
theorem frame_takeFloor (i : SeatId) : ChangesOnly [.mute, .floorCount] s (s.takeFloor i) := by
  intro b h; cases b <;> first | rfl | exact absurd (by decide) h
theorem frame_escalateFrom (src : Source) (a b : Severity) : ChangesOnly rosterBlocks s (s.escalateFrom src a b) :=
  frame_ite (frame_escalate _ _) frame_refl
theorem frame_grantFloor (i : SeatId) : ChangesOnly (.floorCount :: orderBlocks) s (s.grantFloor i) := by
  unfold State.grantFloor
  dsimp only
  refine frame_then (W := .floorCount :: orderBlocks) ?_ (frame_derive i) (by decide)
  refine frame_then (W := .floorCount :: orderBlocks) ?_ (frame_dropOpenNoFloor i) (by decide)
  refine frame_then (W := .floorCount :: orderBlocks) ?_ (frame_escalateFrom _ _ _) (by decide)
  have h : ChangesOnly (.floorCount :: orderBlocks) s (s.giveFloor i) := frame_mono (frame_giveFloor _) (by decide)
  split
  · exact frame_then h (frame_escalateFrom _ _ _) (by decide)
  · exact h
theorem frame_revokeFloor (i : SeatId) : ChangesOnly (.floorCount :: orderBlocks) s (s.revokeFloor i) := by
  unfold State.revokeFloor
  refine frame_then (W := .floorCount :: orderBlocks) ?_ (frame_derive i) (by decide)
  refine frame_then (W := .floorCount :: orderBlocks) ?_ (frame_dropFloorMuted i) (by decide)
  exact frame_mono (frame_takeFloor _) (by decide)
theorem frame_holdConsole (i : SeatId) : ChangesOnly orderBlocks s (s.holdConsole i) :=
  frame_then (frame_then (frame_mono (frame_modMute _ _) (by decide)) (frame_dropFloorMuted _) (by decide))
    (frame_derive _) (by decide)
theorem frame_freeHold (i : SeatId) : ChangesOnly [.mute, .queue, .syncs] s (s.freeHold i) :=
  frame_trans (frame_mono (frame_modMute _ _) (by decide)) (frame_derive _)
theorem frame_swapSeat (i : SeatId) (level : Nat) :
    ChangesOnly (.battery :: orderBlocks) s (s.swapSeat i level) :=
  frame_then (frame_then (frame_mono (frame_modBattery _ _) (by decide)) (frame_endBattery _) (by decide))
    (frame_derive _) (by decide)

end Sys2Proof.Machine.Laws
end

