-- ==== Sys2Proof/Laws/SeatFrames.lean ====
section
/-! SUPPORT. What the operations of the Seat Table, the Merge Unit and the Antenna Link Interface may change. -/

namespace Sys2Proof.Machine.Laws

open Sys2Proof Sys2Proof.Machine

variable {s t u : State}

/-- What an accepted frame may change. -/
def acceptBlocks : List Block :=
  [.seats, .battery, .signal, .mute, .links, .alerts, .attention, .queue, .syncs, .markers]

/-- What a settled frame may change. -/
def settleBlocks : List Block := .strangers :: .openFrames :: acceptBlocks

/-! ## Strangers -/

theorem frame_setStrangers (xs : List Stranger) : ChangesOnly [.strangers] s { s with strangers := xs } := by
  intro b h; cases b <;> first | rfl | exact absurd (by decide) h
theorem frame_attendDesks : ChangesOnly [.attention] s s.attendDesks := frame_attend _
theorem frame_strangerFrame (f : Settled) : ChangesOnly [.strangers, .attention] s (s.strangerFrame f) := by
  unfold State.strangerFrame
  dsimp only
  split
  · exact frame_mono (frame_setStrangers _) (by decide)
  · exact frame_then (frame_mono (frame_setStrangers _) (by decide)) frame_attendDesks (by decide)

/-! ## Departures and appearances -/

theorem frame_setSeatState (i : SeatId) (x : SeatState) : ChangesOnly [.seats] s (s.setSeatState i x) :=
  frame_modSeat _ _
theorem frame_startLossTimer (i : SeatId) : ChangesOnly [.signal] s (s.startLossTimer i) := frame_modSignal _ _
theorem frame_forgetConfirmed (i : SeatId) : ChangesOnly [.syncs] s (s.forgetConfirmed i) := frame_modSync _ _
theorem frame_dropSyncsOwed (i : SeatId) : ChangesOnly queueBlocks s (s.dropSyncsOwed i) :=
  frame_then (frame_dropSyncs i) (frame_modSync _ _) (by decide)
theorem frame_depart (i : SeatId) : ChangesOnly acceptBlocks s (s.depart i) := by
  unfold State.depart
  dsimp only
  refine frame_then (W := acceptBlocks) ?_ (frame_dropSyncsOwed i) (by decide)
  refine frame_then (W := acceptBlocks) ?_ (frame_clearQuiet i) (by decide)
  refine frame_then (W := acceptBlocks) ?_ (frame_modSignal _ _) (by decide)
  refine frame_then (W := acceptBlocks) ?_ (frame_modMute _ _) (by decide)
  exact frame_trans (W := acceptBlocks) (frame_mono (frame_modSignal i _) (by decide))
    (frame_foldl _ _ (fun _ _ => frame_mono (frame_endOrCancel _) (by decide)) _)
theorem frame_departIfActive (i : SeatId) : ChangesOnly acceptBlocks s (s.departIfActive i) :=
  frame_ite (frame_depart i) frame_refl
theorem frame_endLossIfLost (i : SeatId) : ChangesOnly acceptBlocks s (s.endLossIfLost i) :=
  frame_ite (frame_mono (frame_endLoss i) (by decide)) frame_refl
theorem frame_acceptFields (i : SeatId) (f : SeatFrame) : ChangesOnly [.seats] s (s.acceptFields i f) :=
  frame_modSeat _ _
theorem frame_refuse (i : SeatId) (f : SeatFrame) : ChangesOnly acceptBlocks s (s.refuse i f) := by
  unfold State.refuse
  dsimp only
  have h : ChangesOnly acceptBlocks s
      (((((s.departIfActive i).dropSyncsOwed i).forgetConfirmed i).setSeatState i .refused).clearQuiet i) := by
    refine frame_then (W := acceptBlocks) ?_ (frame_clearQuiet i) (by decide)
    refine frame_then (W := acceptBlocks) ?_ (frame_setSeatState i _) (by decide)
    refine frame_then (W := acceptBlocks) ?_ (frame_forgetConfirmed i) (by decide)
    exact frame_then (W := acceptBlocks) (frame_departIfActive i) (frame_dropSyncsOwed i) (by decide)
  split
  · exact h
  · exact frame_then h (frame_raise _ _ _) (by decide)
theorem frame_appear (i : SeatId) (f : SeatFrame) : ChangesOnly acceptBlocks s (s.appear i f) := by
  unfold State.appear
  dsimp only
  have h : ChangesOnly acceptBlocks s (if f.target = .standby then s.departIfActive i else s) :=
    frame_ite (frame_departIfActive i) frame_refl
  have k : ∀ g, ChangesOnly acceptBlocks s
      ((((((((if f.target = .standby then s.departIfActive i else s).setSeatState i f.target).modSignal i g).dropSyncsOwed
        i).forgetConfirmed i).endCondition (.seat i .formatRefused)).clearQuiet i)) := by
    intro g
    refine frame_then (W := acceptBlocks) ?_ (frame_clearQuiet i) (by decide)
    refine frame_then (W := acceptBlocks) ?_ (frame_endCondition _) (by decide)
    refine frame_then (W := acceptBlocks) ?_ (frame_forgetConfirmed i) (by decide)
    refine frame_then (W := acceptBlocks) ?_ (frame_dropSyncsOwed i) (by decide)
    refine frame_then (W := acceptBlocks) ?_ (frame_modSignal i _) (by decide)
    exact frame_then (W := acceptBlocks) h (frame_setSeatState i _) (by decide)
  split
  · exact frame_then (k _) (frame_startLossTimer i) (by decide)
  · exact k _
theorem frame_normalFrame (i : SeatId) (f : SeatFrame) : ChangesOnly acceptBlocks s (s.normalFrame i f) := by
  unfold State.normalFrame
  split
  · split
    · exact frame_then (frame_depart i) (frame_setSeatState i _) (by decide)
    · exact frame_mono (frame_startLossTimer i) (by decide)
  · split
    · exact frame_refl
    · exact frame_then (frame_then (frame_mono (frame_setSeatState i _) (by decide)) (frame_startLossTimer i) (by decide))
        (frame_modSync i _) (by decide)
  · split
    · exact frame_mono (frame_setSeatState i _) (by decide)
    · exact frame_then (frame_mono (frame_setSeatState i _) (by decide)) (frame_startLossTimer i) (by decide)
  all_goals exact frame_refl
theorem frame_seatStep (i : SeatId) (f : SeatFrame) (c : FrameClass) :
    ChangesOnly acceptBlocks s (s.seatStep i f c) := by
  unfold State.seatStep
  dsimp only
  refine frame_trans (frame_endLossIfLost i) ?_
  split
  · split
    · exact frame_appear i f
    · exact frame_refuse i f
  · exact frame_normalFrame i f
theorem frame_evaluators (i : SeatId) (f : SeatFrame) (c : FrameClass) :
    ChangesOnly acceptBlocks s (s.evaluators i f c) := by
  unfold State.evaluators
  split
  · refine frame_then (W := acceptBlocks) ?_ (frame_supervisorReads i f c) (by decide)
    exact frame_then (W := acceptBlocks) (frame_mono (frame_gaugeReads i f c) (by decide)) (frame_monitorReads i f c)
      (by decide)
  · exact frame_mono (frame_gaugeReads i f c) (by decide)
  all_goals exact frame_refl
theorem frame_takeAudio (i : SeatId) (f : SeatFrame) : ChangesOnly [.seats] s (s.takeAudio i f) := frame_modSeat _ _
theorem frame_indicator (i : SeatId) : ChangesOnly [.mute, .queue, .syncs] s (s.indicator i) := by
  unfold State.indicator
  dsimp only
  split
  · exact frame_then (frame_derive i) (frame_requestSync i) (by decide)
  · exact frame_derive i
theorem frame_accept (i : SeatId) (f : SeatFrame) (c : FrameClass) : ChangesOnly acceptBlocks s (s.accept i f c) := by
  unfold State.accept
  dsimp only
  refine frame_then (W := acceptBlocks) ?_ (frame_indicator i) (by decide)
  refine frame_then (W := acceptBlocks) ?_ (frame_takeAudio i f) (by decide)
  refine frame_trans (W := acceptBlocks) ?_ (frame_evaluators i f c)
  refine frame_trans (W := acceptBlocks) ?_ (frame_seatStep i f c)
  split
  · exact frame_mono (frame_acceptFields i f) (by decide)
  · exact frame_then (frame_mono (frame_acceptFields i f) (by decide)) (frame_readEcho i _) (by decide)
theorem frame_seatFrame (i : SeatId) (f : SeatFrame) : ChangesOnly acceptBlocks s (s.seatFrame i f) := by
  unfold State.seatFrame
  dsimp only
  split
  · exact frame_refl
  · exact frame_refl
  · exact frame_refl
  · exact frame_accept i f _
  · exact frame_accept i f _
theorem frame_settledFrame (f : Settled) : ChangesOnly settleBlocks s (s.settledFrame f) := by
  unfold State.settledFrame
  split
  · exact frame_refl
  · split
    · exact frame_mono (frame_seatFrame _ _) (by decide)
    · exact frame_mono (frame_strangerFrame f) (by decide)
theorem frame_lossTimerExpires (i : SeatId) : ChangesOnly acceptBlocks s (s.lossTimerExpires i) := by
  unfold State.lossTimerExpires
  split
  · dsimp only
    refine frame_then (W := acceptBlocks) ?_ (frame_derive i) (by decide)
    refine frame_then (W := acceptBlocks) ?_ (frame_attribute i) (by decide)
    refine frame_then (W := acceptBlocks) ?_ (frame_setSeatState i _) (by decide)
    have h : ∀ g, ChangesOnly acceptBlocks s ((s.modSignal i g).depart i) := fun g =>
      frame_trans (frame_mono (frame_modSignal i g) (by decide)) (frame_depart i)
    exact h _
  · exact frame_refl

/-! ## Binding -/

theorem frame_bindSeat (i : SeatId) (r : RadioId) : ChangesOnly [.seats, .strangers] s (s.bindSeat i r) := by
  unfold State.bindSeat
  intro b h; cases b <;> first | rfl | exact absurd (by decide) h
theorem frame_releaseAttribution (i : SeatId) : ChangesOnly lossBlocks s (s.releaseAttribution i) := by
  unfold State.releaseAttribution
  split
  · exact frame_setAttributed _ _
  all_goals exact frame_refl
theorem frame_releaseFloor (i : SeatId) : ChangesOnly [.floorCount] s (s.releaseFloor i) := by
  unfold State.releaseFloor
  split
  · intro b h; cases b <;> first | rfl | exact absurd (by decide) h
  · exact frame_refl
theorem frame_freshSeat (i : SeatId) (q : SeatRec) :
    ChangesOnly [.seats, .battery, .signal, .mute, .syncs] s (s.freshSeat i q) := by
  unfold State.freshSeat
  refine frame_then (W := [.seats, .battery, .signal, .mute, .syncs]) ?_ (frame_modSync i _) (by decide)
  refine frame_then (W := [.seats, .battery, .signal, .mute, .syncs]) ?_ (frame_modMute i _) (by decide)
  refine frame_then (W := [.seats, .battery, .signal, .mute, .syncs]) ?_ (frame_modSignal i _) (by decide)
  refine frame_then (W := [.seats, .battery, .signal, .mute, .syncs]) ?_ (frame_modBattery i _) (by decide)
  exact frame_mono (frame_modSeat i _) (by decide)
theorem frame_unbindSeat (i : SeatId) : ChangesOnly (.floorCount :: acceptBlocks) s (s.unbindSeat i) := by
  unfold State.unbindSeat
  dsimp only
  refine frame_then (W := .floorCount :: acceptBlocks) ?_ (frame_freshSeat i _) (by decide)
  refine frame_then (W := .floorCount :: acceptBlocks) ?_ (frame_dropSyncs i) (by decide)
  refine frame_then (W := .floorCount :: acceptBlocks) ?_ (frame_modMute i _) (by decide)
  refine frame_then (W := .floorCount :: acceptBlocks) ?_ (frame_releaseFloor i) (by decide)
  refine frame_then (W := .floorCount :: acceptBlocks) ?_ (frame_modSignal i _) (by decide)
  refine frame_then (W := .floorCount :: acceptBlocks) ?_ (frame_releaseAttribution i) (by decide)
  refine frame_trans (W := .floorCount :: acceptBlocks)
    (t := { s with alerts := { s.alerts with seatSlots := s.alerts.seatSlots.set i clearSlots } }) ?_
    (frame_mono (frame_removeSeatEntries i) (by decide))
  intro b h; cases b <;> first | rfl | exact absurd (by decide) h

/-! ## Merge Unit -/

theorem frame_setOpenFrames (xs : List OpenFrame) : ChangesOnly [.openFrames] s { s with openFrames := xs } := by
  intro b h; cases b <;> first | rfl | exact absurd (by decide) h
theorem frame_settle (o : OpenFrame) : ChangesOnly settleBlocks s (s.settle o) :=
  frame_trans (frame_mono (frame_setOpenFrames _) (by decide)) (frame_settledFrame _)
theorem frame_testComplete (k : FrameKey) : ChangesOnly settleBlocks s (s.testComplete k) := by
  unfold State.testComplete
  split
  · split
    · exact frame_settle _
    · exact frame_refl
  · exact frame_refl
theorem frame_forceOldest : ChangesOnly settleBlocks s s.forceOldest := by
  unfold State.forceOldest
  split
  · split
    · exact frame_settle _
    · exact frame_refl
  · exact frame_refl
theorem frame_copyArrives (p : MicPayload) (l : LinkId) (x : Int) :
    ChangesOnly settleBlocks s (s.copyArrives p l x) := by
  unfold State.copyArrives
  dsimp only
  split
  · exact frame_trans (frame_mono (frame_setOpenFrames _) (by decide)) (frame_testComplete _)
  · exact frame_trans (frame_then frame_forceOldest (frame_setOpenFrames _) (by decide)) (frame_testComplete _)
theorem frame_windowExpires (k : FrameKey) : ChangesOnly settleBlocks s (s.windowExpires k) := by
  unfold State.windowExpires
  split
  · exact frame_settle _
  · exact frame_refl

/-! ## Antenna links -/

theorem frame_endLinkCondition (l : LinkId) : ChangesOnly rosterBlocks s (s.endLinkCondition l) :=
  frame_trans (frame_refresh _) (frame_endCondition _)
theorem frame_goodFrame (l : LinkId) : ChangesOnly lossBlocks s (s.goodFrame l) := by
  unfold State.goodFrame
  dsimp only
  split
  · exact frame_mono (frame_modLink l _) (by decide)
  · refine frame_then (W := lossBlocks) ?_ (frame_startGraces l) (by decide)
    exact frame_then (W := lossBlocks) (frame_mono (frame_modLink l _) (by decide)) (frame_endLinkCondition l) (by decide)
theorem frame_raiseLinkCondition (l : LinkId) : ChangesOnly rosterBlocks s (s.raiseLinkCondition l) := by
  unfold State.raiseLinkCondition
  dsimp only
  split
  · exact frame_trans (frame_raise _ _ _) (frame_escalateLink l)
  · exact frame_raise _ _ _
theorem frame_silenceExpires (l : LinkId) : ChangesOnly [.links, .alerts, .attention] s (s.silenceExpires l) := by
  unfold State.silenceExpires
  split
  · exact frame_then (frame_mono (frame_modLink l _) (by decide)) (frame_raiseLinkCondition l) (by decide)
  · exact frame_refl
theorem frame_detectBreak (l : LinkId) : ChangesOnly [.links, .alerts, .attention] s (s.detectBreak l) := by
  unfold State.detectBreak
  dsimp only
  split
  · exact frame_then (frame_mono (frame_modLink l _) (by decide)) (frame_raiseLinkCondition l) (by decide)
  · exact frame_then (frame_mono (frame_modLink l _) (by decide)) (frame_refresh _) (by decide)
theorem frame_endBreak (l : LinkId) : ChangesOnly [.links, .alerts, .attention] s (s.endBreak l) := by
  unfold State.endBreak
  dsimp only
  split
  · exact frame_then (frame_then (frame_mono (frame_modLink l _) (by decide)) (frame_modLink l _) (by decide))
      (frame_refresh _) (by decide)
  · exact frame_mono (frame_modLink l _) (by decide)
theorem frame_disableLink (l : LinkId) : ChangesOnly lossBlocks s (s.disableLink l) := by
  unfold State.disableLink
  dsimp only
  refine frame_then (W := lossBlocks) ?_ (frame_modLink l _) (by decide)
  refine frame_trans (W := lossBlocks) ?_ (frame_convertSeats l)
  exact frame_then (frame_mono (frame_modLink l _) (by decide)) (frame_endLinkCondition l) (by decide)
theorem frame_enableLink (l : LinkId) : ChangesOnly [.links] s (s.enableLink l) := frame_modLink l _
theorem frame_writeEnable (l : LinkId) (on : Bool) : ChangesOnly lossBlocks s (s.writeEnable l on) := by
  unfold State.writeEnable
  split
  · exact frame_disableLink l
  · exact frame_mono (frame_enableLink l) (by decide)
  · exact frame_refl
theorem frame_slotExpires (l : LinkId) : ChangesOnly [.queue, .syncs, .links] s (s.slotExpires l) := by
  unfold State.slotExpires
  split
  · exact frame_trans (frame_mono (frame_modLink l _) (by decide)) (frame_openSlot l)
  · exact frame_refl
theorem frame_copyFrame (l : LinkId) (p : MicPayload) (raw : Byte) :
    ChangesOnly settleBlocks s (s.copyFrame l p raw) :=
  frame_trans (frame_mono (frame_goodFrame l) (by decide)) (frame_copyArrives _ _ _)
theorem frame_statusFrame (l : LinkId) (x : BitVec 32) : ChangesOnly lossBlocks s (s.statusFrame l x) :=
  frame_then (frame_goodFrame l) (frame_modLink l _) (by decide)

end Sys2Proof.Machine.Laws
end

