-- ==== Sys2Proof/Laws/RequestFrames.lean ====
section
/-! SUPPORT. What each request's action may change, and what any request may change at most. -/

namespace Sys2Proof.Machine.Laws

open Sys2Proof Sys2Proof.Machine

variable {s t u : State}

/-- What a request may change at most: never the links' receive side alone, the clock, the pending commands. -/
def requestBlocks : List Block :=
  [.params, .links, .seats, .strangers, .battery, .signal, .mute, .floorCount, .alerts, .attention, .queue, .syncs,
    .markers, .ports, .reminders, .lamps]

/-! ## Per-seat rules and ranges -/

theorem frame_overSeats {W : List Block} (rule : State → SeatId → SeatAnswer) (seats : List SeatId)
    (h : ∀ s i, ChangesOnly W s (rule s i).after) : ChangesOnly W s (s.overSeats rule seats).2 := by
  unfold State.overSeats
  suffices H : ∀ acc : Nat × State, ChangesOnly W acc.2
      (seats.foldl (fun acc i => let a := rule acc.2 i; (acc.1 + flag a.changed, a.after)) acc).2 from H (0, s)
  induction seats with
  | nil => exact fun _ => frame_refl
  | cons i seats ih => exact fun acc => frame_trans (h acc.2 i) (ih _)

theorem frame_seatOrRange {W : List Block} (rule : State → SeatId → SeatAnswer) (ts : TagState) (n : Nat)
    (h : ∀ s i, ChangesOnly W s (rule s i).after) : ChangesOnly W s (s.seatOrRange rule ts n).2 := by
  unfold State.seatOrRange
  split
  · split
    · exact frame_overSeats rule _ h
    all_goals exact frame_refl
  · split
    · dsimp only
      split
      · exact h _ _
      · exact frame_refl
    · exact frame_refl

theorem frame_quietRule (i : SeatId) : ChangesOnly [.seats, .alerts] s (s.quietRule i).after := by
  unfold State.quietRule
  split
  · split
    · exact frame_refl
    · exact frame_setQuiet i
  all_goals exact frame_refl
theorem frame_unquietRule (i : SeatId) : ChangesOnly [.seats, .alerts, .attention] s (s.unquietRule i).after := by
  unfold State.unquietRule
  split
  · exact frame_clearQuiet i
  · exact frame_refl
theorem frame_holdRule (i : SeatId) : ChangesOnly orderBlocks s (s.holdRule i).after := by
  unfold State.holdRule
  split
  · split <;> first | exact frame_holdConsole i | exact frame_refl
  · exact frame_refl
theorem frame_freeRule (i : SeatId) : ChangesOnly [.mute, .queue, .syncs] s (s.freeRule i).after := by
  unfold State.freeRule
  split
  · split <;> first | exact frame_freeHold i | exact frame_refl
  · exact frame_refl
theorem frame_swapRule (i : SeatId) : ChangesOnly (.battery :: orderBlocks) s (s.swapRule i).after := by
  unfold State.swapRule
  split
  · split
    · exact frame_swapSeat i _
    · exact frame_refl
  · exact frame_refl
theorem frame_revokeRule (i : SeatId) : ChangesOnly (.floorCount :: orderBlocks) s (s.revokeRule i).after := by
  unfold State.revokeRule
  split
  · split
    · exact frame_revokeFloor i
    · exact frame_refl
  · exact frame_refl

/-! ## Requests -/

/-- A frame, with the outputs evaluated after it. -/
theorem frame_outputs {W : List Block} (h : ChangesOnly W s t) (hr : Block.reminders ∈ W) (hl : Block.lamps ∈ W) :
    ChangesOnly W s t.evalOutputs := by
  refine frame_then h frame_evalOutputs ?_
  intro b hb
  simp only [List.mem_cons, List.not_mem_nil, or_false] at hb
  rcases hb with rfl | rfl <;> assumption

theorem frame_acknowledgeInTurn (p : PortId) (scopes : List (Entry → Bool)) :
    ChangesOnly [.alerts, .attention, .reminders, .lamps] s (s.acknowledgeInTurn p scopes).2 := by
  unfold State.acknowledgeInTurn
  dsimp only
  refine frame_outputs ?_ (by decide) (by decide)
  exact frame_then (frame_mono (frame_setRoster _) (by decide)) (frame_removalTests _) (by decide)

theorem frame_acknowledge (p : PortId) (scope : Entry → Bool) :
    ChangesOnly [.alerts, .attention, .reminders, .lamps] s (s.acknowledge p scope).2 := frame_acknowledgeInTurn _ _

theorem frame_ackRequest (p : PortId) (ts : TagState) (scope : Byte) (v : Nat) :
    ChangesOnly [.alerts, .attention, .reminders, .lamps] s (s.ackRequest p ts scope v).2 := by
  unfold State.ackRequest State.ackTag State.ackSeat
  repeat' split
  all_goals first | exact frame_refl | exact frame_acknowledge _ _ | exact frame_acknowledgeInTurn _ _

theorem frame_storeView (p : PortId) (v : View) :
    ChangesOnly [.ports, .alerts, .attention, .reminders, .lamps] s (s.storeView p v) := by
  unfold State.storeView
  dsimp only
  refine frame_outputs ?_ (by decide) (by decide)
  refine frame_then ?_ (frame_removalTests _) (by decide)
  exact frame_then (frame_mono (frame_modPort p _) (by decide)) (frame_attend _) (by decide)

theorem frame_setViewRequest (p : PortId) (n b l : Nat) (v : Byte) (k : BitVec 16) :
    ChangesOnly [.ports, .alerts, .attention, .reminders, .lamps] s (s.setViewRequest p n b l v k).2 := by
  unfold State.setViewRequest
  repeat' split
  all_goals first | exact frame_refl | exact frame_storeView _ _

theorem frame_storeParam (q : Param) (v : Int) :
    ChangesOnly [.params, .links, .signal, .alerts, .attention] s (s.storeParam q v) := by
  unfold State.storeParam
  split
  · exact frame_mono (frame_writeEnable _ _) (by decide)
  · exact frame_mono (frame_modLink _ _) (by decide)
  · intro b h; cases b <;> first | rfl | exact absurd (by decide) h

theorem frame_setParamRequest (n : Nat) (v : Int) :
    ChangesOnly [.params, .links, .signal, .alerts, .attention, .reminders, .lamps] s (s.setParamRequest n v).2 := by
  unfold State.setParamRequest
  split
  · exact frame_outputs (frame_mono (frame_storeParam _ _) (by decide)) (by decide) (by decide)
  · exact frame_refl

theorem frame_configureLamp (m : LampId) (mode : LampMode) (v : Severity) (x : LampScope) (p o : Nat) :
    ChangesOnly [.lamps] s (s.configureLamp m mode v x p o) := frame_modLamp _ _

theorem frame_setLampRequest (args : List Byte) : ChangesOnly [.lamps] s (s.setLampRequest args).2 := by
  unfold State.setLampRequest
  split
  · exact frame_configureLamp _ _ _ _ _ _
  · exact frame_refl

theorem frame_markRequest (p : PortId) : ChangesOnly queueBlocks s (s.markRequest p).2 := by
  unfold State.markRequest
  repeat' split
  all_goals first | exact frame_refl | exact frame_placeMarker p

theorem frame_setRemindRequest (p : PortId) (n : Nat) : ChangesOnly [.reminders] s (s.setRemindRequest p n).2 :=
  frame_trans (frame_modReminder p _) (frame_modReminder p _)

theorem frame_tagFirst (p : PortId) (n : Nat) : ChangesOnly [.ports] s (s.tagFirst p n).2 := by
  unfold State.tagFirst
  split
  · exact frame_setTag _ _
  · exact frame_refl

theorem frame_tagLast (p : PortId) (ts : TagState) (n : Nat) : ChangesOnly [.ports] s (s.tagLast p ts n).2 := by
  unfold State.tagLast
  repeat' split
  all_goals first | exact frame_refl | exact frame_setTag _ _

theorem frame_setMaskRequest (p : PortId) (b : Byte) : ChangesOnly [.ports] s (s.setMaskRequest p b).2 := by
  unfold State.setMaskRequest
  repeat' split
  all_goals first | exact frame_refl | exact frame_modPort _ _

theorem frame_readRosterRequest (p : PortId) (a b : Nat) {W : List Block} : ChangesOnly W s (s.readRosterRequest p a b).2 := by
  unfold State.readRosterRequest
  split
  · exact frame_refl
  · exact frame_refl

theorem frame_readSeatRequest (n : Nat) {W : List Block} : ChangesOnly W s (s.readSeatRequest n).2 := by
  unfold State.readSeatRequest
  split
  · exact frame_refl
  · exact frame_refl

theorem frame_readLinkRequest (n : Nat) {W : List Block} : ChangesOnly W s (s.readLinkRequest n).2 := by
  unfold State.readLinkRequest
  split
  · exact frame_refl
  · exact frame_refl

theorem frame_readParamRequest (n : Nat) {W : List Block} : ChangesOnly W s (s.readParamRequest n).2 := by
  unfold State.readParamRequest
  split
  · exact frame_refl
  · exact frame_refl

theorem frame_withOutputs {W : List Block} {x : Reply × State} (h : ChangesOnly W s x.2) (hr : Block.reminders ∈ W)
    (hl : Block.lamps ∈ W) : ChangesOnly W s (withOutputs x).2 := by
  unfold withOutputs
  split
  · exact frame_outputs h hr hl
  · exact h

theorem frame_grantRequest (n : Nat) :
    ChangesOnly (.floorCount :: .reminders :: .lamps :: orderBlocks) s (s.grantRequest n).2 := by
  have h : ∀ i, ChangesOnly (.floorCount :: .reminders :: .lamps :: orderBlocks) s (s.grantFloor i) :=
    fun i => frame_mono (frame_grantFloor i) (by decide)
  have k : ∀ i, ChangesOnly (.floorCount :: .reminders :: .lamps :: orderBlocks) s (s.grantFloor i).evalOutputs :=
    fun i => frame_outputs (h i) (by decide) (by decide)
  unfold State.grantRequest withOutputs
  split
  · split
    · exact frame_refl
    · split
      · exact frame_refl
      · split
        · exact frame_refl
        · dsimp only
          exact k _
  · exact frame_refl

theorem frame_bindRequest (n : Nat) (r : RadioId) : ChangesOnly [.seats, .strangers] s (s.bindRequest n r).2 := by
  unfold State.bindRequest
  repeat' split
  all_goals first | exact frame_refl | exact frame_bindSeat _ _

theorem frame_unbindRequest (n : Nat) :
    ChangesOnly (.floorCount :: .reminders :: .lamps :: acceptBlocks) s (s.unbindRequest n).2 := by
  have h : ∀ i, ChangesOnly (.floorCount :: .reminders :: .lamps :: acceptBlocks) s (s.unbindSeat i) :=
    fun i => frame_mono (frame_unbindSeat i) (by decide)
  have k : ∀ i, ChangesOnly (.floorCount :: .reminders :: .lamps :: acceptBlocks) s (s.unbindSeat i).evalOutputs :=
    fun i => frame_outputs (h i) (by decide) (by decide)
  unfold State.unbindRequest withOutputs
  split
  · split
    · dsimp only
      exact k _
    · exact frame_refl
  · exact frame_refl

/-- What any request may change at most. -/
theorem frame_perform (p : PortId) (ts : TagState) (args : List Byte) (r : Request) :
    ChangesOnly requestBlocks s (s.perform p ts args r).2 := by
  have out : ∀ {W : List Block} {x : Reply × State}, ChangesOnly W s x.2 → (∀ b ∈ W, b ∈ requestBlocks) →
      ChangesOnly requestBlocks s (withOutputs x).2 :=
    fun h hs => frame_withOutputs (frame_mono h hs) (by decide) (by decide)
  cases r with
  | summary =>
    exact frame_mono (frame_clearAttention p) (by decide)
  | readRoster =>
    exact frame_readRosterRequest _ _ _
  | readSeat =>
    exact frame_readSeatRequest _
  | readLink =>
    exact frame_readLinkRequest _
  | readStrangers =>
    exact frame_refl
  | readParam =>
    exact frame_readParamRequest _
  | ack =>
    exact frame_mono (frame_ackRequest _ _ _ _) (by decide)
  | setView =>
    exact frame_mono (frame_setViewRequest _ _ _ _ _ _) (by decide)
  | setRemind =>
    exact frame_mono (frame_setRemindRequest _ _) (by decide)
  | setMask =>
    exact frame_mono (frame_setMaskRequest _ _) (by decide)
  | clearOverflow =>
    intro b h
    cases b <;> first | rfl | exact absurd (by decide) h
  | mark =>
    exact frame_mono (frame_markRequest _) (by decide)
  | tagFirst =>
    exact frame_mono (frame_tagFirst _ _) (by decide)
  | tagLast =>
    exact frame_mono (frame_tagLast _ _ _) (by decide)
  | quiet =>
    exact frame_mono (frame_seatOrRange _ _ _ fun _ _ => frame_quietRule _) (by decide)
  | unquiet =>
    exact out (frame_seatOrRange _ _ _ fun _ _ => frame_unquietRule _) (by decide)
  | hold =>
    exact out (frame_seatOrRange _ _ _ fun _ _ => frame_holdRule _) (by decide)
  | free =>
    exact frame_mono (frame_seatOrRange _ _ _ fun _ _ => frame_freeRule _) (by decide)
  | swap =>
    exact out (frame_seatOrRange _ _ _ fun _ _ => frame_swapRule _) (by decide)
  | grant =>
    exact frame_mono (frame_grantRequest _) (by decide)
  | revoke =>
    exact out (frame_seatOrRange _ _ _ fun _ _ => frame_revokeRule _) (by decide)
  | revokeAll =>
    exact out (frame_overSeats _ _ fun _ _ => frame_revokeRule _) (by decide)
  | bind =>
    exact frame_mono (frame_bindRequest _ _) (by decide)
  | unbind =>
    exact frame_mono (frame_unbindRequest _) (by decide)
  | setParam =>
    exact frame_mono (frame_setParamRequest _ _) (by decide)
  | setLamp =>
    exact frame_mono (frame_setLampRequest _) (by decide)
  | restart =>
    exact frame_refl

end Sys2Proof.Machine.Laws
end

