-- ==== Sys2Proof/Laws/Console.lean ====
section
/-! SUPPORT. How a request reaches its action: the code of each request names it, an arrival at a port that sends
nothing is taken at once, and the checks of R150 decide between a refusal and the action. -/

namespace Sys2Proof.Machine.Laws

open Sys2Proof Sys2Proof.Machine

variable {s t : State} {p : PortId} {r : Request} {args : List Byte}

theorem requestOfCode_code (r : Request) : requestOfCode r.code = some r := by cases r <;> decide

theorem role_ne_off_of_permits {x : Role} (h : r.permits x = true) : x ≠ .off := by
  rintro rfl; cases r <;> exact absurd h (by decide)

theorem deaf_eq_false (h : s.ports[p].role ≠ .off) (hb : s.ports[p].inBreak = false) : s.ports[p].deaf = false := by
  simp [PortRec.deaf, h, hb, -Fin.getElem_fin]

theorem arrive_deaf (h : s.ports[p].deaf = true) (a : Arrival) : s.arrive p a = s := by
  simp [State.arrive, h, -Fin.getElem_fin]

theorem arrive_taken (h : s.ports[p].deaf = false) (hr : s.ports[p].response = none) (a : Arrival) :
    s.arrive p a = s.take p a := by
  simp [State.arrive, h, hr, -Fin.getElem_fin]

theorem arrive_waits (h : s.ports[p].deaf = false) (hr : s.ports[p].response.isSome = true)
    (hw : s.ports[p].waiting = none) (a : Arrival) :
    s.arrive p a = s.modPort p fun q => { q with waiting := some a } := by
  have : s.ports[p].response ≠ none := by intro e; rw [e] at hr; exact absurd hr (by decide)
  simp [State.arrive, h, this, hw, -Fin.getElem_fin]

theorem arrive_dropped (h : s.ports[p].deaf = false) (hr : s.ports[p].response.isSome = true)
    (hw : s.ports[p].waiting.isSome = true) (a : Arrival) :
    s.arrive p a = s.modPort p fun q => { q with overrun := true } := by
  have h1 : s.ports[p].response ≠ none := by intro e; rw [e] at hr; exact absurd hr (by decide)
  have h2 : s.ports[p].waiting ≠ none := by intro e; rw [e] at hw; exact absurd hw (by decide)
  simp [State.arrive, h, h1, h2, -Fin.getElem_fin]

theorem take_request (r : Request) (args : List Byte) : s.take p (.request r.code args) = s.takeRequest p r args := by
  simp [State.take, requestOfCode_code]

/-- The row of a request is its arrival. -/
theorem exec_row (r : Request) (p : PortId) (args : List Byte) (s : State) :
    exec (r.row p args) s = .next (s.arriveRequest p r args) := by cases r <;> rfl

/-- An admitted request with the right number of arguments is performed and answered. -/
theorem arriveRequest_admitted (h : Admitted s p r) (ha : args.length = r.argCount) :
    s.arriveRequest p r args =
      (let a := (s.setTag p .none).perform p s.ports[p].tag args r
       a.2.respond p r.code a.1) := by
  obtain ⟨h1, h2, h3, h4⟩ := h
  have hd := deaf_eq_false (role_ne_off_of_permits h4) h2
  have hp : s.precheck p r args = none := by
    simp only [State.precheck, h1, h4, ha]
    simp
  simp [State.arriveRequest, arrive_taken hd h3, take_request, State.takeRequest, hp, -Fin.getElem_fin]

/-- A request refused at checks 1, 3 or 4 of R150 is answered, and that is all. -/
theorem arriveRequest_refused (hd : s.ports[p].deaf = false) (hr : s.ports[p].response = none) {c : Completion}
    (h : s.precheck p r args = some c) : s.arriveRequest p r args = (s.setTag p .none).respond p r.code (.bare c) := by
  simp [State.arriveRequest, arrive_taken hd hr, take_request, State.takeRequest, h, -Fin.getElem_fin]

/-- Clearing the tag state and answering, with nothing done between. -/
theorem respond_setTag (code : Byte) (c : Completion) (result : List Byte) :
    (s.setTag p .none).respond p code ⟨c, result, false⟩ = s.answered p code c result := by
  simp only [State.setTag, State.respond, State.modPort, State.answered, PortRec.answering, get_set_self, set_set_self]

end Sys2Proof.Machine.Laws
end

