-- ==== Sys2Proof/Tests/Slice0.lean ====
section
/-! SUPPORT. Tests: the well-formedness smoke, values the manual's examples give, and for every statement with
hypotheses a concrete state and operands that meet them (the theorems named `test_meets_<statement>`). -/

namespace Sys2Proof.Tests

open Sys2Proof Sys2Proof.Machine

/- One theorem at a time: each evaluation in the kernel waits for the ones before it, on a thread of its own. -/
set_option Elab.async false

/-! ## Well-formedness: each check refuses an ill-formed command -/

theorem test_wellFormed_accepts :
    (Instr.bind 1 [1, 0, 0, 3, 0xE9]).wellFormed = true ∧ (Instr.unknownRequest 0 0x99 []).wellFormed = true ∧
    (Instr.strangerAgingExpiry 1001).wellFormed = true ∧ (Instr.summary 0 (List.replicate 59 0)).wellFormed = true := by
  decide +kernel

theorem test_wellFormed_refuses_long_arguments :
    (Instr.summary 0 (List.replicate 60 0)).wellFormed = false ∧
    (Instr.unknownRequest 0 0x99 (List.replicate 60 0)).wellFormed = false := by decide +kernel

theorem test_wellFormed_refuses_known_code : (Instr.unknownRequest 0 0x10 []).wellFormed = false := by decide +kernel

theorem test_wellFormed_refuses_invalid_radio :
    (Instr.strangerAgingExpiry 0).wellFormed = false ∧ (Instr.strangerAgingExpiry 0xFFFFFFFF).wellFormed = false := by
  decide +kernel

theorem test_wellFormed_refuses_long_arrival :
    (Instr.arrivalWaiting 0 (.request 0x10 (List.replicate 60 0))).wellFormed = false := by decide +kernel

/-! ## The table gives no bits -/

theorem test_no_word_spells_a_command : decodeTableWord 8 0x5A = none := rfl

theorem test_withFetchWord : State.reset.withFetchWord 8 0x5A = State.reset := rfl

/-! ## Values the manual's examples give -/

/-- R170's example: the CRC of "123456789". -/
theorem test_crc : crc16 [0x31, 0x32, 0x33, 0x34, 0x35, 0x36, 0x37, 0x38, 0x39] = 0x29B1 := by decide +kernel

/-- R72's table. -/
theorem test_smooth : smooth (-800) (-950) = -818 ∧ smooth (-818) (-700) = -804 ∧ smooth (-804) (-810) = -804 ∧
    smooth (-1195) (-1200) = -1195 := by decide +kernel

/-- R59's and R60's examples. -/
theorem test_battery_arithmetic : averageDrain 1 1 = 1 ∧ averageDrain 4095 4080 = 4091 ∧
    remainingMinutes 0 40 = 0 ∧ remainingMinutes 63 1 = 999 := by decide +kernel

/-- R151's examples: 12..12, 12..16 and 9..32 are allowed; 12..19, 9..30 and 20..17 are not. -/
theorem test_ranges : rangeAllowed 11 11 = true ∧ rangeAllowed 11 15 = true ∧ rangeAllowed 8 31 = true ∧
    rangeAllowed 11 18 = false ∧ rangeAllowed 8 29 = false ∧ rangeAllowed 19 16 = false := by decide +kernel

/-! ## States -/

/-- READY, every link UP; the ports are CHAIR, DESK, MONITOR, OFF. -/
def ready : State :=
  { State.reset with
    part := .ready
    clock := 1000
    initTimer := none
    links := State.reset.links.map fun r => { r with state := .up, silence := some 15, slot := some 50 } }

/-- Seat 1 is bound to 1001 and ACTIVE, best heard on link 2. -/
def active : State :=
  { ready with
    seats := ready.seats.set 0
      { radio := some 1001, state := .active, lastBoot := some 3, lastFrame := some 100, bestLink := some 2,
        copies := 1, lastAudio := some .muted, lastHeard := some 990, quiet := false }
    signal := ready.signal.set 0 { Signal.fresh with strength := some (-800), history := [true], lossTimer := some 12 }
    battery := ready.battery.set 0 { Battery.fresh 40 with level := some 100, ref := 100, minutes := 40 } }

/-- `active` with another state of seat 1. -/
def inState (x : SeatState) : State := active.setSeatState 0 x

/-- A frame of radio 1001: boot count, frame count, format level, audio state. -/
def micFrame (boot : BitVec 8) (frame : BitVec 16) (format audio : Byte) : MicPayload :=
  ⟨1001, boot, frame, format, 0, 99, audio, 0⟩

/-- An open frame of a payload, heard by link 2 at −80 dBm. -/
def opened (m : MicPayload) : OpenFrame := ⟨m, -80, 2, [2], 6⟩

/-- The state with one open frame. -/
def withOpen (s : State) (m : MicPayload) : State := { s with openFrames := [opened m] }

/-- A port that sends a response. -/
def sending (s : State) (p : PortId) (r : Response) : State := s.modPort p fun q => { q with response := some r }

/-- A response without result bytes. -/
def answer (restarts : Bool) : Response := ⟨0x3F, .done, false, [], restarts⟩

/-- The hypotheses of `Admitted`, as a test that evaluates. -/
def meets (s : State) (p : PortId) (r : Request) : Bool :=
  s.part == .ready && !s.ports[p].inBreak && s.ports[p].response.isNone && r.permits s.ports[p].role

theorem admitted_of_meets {s : State} {p : PortId} {r : Request} (h : meets s p r = true) : Admitted s p r := by
  simp only [meets, Bool.and_eq_true, beq_iff_eq, Bool.not_eq_true', Option.isNone_iff_eq_none] at h
  exact ⟨h.1.1.1, h.1.1.2, h.1.2, h.2⟩

/-- The DESK, at port 1, and the CHAIR, at port 0, may make their requests in `active`. -/
theorem test_meets_admitted :
    (∀ r, r.permits .desk = true → Admitted active 1 r) ∧ (∀ r, r.permits .chair = true → Admitted active 0 r) := by
  constructor
  · intro r h; exact admitted_of_meets (by cases r <;> first | (exact absurd h (by decide)) | decide +kernel)
  · intro r h; exact admitted_of_meets (by cases r <;> first | (exact absurd h (by decide)) | decide +kernel)

/-! ## Steps, power, restart -/

theorem test_meets_StepTakesFrontCommand :
    ({ ready with pending := [.chamberClockTick] } : State).pending = .chamberClockTick :: [] := rfl

theorem test_meets_CommandsAnswerAndKeepQueues :
    ready.pending = [] ∧ ready.rxInput = [] ∧
    ({ ready with rxInput := [.console 0 .idle] } : State).rxInput = .console 0 .idle :: [] := ⟨rfl, rfl, rfl⟩

theorem test_meets_RolesComeFromStraps :
    (let straps : Vector Strap 4 := #v[⟨true, true⟩, ⟨true, true⟩, ⟨true, false⟩, ⟨false, true⟩]
     straps[(0 : PortId)] = ⟨true, true⟩ ∧ (∀ q : PortId, q < 0 → straps[q] ≠ ⟨true, true⟩) ∧
     straps[(1 : PortId)] = ⟨true, true⟩ ∧ (∃ q : PortId, q < 1 ∧ straps[q] = ⟨true, true⟩) ∧
     straps[(2 : PortId)] = ⟨true, false⟩ ∧ straps[(3 : PortId)] = ⟨false, true⟩) ∧
    (#v[⟨false, false⟩, ⟨false, false⟩, ⟨false, false⟩, ⟨false, false⟩] : Vector Strap 4)[(3 : PortId)] =
      ⟨false, false⟩ := by decide +kernel

theorem test_meets_RolesOnlyAtPowerOn :
    (∀ straps, Instr.chamberClockTick ≠ .powerOn straps) ∧
    exec .chamberClockTick ready = .next { ready with clock := ready.clock + 1 } := ⟨by simp, rfl⟩

/-- One link disabled, another held at its active level. -/
def startingLinks : State :=
  (State.reset.modLink 0 fun r => { r with enable := false, state := .disabled }).modLink 1 fun r =>
    { r with lineActive := true }

theorem test_meets_InitialisationAndClock :
    startingLinks.part = .starting ∧ startingLinks.links[(0 : LinkId)].enable = false ∧
    startingLinks.links[(1 : LinkId)].enable = true ∧ ready.part = .ready := by decide +kernel

theorem test_meets_RestartIsAnswered : Admitted active 1 .restart := test_meets_admitted.1 _ rfl

/-- The DESK sends a RESTART response; its reminder timer runs and lamp 0 is ON. -/
def restartSent : State :=
  ((sending active 1 (answer true)).modReminder 1 fun r => { r with staged := 2, active := 3, timer := some 30 }).modLamp
    0 fun m => { m with mode := .on }

theorem test_meets_RestartBegins :
    restartSent.ports[(1 : PortId)].response = some (answer true) ∧ (answer true).restarts = true ∧
    restartSent.bound 0 = true ∧ restartSent.bound 1 = false ∧
    restartSent.reminders[(1 : PortId)].timer.isSome = true ∧ restartSent.lamps[(1 : LampId)].mode ≠ .on := by
  decide +kernel

/-! ## Console ports -/

/-- The CHAIR's port sends, and its waiting place is empty or full. -/
def sendingOnly : State := sending active 0 (answer false)
def sendingFull : State := sendingOnly.modPort 0 fun q => { q with waiting := some (.badFrame none) }

theorem test_meets_ArrivalsWaitOrDrop :
    (sendingOnly.ports[(0 : PortId)].role ≠ .off ∧ sendingOnly.ports[(0 : PortId)].inBreak = false ∧
      sendingOnly.ports[(0 : PortId)].response.isSome = true ∧ sendingOnly.ports[(0 : PortId)].waiting = none) ∧
    sendingFull.ports[(0 : PortId)].role ≠ .off ∧ sendingFull.ports[(0 : PortId)].inBreak = false ∧
      sendingFull.ports[(0 : PortId)].response.isSome = true ∧
      sendingFull.ports[(0 : PortId)].waiting.isSome = true := by decide +kernel

/-- A port with a frame under assembly. -/
def assembling (a : Assembly) : State := active.setPortRx 0 a

theorem test_meets_BadFramesAnswered :
    active.ports[(0 : PortId)].role ≠ .off ∧ active.ports[(0 : PortId)].inBreak = false ∧
    active.ports[(0 : PortId)].response = none ∧
    (assembling .started).ports[(0 : PortId)].response = none ∧
    (assembling .started).ports[(0 : PortId)].rx = .started ∧
    (assembling (.body 3 [0x10])).ports[(0 : PortId)].rx = .body 3 [0x10] := by decide +kernel

theorem test_meets_RequestsRefusedInOrder :
    State.reset.ports[(0 : PortId)].role ≠ .off ∧ State.reset.ports[(0 : PortId)].inBreak = false ∧
    State.reset.ports[(0 : PortId)].response = none ∧ State.reset.part = .starting ∧ Request.mark ≠ .summary ∧
    active.part = .ready ∧ Request.permits .bind active.ports[(0 : PortId)].role = false ∧
    Request.permits .mark active.ports[(0 : PortId)].role = true ∧ [(7 : Byte)].length ≠ Request.argCount .mark ∧
    (0x99 : Byte) ∉ Config.requestCodes := by decide +kernel

theorem test_meets_ResponseEnds :
    sendingOnly.ports[(0 : PortId)].response = some (answer false) ∧ (answer false).restarts = false ∧
    sendingOnly.ports[(0 : PortId)].waiting = none ∧
    sendingFull.ports[(0 : PortId)].response = some (answer false) ∧
    sendingFull.ports[(0 : PortId)].waiting = some (.badFrame none) ∧ sendingFull.ports[(0 : PortId)].role ≠ .off ∧
    sendingFull.ports[(0 : PortId)].inBreak = false := by decide +kernel

theorem test_meets_PortBreaks_first :
    active.ports[(0 : PortId)].role ≠ .off ∧ active.ports[(0 : PortId)].inBreak = false ∧ MarkerNeverFirst active ∧
    (∀ r, active.ports[(0 : PortId)].response = some r → r.restarts = false) := by
  refine ⟨by decide +kernel, by decide +kernel, ?_, ?_⟩
  · intro p n rest h; exact absurd (show active.queue = [] from rfl) (by rw [h]; simp)
  · intro r h; exact absurd (show active.ports[(0 : PortId)].response = none by decide +kernel) (by rw [h]; simp)

theorem test_meets_PortBreaks_others :
    restartSent.ports[(1 : PortId)].role ≠ .off ∧ restartSent.ports[(1 : PortId)].inBreak = false ∧
    restartSent.ports[(1 : PortId)].response = some (answer true) ∧
    (active.modPort 0 fun q => { q with inBreak := true }).ports[(0 : PortId)].inBreak = true := by decide +kernel

/-! ## Antenna links -/

/-- `active` with one link in another state. -/
def linkIn (x : LinkState) : State := active.modLink 0 fun r => { r with state := x }

/-- Every link but link 0 is DOWN. -/
def loneLink : State :=
  { active with links := Vector.ofFn fun l => { active.links[l] with state := if l = 0 then .up else .down } }

/-- Sixteen open frames of sixteen radios. -/
def openTable : List OpenFrame := (List.range 16).map fun k => opened { micFrame 3 101 3 1 with radio := 2000 + k }

theorem test_meets_CopyOpensFrame :
    (∀ o ∈ active.openFrames, OpenFrame.key o ≠ MicPayload.key (micFrame 3 101 3 1)) ∧ active.part = .ready ∧
    active.links[(0 : LinkId)].state = .up ∧ (∃ m : LinkId, m ≠ 0 ∧ active.links[m].state = .up) ∧
    (linkIn .down).links[(0 : LinkId)].state = .down ∧ (linkIn .silent).links[(0 : LinkId)].state = .silent ∧
    (∃ m : LinkId, m ≠ 0 ∧ (linkIn .down).links[m].state = .up) ∧
    openTable.length = 16 ∧ (openTable.map OpenFrame.key).Nodup ∧
    (∀ o ∈ openTable, OpenFrame.key o ≠ MicPayload.key (micFrame 3 101 3 1)) ∧
    loneLink.links[(0 : LinkId)].state = .up ∧ (∀ m : LinkId, m ≠ 0 → loneLink.links[m].state ≠ .up) := by
  decide +kernel

/-- A full table, on an UP link with others UP and alone. -/
theorem test_meets_CopyOpensFrame_full :
    openTable.head? = some (opened { micFrame 3 101 3 1 with radio := 2000 }) ∧
    ({ active with openFrames := openTable }.openFrames.length = 16 ∧
      ∃ m : LinkId, m ≠ 0 ∧ { active with openFrames := openTable }.links[m].state = .up) ∧
    (∀ m : LinkId, m ≠ 0 → { loneLink with openFrames := openTable }.links[m].state ≠ .up) ∧
    (linkIn .down).part = .ready ∧ (linkIn .silent).part = .ready := by decide +kernel

theorem test_meets_CopyJoinsFrame :
    (let s := withOpen active (micFrame 3 101 3 1)
     s.part = .ready ∧ s.links[(0 : LinkId)].state = .up ∧ s.openFrames = [] ++ opened (micFrame 3 101 3 1) :: [] ∧
     OpenFrame.key (opened (micFrame 3 101 3 1)) = MicPayload.key (micFrame 3 101 3 1) ∧
     s.links[(1 : LinkId)].state = .up ∧ (1 : LinkId) ≠ 0 ∧ (1 : LinkId) ∉ (opened (micFrame 3 101 3 1)).heard) ∧
    (∀ m : LinkId, loneLink.links[m].state = .up → m ≠ 0 → m ∈ (opened (micFrame 3 101 3 1)).heard) := by
  decide +kernel

theorem test_meets_StatusFrames_and_BadFrames :
    active.part = .ready ∧ active.links[(0 : LinkId)].state = .up ∧
    (linkIn .down).links[(0 : LinkId)].state = .down ∧ (linkIn .broken).links[(0 : LinkId)].state = .broken ∧
    ((linkIn .silent).setSlot (.link 0) (.raised ⟨.warning, .listed, 7, .none⟩)).slot (.link 0) =
      .raised ⟨.warning, .listed, 7, .none⟩ ∧
    (active.setLinkRx 0 .started).links[(0 : LinkId)].rx ≠ .hunting ∧
    active.links[(0 : LinkId)].silence.isSome = true := by decide +kernel

theorem test_meets_LinkBreaks :
    active.part = .ready ∧ active.links[(0 : LinkId)].state = .up ∧ (linkIn .down).links[(0 : LinkId)].state ≠ .up ∧
    (let s := (linkIn .broken).modLink 0 fun r => { r with breakStart := some 990 }
     s.links[(0 : LinkId)].state = .broken ∧ s.links[(0 : LinkId)].breakStart = some 990) := by decide +kernel

/-! ## Settled frames -/

/-- A SYNC of seat 1 on its `n`th issue, its window running or its reissue due. -/
def flight (n : Nat) (due : Bool) : InFlight := ⟨1, .dark, .free, n, if due then none else some 600, due⟩

/-- The one open frame of a table stands in it. -/
theorem stands_withOpen (s : State) (m : MicPayload) : Stands (withOpen s m) (opened m) :=
  ⟨List.mem_singleton.2 rfl, fun _ h _ => List.mem_singleton.1 h⟩

/-- A radio that no seat has. -/
def strange : MicPayload := { micFrame 3 101 3 1 with radio := 5000 }

/-- A stranger with this radio ID. -/
def stranger (r : RadioId) : Stranger := ⟨r, 3, 3, 900, 950, -80, 600⟩

/-- Eight strangers; the third and the sixth were heard longest ago. -/
def fullList : List Stranger :=
  [stranger 6000, stranger 6001] ++ { stranger 6002 with lastHeard := 900 } ::
    ([stranger 6003, stranger 6004, { stranger 6005 with lastHeard := 900 }] ++ [stranger 6006, stranger 6007])

theorem test_meets_StrangersKept :
    Stands (withOpen active strange) (opened strange) ∧
    (strange.radio ≠ 0 ∧ strange.radio ≠ 0xFFFFFFFF ∧ (∀ i : SeatId, active.seats[i].radio ≠ some strange.radio) ∧
      (∀ x ∈ active.strangers, x.radio ≠ strange.radio) ∧ active.strangers.length < 8 ∧
      (∃ x ∈ [stranger 5000], x.radio = strange.radio) ∧
      (∀ x ∈ fullList, x.radio ≠ strange.radio) ∧ fullList.length = 8 ∧ (fullList.map (·.radio)).Nodup ∧
      (∀ y ∈ fullList.take 2, (active.clock - y.lastHeard).toNat < (active.clock - 900).toNat) ∧
      (∀ y ∈ fullList.drop 3, (active.clock - y.lastHeard).toNat ≤ (active.clock - 900).toNat)) :=
  ⟨stands_withOpen _ _, by decide +kernel⟩

/-- Radio 1001 is bound to seat 1 alone, in `active` and in its copies. -/
theorem boundTo_seat1 (s : State) (m : MicPayload) (hs : ∀ j : SeatId, s.seats[j].radio = active.seats[j].radio)
    (hm : m.radio = 1001) : BoundTo (withOpen s m) (opened m).payload.radio 0 := by
  have h : ∀ j : SeatId, (withOpen s m).seats[j].radio = some 1001 ↔ j = 0 := by
    intro j
    rw [show (withOpen s m).seats[j].radio = active.seats[j].radio from hs j]
    revert j; decide +kernel
  rw [show (opened m).payload.radio = (1001 : RadioId) from hm]
  exact ⟨by decide, by decide, (h 0).2 rfl, fun j hj => (h j).1 hj⟩

theorem test_meets_RepeatedFramesDiscarded :
    BoundTo (withOpen active (micFrame 3 100 3 1)) (opened (micFrame 3 100 3 1)).payload.radio 0 ∧
    active.seats[(0 : SeatId)].lastBoot = some (3 : BitVec 8) ∧ active.seats[(0 : SeatId)].state = .active ∧
    active.seats[(0 : SeatId)].lastFrame = some (100 : BitVec 16) ∧ ((100 : BitVec 16) - 100).toNat = 0 ∧
    32768 ≤ ((32868 : BitVec 16) - 100).toNat ∧ (inState .refused).seats[(0 : SeatId)].state = .refused :=
  ⟨boundTo_seat1 active _ (fun _ => rfl) rfl, by decide +kernel⟩

theorem test_meets_NormalFrameAccepted :
    BoundTo (withOpen active (micFrame 3 101 3 1)) (opened (micFrame 3 101 3 1)).payload.radio 0 ∧
    active.seats[(0 : SeatId)].state = .active ∧ active.seats[(0 : SeatId)].lastBoot = some (3 : BitVec 8) ∧
    active.seats[(0 : SeatId)].lastFrame = some (100 : BitVec 16) ∧ 0 < ((101 : BitVec 16) - 100).toNat ∧
    ((32867 : BitVec 16) - 100).toNat < 32768 ∧ active.signal[(0 : SeatId)].strength = some (-800) ∧
    (micFrame 3 101 3 1).audio ≠ 4 ∧ (micFrame 3 101 3 4).audio = 4 ∧
    (inState .standby).seats[(0 : SeatId)].state = .standby ∧ (inState .lost).seats[(0 : SeatId)].state = .lost :=
  ⟨boundTo_seat1 active _ (fun _ => rfl) rfl, by decide +kernel⟩

/-- An IN_FLIGHT SYNC beside a frame whose order echo has its tag, or another. -/
theorem test_meets_NormalFrameAccepted_echo :
    (∀ h, QEntry.sync 0 (.inFlight h) ∉ ([] ++ [.sync 0 .queued] : List QEntry)) ∧
    ({ micFrame 3 101 3 1 with echo := 0xF1 }.echo.setWidth 4 = (flight 1 false).tag ∧
      (micFrame 3 101 3 1).echo.setWidth 4 ≠ (flight 1 false).tag) ∧
    (∀ g, QEntry.sync 0 (.inFlight g) ∉ active.queue) := by
  refine ⟨by simp, by decide +kernel, ?_⟩
  intro g; rw [show active.queue = [] from rfl]; simp

/-- The Gauge's three cases, the Monitor's three and the Supervisor's premises, each at its edge. -/
theorem test_meets_EvaluatorsReadFrames :
    (active.battery[(0 : SeatId)].level ≠ none ∧ (inState .awaiting).battery[(1 : SeatId)].level = none) ∧
    (35 + 64 ≤ 99 ∧ 67 + 32 ≤ 99 ∧ ¬36 + 64 ≤ 99 ∧ ¬68 + 32 ≤ 99) ∧
    (4800 ≤ min 65535 (4798 + 1 * 2 * 1) ∧ min 65535 (4797 + 1 * 2 * 1) < 4800 ∧ 99 < 100 ∧ 99 ≤ 99) ∧
    ((-851 : Int) < 10 * active.params.weakThreshold ∧ 10 * active.params.weakThreshold ≤ (-850 : Int) ∧
      (-811 : Int) < 10 * (active.params.weakThreshold + 4) ∧ 10 * (active.params.weakThreshold + 4) ≤ (-810 : Int)) ∧
    (active.slot (.seat 0 .voiceInMute) = .clear ∧ active.slot (.seat 0 .openNoFloor) = .clear ∧
      active.slot (.seat 0 .floorMuted) = .clear ∧ active.mute[(0 : SeatId)].floor = false ∧
      active.mute[(0 : SeatId)].hold = .none ∧ 0 < active.params.openGrace ∧
      (active.setSlot (.seat 0 .voiceInMute) .qualifying).slot (.seat 0 .voiceInMute) = .qualifying ∧
      (active.setSlot (.seat 0 .openNoFloor) .qualifying).slot (.seat 0 .openNoFloor) ≠ .clear ∧
      (active.setSlot (.seat 0 .floorMuted) .qualifying).slot (.seat 0 .floorMuted) ≠ .clear) := by decide +kernel

theorem test_meets_Appearances :
    BoundTo (withOpen active (micFrame 4 1 2 1)) (opened (micFrame 4 1 2 1)).payload.radio 0 ∧
    BoundTo (withOpen active (micFrame 4 1 6 1)) (opened (micFrame 4 1 6 1)).payload.radio 0 ∧
    active.seats[(0 : SeatId)].state ≠ .vacant ∧ active.seats[(0 : SeatId)].lastBoot ≠ some (4 : BitVec 8) ∧
    (inState .awaiting).seats[(0 : SeatId)].state = .awaiting ∧ (micFrame 4 1 1 1).format.toNat < 2 ∧
    2 ≤ (micFrame 4 1 2 1).format.toNat ∧ (micFrame 4 1 5 4).format.toNat ≤ 5 ∧ 5 < (micFrame 4 1 6 1).format.toNat ∧
    (micFrame 4 1 5 4).audio = 4 :=
  ⟨boundTo_seat1 active _ (fun _ => rfl) rfl, boundTo_seat1 active _ (fun _ => rfl) rfl, by decide +kernel⟩

/-! ## Rosters that agree with the slots -/

/-- A source is a seat's or a link's: a fact that holds of both holds of it. -/
theorem forall_source {P : Source → Prop} (hs : ∀ (i : SeatId) (k : SeatKind), P (.seat i k))
    (hl : ∀ l : LinkId, P (.link l)) : ∀ src, P src
  | .seat i k => hs i k
  | .link l => hl l

/-- Every condition slot of `active` is CLEAR. -/
theorem active_slot : ∀ src, active.slot src = .clear :=
  forall_source (fun i k => by cases k <;> (revert i; decide +kernel)) (by decide +kernel)

/-- The slot is not RAISED, or QUIETED: no entry and no listing of a condition rests on it. -/
def calm : Slot → Bool
  | .raised r => decide (r.listing = .quieted)
  | _ => true

theorem not_calm {r : Raised} {x : Slot} (hx : x = .raised r) (hr : r.listing ≠ .quieted) : calm x ≠ true := by
  subst hx; simp [calm, hr]

/-- With every slot calm and no LIVE entry, entries and slots agree. -/
theorem entriesMatch_of_calm {s : State} (nodup : (s.alerts.roster.map (·.source)).Nodup)
    (dead : ∀ e ∈ s.alerts.roster, e.phase ≠ .live) (slots : ∀ src, calm (s.slot src) = true) : EntriesMatch s :=
  ⟨nodup, fun e he hl => absurd hl (dead e he),
    fun src _ h hl => absurd (slots src) (not_calm h (by rw [hl]; simp)),
    fun src _ h hl => absurd (slots src) (not_calm h (by rw [hl]; simp))⟩

/-- With one RAISED condition that is not QUIETED, entries and slots agree where its entry, alone LIVE, does. -/
theorem entriesMatch_of_one {s : State} (a : Source) (r : Raised) (here : s.slot a = .raised r)
    (nodup : (s.alerts.roster.map (·.source)).Nodup)
    (live : ∀ e ∈ s.alerts.roster, e.phase = .live → e.source = a ∧ r.listing = .listed ∧ r.severity = e.severity)
    (listed : r.listing = .listed → ∃ e ∈ s.alerts.roster, e.source = a ∧ e.phase = .live)
    (waiting : r.listing = .waiting → ∀ e ∈ s.alerts.roster, e.source ≠ a)
    (slots : ∀ src, src ≠ a → calm (s.slot src) = true) : EntriesMatch s := by
  have only : ∀ src r', s.slot src = .raised r' → r'.listing ≠ .quieted → src = a ∧ r' = r := by
    intro src r' h hq
    have e : src = a := Classical.byContradiction fun hne => not_calm h hq (slots src hne)
    subst e
    exact ⟨rfl, Slot.raised.inj (h.symm.trans here)⟩
  refine ⟨nodup, fun e he hl => ?_, fun src r' h hl => ?_, fun src r' h hw => ?_⟩
  · obtain ⟨h1, h2, h3⟩ := live e he hl
    exact ⟨r, h1 ▸ here, h2, h3⟩
  · obtain ⟨h1, h2⟩ := only src r' h (by rw [hl]; simp)
    subst h1 h2
    exact listed hl
  · obtain ⟨h1, h2⟩ := only src r' h (by rw [hw]; simp)
    subst h1 h2
    exact waiting hw

/-! ## Timers of seats -/

/-- Link 2, the best link of seat 1, is SILENT with RECEIVER_LINK raised. -/
def bestLinkSilent : State :=
  (active.modLink 2 fun r => { r with state := .silent }).setSlot (.link 2) (.raised ⟨.warning, .listed, 7, .none⟩)

theorem test_meets_LossTimerExpires :
    active.signal[(0 : SeatId)].lossTimer.isSome = true ∧ active.seats[(0 : SeatId)].bestLink = some 2 ∧
    active.links[(2 : LinkId)].state = .up ∧ bestLinkSilent.signal[(0 : SeatId)].lossTimer.isSome = true ∧
    bestLinkSilent.seats[(0 : SeatId)].bestLink = some 2 ∧ bestLinkSilent.links[(2 : LinkId)].state = .silent ∧
    (bestLinkSilent.slot (.link 2)).isRaised = true := by decide +kernel

/-- Seat 1 is attributed to link 2 and its recovery grace runs. -/
def inGrace : State := (inState .lost).modSignal 0 fun g => { g with cause := .link 2, grace := some 12, lossTimer := none }

theorem test_meets_RecoveryGraceExpires :
    inGrace.signal[(0 : SeatId)].grace.isSome = true ∧ inGrace.signal[(0 : SeatId)].cause = .link 2 := by decide +kernel

/-- Every mute timer of seat 1 runs, with VOICE_IN_MUTE and MUTE_CHATTER raised. -/
def muteTimers : State :=
  ((active.modMute 0 fun m =>
    { m with voiceQualify := some 20, voiceEnd := some 30, openGrace := some 10, floorMutedQualify := some 50,
             chatterWindow := some 100, toggles := 2 }).setSlot (.seat 0 .voiceInMute)
    (.raised ⟨.notice, .listed, 7, .none⟩)).setSlot (.seat 0 .muteChatter) (.raised ⟨.notice, .listed, 7, .none⟩)

theorem test_meets_QualifyTimersExpire_and_EndTimersExpire :
    muteTimers.mute[(0 : SeatId)].voiceQualify.isSome = true ∧ muteTimers.mute[(0 : SeatId)].openGrace.isSome = true ∧
    muteTimers.mute[(0 : SeatId)].floorMutedQualify.isSome = true ∧
    muteTimers.mute[(0 : SeatId)].voiceEnd.isSome = true ∧
    muteTimers.mute[(0 : SeatId)].chatterWindow.isSome = true ∧
    (muteTimers.slot (.seat 0 .voiceInMute)).isRaised = true ∧
    (muteTimers.slot (.seat 0 .muteChatter)).isRaised = true ∧ 2 ≤ muteTimers.mute[(0 : SeatId)].toggles ∧
    ¬2 ≤ (muteTimers.modMute 0 fun m => { m with toggles := 1 }).mute[(0 : SeatId)].toggles := by decide +kernel

/-- A full roster of ENDED entries, URGENT, but for the last: NOTICE, in this phase. -/
def fullRoster (phase : Phase) : List Entry :=
  ((List.range 47).map fun k =>
    { tag := k + 1, source := .seat (Fin.ofNat 192 (k + 1)) .battery, severity := .urgent, phase := .ended 995,
      stamp := 900, rank := k + 1, acks := noPorts, detail := .battery 10 5 40 }) ++
  [{ tag := 48, source := .seat 48 .battery, severity := .notice, phase := phase, stamp := 900, rank := 48,
     acks := noPorts, detail := .battery 10 5 40 }]

/-- The ENDED entry of seat 1's VOICE_IN_MUTE. -/
def endedVoice : Entry := ⟨9, .seat 0 .voiceInMute, .notice, .ended 995, 900, 9, noPorts, .audio .muted⟩

/-- The three mute conditions of seat 1 qualify; a roster, and the BATTERY slot of seat 49 as given. -/
def qualifying (es : List Entry) (x : Slot) : State :=
  let s := ((((active.modMute 0 fun m =>
      { m with voiceQualify := some 20, openGrace := some 10, floorMutedQualify := some 50 }).setSlot
    (.seat 0 .voiceInMute) .qualifying).setSlot (.seat 0 .openNoFloor) .qualifying).setSlot
    (.seat 0 .floorMuted) .qualifying).setSlot (.seat 48 .battery) x
  { s with alerts := { s.alerts with roster := es, rankCounter := 48 } }

theorem qualifying_slot (es : List Entry) (x : Slot) (src : Source) : (qualifying es x).slot src =
    if src = .seat 48 .battery then x
    else if src ∈ [Source.seat 0 .floorMuted, .seat 0 .openNoFloor, .seat 0 .voiceInMute] then .qualifying
    else .clear := by
  have roster : (qualifying es x).slot src = (((((active.modMute 0 fun m =>
      { m with voiceQualify := some 20, openGrace := some 10, floorMutedQualify := some 50 }).setSlot
    (.seat 0 .voiceInMute) .qualifying).setSlot (.seat 0 .openNoFloor) .qualifying).setSlot
    (.seat 0 .floorMuted) .qualifying).setSlot (.seat 48 .battery) x).slot src := by cases src <;> rfl
  rw [roster, Laws.slot_setSlot, Laws.slot_setSlot, Laws.slot_setSlot, Laws.slot_setSlot]
  by_cases h1 : src = .seat 48 .battery
  · rw [if_pos h1, if_pos h1]
  rw [if_neg h1, if_neg h1]
  by_cases h2 : src = .seat 0 .floorMuted
  · subst h2; simp
  by_cases h3 : src = .seat 0 .openNoFloor
  · subst h3; simp
  by_cases h4 : src = .seat 0 .voiceInMute
  · subst h4; simp
  rw [if_neg h2, if_neg h3, if_neg h4, if_neg (by simp [h2, h3, h4])]
  exact active_slot src

/-- But for the BATTERY slot given, its slots are calm. -/
theorem qualifying_calm {es : List Entry} {x : Slot} {src : Source} (h : src = .seat 48 .battery → calm x = true) :
    calm ((qualifying es x).slot src) = true := by
  rw [qualifying_slot]
  split
  · next e => exact h e
  · split <;> rfl

/-- The BATTERY of seat 49, LISTED at NOTICE. -/
def listedBattery : Raised := ⟨.notice, .listed, 900, .none⟩

/-- The premises of a raising: the timers, the last audio state, a seat quiet or not. -/
theorem test_meets_QualifyTimersExpire_raising :
    (let s := qualifying (fullRoster .live) (.raised listedBattery)
     s.mute[(0 : SeatId)].voiceQualify.isSome = true ∧ s.mute[(0 : SeatId)].openGrace.isSome = true ∧
     s.mute[(0 : SeatId)].floorMutedQualify.isSome = true ∧ s.seats[(0 : SeatId)].lastAudio = some .muted ∧
     s.seats[(0 : SeatId)].quiet = false ∧ (s.slot (.seat 0 .floorMuted)).isRaised = false ∧
     s.alerts.rankCounter < Config.maxRank) ∧
    (muteTimers.modSeat 0 fun q => { q with quiet := true }).seats[(0 : SeatId)].quiet = true := by decide +kernel

/-- The rosters of a raising are sound, with a LIVE victim, with an ENDED one, and with an ENDED entry to supersede. -/
theorem test_meets_QualifyTimersExpire_sound :
    RosterSound (qualifying (fullRoster .live) (.raised listedBattery)) ∧
    RosterSound (qualifying (fullRoster (.ended 995)) .clear) ∧ RosterSound (qualifying [endedVoice] .clear) := by
  unfold RosterSound RosterOrder TagsDistinct Entry.ahead
  refine ⟨by decide +kernel, by decide +kernel, by decide +kernel⟩

/-- They agree with the slots. -/
theorem test_meets_QualifyTimersExpire_matched :
    EntriesMatch (qualifying (fullRoster .live) (.raised listedBattery)) ∧
    EntriesMatch (qualifying (fullRoster (.ended 995)) .clear) ∧ EntriesMatch (qualifying [endedVoice] .clear) := by
  refine ⟨entriesMatch_of_one (.seat 48 .battery) listedBattery (by decide +kernel) (by decide +kernel)
      (by decide +kernel) (by decide +kernel) (by decide +kernel) fun src h => qualifying_calm fun e => absurd e h,
    entriesMatch_of_calm (by decide +kernel) (by decide +kernel) fun src => qualifying_calm fun _ => rfl,
    entriesMatch_of_calm (by decide +kernel) (by decide +kernel) fun src => qualifying_calm fun _ => rfl⟩

/-- The premises of a listing attempt: an ENDED entry to supersede, a free place, and in a full roster a victim that is
LIVE or ENDED, or none. -/
theorem test_meets_QualifyTimersExpire_listing :
    (∃ x ∈ [endedVoice], x.source = .seat 0 .voiceInMute ∧ x.isEnded = true) ∧ [endedVoice].length < 48 ∧
    (∀ x ∈ [endedVoice], x.source ≠ .seat 0 .openNoFloor) ∧
    (∀ phase ∈ [Phase.live, .ended 995],
      (fullRoster phase).length = 48 ∧ (∀ x ∈ fullRoster phase, x.source ≠ .seat 0 .voiceInMute) ∧
      ∃ v ∈ fullRoster phase, IsVictim (fullRoster phase) .warning v) ∧
    (∀ x ∈ fullRoster .live, x.source ≠ .seat 0 .voiceInMute ∧ Severity.notice.num ≤ x.severity.num) := by
  unfold IsVictim
  refine ⟨by decide +kernel, by decide +kernel, by decide +kernel, by decide +kernel, by decide +kernel⟩

/-- A condition of seat 1 LISTED at a severity, with its LIVE entry and the timers that end it. -/
def ending (k : SeatKind) (sev : Severity) : State :=
  let s := (active.modMute 0 fun m => { m with voiceEnd := some 30, chatterWindow := some 100, toggles := 1 }).setSlot
    (.seat 0 k) (.raised ⟨sev, .listed, 990, .audio .muted⟩)
  { s with alerts := { s.alerts with
    roster := [⟨7, .seat 0 k, sev, .live, 990, 1, noPorts, .audio .muted⟩]
    rankCounter := 1 } }

theorem ending_slot (k : SeatKind) (sev : Severity) (src : Source) : (ending k sev).slot src =
    if src = .seat 0 k then .raised ⟨sev, .listed, 990, .audio .muted⟩ else .clear := by
  have roster : (ending k sev).slot src = ((active.modMute 0 fun m =>
      { m with voiceEnd := some 30, chatterWindow := some 100, toggles := 1 }).setSlot (.seat 0 k)
    (.raised ⟨sev, .listed, 990, .audio .muted⟩)).slot src := by cases src <;> rfl
  rw [roster, Laws.slot_setSlot, show (active.modMute 0 _).slot src = .clear from active_slot src]

/-- The premises of an ending and of an escalation: a ready roster with a LISTED condition. -/
theorem test_meets_EndTimersExpire_ready :
    ∀ k ∈ [SeatKind.voiceInMute, .muteChatter], ∀ sev ∈ [Severity.notice, .warning], RosterReady (ending k sev) 3 := by
  have sound : ∀ k ∈ [SeatKind.voiceInMute, .muteChatter], ∀ sev ∈ [Severity.notice, .warning],
      RosterSound (ending k sev) := by
    unfold RosterSound RosterOrder TagsDistinct Entry.ahead; decide +kernel
  intro k hk sev hs
  refine ⟨sound k hk sev hs, entriesMatch_of_one (.seat 0 k) ⟨sev, .listed, 990, .audio .muted⟩ ?_ ?_ ?_ ?_ ?_
    (fun src h => by rw [ending_slot, if_neg h]; rfl), show 1 + 3 ≤ Config.maxRank by decide +kernel⟩
  · rw [ending_slot, if_pos rfl]
  · exact List.nodup_cons.2 ⟨List.not_mem_nil, List.nodup_nil⟩
  · intro e he _; rw [List.mem_singleton.1 he]; exact ⟨rfl, rfl, rfl⟩
  · exact fun _ => ⟨_, List.mem_singleton.2 rfl, rfl, rfl⟩
  · intro h; exact absurd h (by simp)

/-- Its entry is NOTICE, or WARNING and not acknowledged by all. -/
theorem test_meets_EndTimersExpire_listed :
    ((ending .voiceInMute .notice).slot (.seat 0 .voiceInMute)).severity? = some .notice ∧
    ((ending .muteChatter .notice).slot (.seat 0 .muteChatter)).isRaised = true ∧
    (ending .voiceInMute .warning).due 1 ⟨7, .seat 0 .voiceInMute, .warning, .live, 990, 1, noPorts, .audio .muted⟩ =
      true := by decide +kernel

/-! ## Downlink queue -/

theorem test_meets_SlotsIssueOrders :
    (let s := { active with queue := [QEntry.sync 0 (.inFlight (flight 1 true))] }
     s.links[(2 : LinkId)].slot.isSome = true ∧ s.queue = [] ++ QEntry.sync 0 (.inFlight (flight 1 true)) :: [] ∧
     (flight 1 true).reissueDue = true ∧ s.seats[(0 : SeatId)].bestLink = some 2) ∧
    (let s := { active with queue := [QEntry.sync 0 .queued] }
     s.links[(2 : LinkId)].slot.isSome = true ∧ s.queue = [] ++ QEntry.sync 0 .queued :: [] ∧
     s.seats[(0 : SeatId)].bestLink = some 2) ∧
    (∀ j g, QEntry.sync j (.inFlight g) ∉ ([QEntry.sync 0 .queued] : List QEntry)) ∧
    active.links[(0 : LinkId)].slot.isSome = true ∧ active.queue = [] := by
  refine ⟨by decide +kernel, by decide +kernel, by simp, by decide +kernel, rfl⟩

/-- A window on its second and its third issue; a seat to be served, one not; a marker behind the failing SYNC. -/
theorem test_meets_SlotsIssueOrders_window :
    (∀ g, QEntry.sync 0 (.inFlight g) ∉ ([] ++ [.marker 1 1] : List QEntry)) ∧
    ((flight 2 false).window.isSome = true ∧ (flight 2 false).issues < 3 ∧ 3 ≤ (flight 3 false).issues) ∧
    (∀ p n rest, ([] ++ [] : List QEntry) ≠ QEntry.marker p n :: rest) ∧
    (MayBeServed (active.modSync 0 fun y => { y with owed := true }) [] 0 ∧ ∀ k : SeatId, ¬k < 0) ∧
    ¬MayBeServed active [] 0 := by
  refine ⟨by simp, by decide +kernel, by simp, ?_, ?_⟩
  · unfold MayBeServed; decide +kernel
  · unfold MayBeServed; decide +kernel

/-- The four ways in which a SYNC request is taken. -/
theorem test_meets_SyncRequested :
    (inState .lost).seats[(0 : SeatId)].state ≠ .active ∧ active.seats[(0 : SeatId)].state = .active ∧
    QEntry.sync 0 .queued ∈ [QEntry.sync 0 .queued] ∧ active.queue.length < 24 ∧
    (let q := List.replicate 24 (QEntry.sync 1 .queued)
     QEntry.sync 0 .queued ∉ q ∧ 24 ≤ q.length) ∧
    active.mute[(0 : SeatId)].order = .free := by decide +kernel

theorem test_meets_MarkPlacesMarker :
    Admitted active 1 .mark ∧ active.queue = [] ∧
    (let q := List.replicate 23 (QEntry.sync 0 .queued)
     q.length < 24 ∧ { active with queue := q }.markerCount 1 < 2 ∧ q ≠ [] ∧ 24 ≤ (QEntry.sync 1 .queued :: q).length ∧
     2 ≤ { active with queue := [.sync 0 .queued, .marker 1 1, .marker 1 2] }.markerCount 1) :=
  ⟨test_meets_admitted.1 _ rfl, rfl, by decide +kernel⟩

/-! ## Reminders, lamps, reads, ACK, views -/

/-- A LIVE entry of seat 1, WARNING, acknowledged by nobody. -/
def entry : Entry := ⟨7, .seat 0 .battery, .warning, .live, 990, 1, noPorts, .battery 100 40 40⟩

/-- `active` with a roster. -/
def withRoster (es : List Entry) : State := { active with alerts := { active.alerts with roster := es } }

theorem test_meets_SetRemind_and_ReminderExpires :
    Admitted active 1 .setRemind ∧ active.reminders[(1 : PortId)].timer = none ∧
    (let s := (withRoster [entry]).modReminder 1 fun r => { r with staged := 2, active := 2, timer := some 20 }
     s.reminders[(1 : PortId)].timer.isSome = true ∧ s.remindCondition 1 = true) ∧
    (∃ e ∈ (withRoster [entry]).alerts.roster,
      (withRoster [entry]).dueUnacked 1 e = true ∧ e.severity ≠ .notice) :=
  ⟨test_meets_admitted.1 _ rfl, by decide +kernel⟩

theorem test_meets_PortSettings : Admitted active 1 .setMask ∧ Admitted active 1 .clearOverflow ∧ Admitted active 1 .setRemind :=
  ⟨test_meets_admitted.1 _ rfl, test_meets_admitted.1 _ rfl, test_meets_admitted.1 _ rfl⟩

/-- A demanded lamp that blinks, 5 tenths in 10. -/
def blinker : Lamp := { Lamp.initial with mode := .on, demanded := true, cycle := .running 900 (.lit 5) }

theorem test_meets_LampOutputs :
    Lamp.initial.demanded = false ∧ blinker.demanded = true ∧ 0 < blinker.activeO ∧ blinker.activeO < blinker.activeP ∧
    blinker.cycle = .running 900 (.lit 5) ∧ { blinker with activeO := 0 }.activeO = 0 ∧
    { blinker with activeO := 10 }.activeP ≤ { blinker with activeO := 10 }.activeO ∧
    { blinker with cycle := .running 900 (.dark 5) }.cycle = .running 900 (.dark 5) := by decide +kernel

theorem test_meets_SetLampConfigures :
    Admitted active 1 .setLamp ∧
    (let args : List Byte := [0, 2, 2, 1, 1, 20, 51]
     args.length = 7 ∧ argNat args 0 = (0 : LampId).val ∧ modeOfCode (argByte args 1) = some .function ∧
     severityOfCode (argByte args 2) = some .warning ∧
     scopeOfCode (argByte args 3) (argNat args 4) = some (.unackedBy 1)) ∧
    (let args : List Byte := [4, 2, 2, 1, 1, 20, 10]
     args.length = 7 ∧ 4 ≤ argNat args 0) := ⟨test_meets_admitted.1 _ rfl, by decide +kernel⟩

theorem test_meets_Reads :
    Admitted active 1 .readSeat ∧ Admitted active 1 .readLink ∧ Admitted active 1 .readStrangers ∧
    Admitted active 1 .readParam ∧ Admitted active 1 .readRoster ∧ paramOfId 0x1D = some (.linkOffset 5) ∧
    paramOfId 0x16 = none :=
  ⟨test_meets_admitted.1 _ rfl, test_meets_admitted.1 _ rfl, test_meets_admitted.1 _ rfl, test_meets_admitted.1 _ rfl,
    test_meets_admitted.1 _ rfl, by decide +kernel⟩

/-- A port with nothing due and unacknowledged, and one with a first such entry. -/
theorem test_meets_SummaryReportsAndClears :
    (∀ e ∈ active.alerts.roster, active.dueUnacked 1 e = false) ∧
    (withRoster [entry]).alerts.roster = [] ++ entry :: [] ∧ (withRoster [entry]).dueUnacked 1 entry = true := by
  decide +kernel

theorem test_meets_AckActs :
    Admitted (withRoster [entry]) 1 .ack ∧ (∀ e ∈ (withRoster [entry]).alerts.roster, e.phase = .live) ∧
    (∃ e ∈ (withRoster [entry]).alerts.roster, e.tag = (7 : BitVec 16).toNat) ∧
    (∀ e ∈ (withRoster [entry]).alerts.roster, e.tag ≠ (8 : BitVec 16).toNat) ∧
    ((withRoster [entry]).setTag 1 (.range 0 7)).ports[(1 : PortId)].tag = .range 0 7 := by
  refine ⟨admitted_of_meets (by decide +kernel), by decide +kernel⟩

/-- An ENDED entry that ports 0 and 2 have acknowledged. -/
def endedEntry : Entry := { entry with phase := .ended 995, acks := #v[true, false, true, false] }

theorem test_meets_AckActs_removal :
    Admitted (withRoster [endedEntry]) 1 .ack ∧
    ((withRoster [endedEntry]).alerts.roster = [] ++ endedEntry :: [] ∧ endedEntry.tag = (7 : BitVec 16).toNat ∧
      endedEntry.isEnded = true ∧ endedEntry.acks[(1 : PortId)] = false ∧
      (∀ q : PortId, q ≠ 1 → (withRoster [endedEntry]).due q endedEntry = true → endedEntry.acks[q] = true)) ∧
    (∀ src, (withRoster [endedEntry]).slot src = .clear) := by
  refine ⟨admitted_of_meets (by decide +kernel), by decide +kernel, fun src => ?_⟩
  cases src with
  | seat i k => revert i k; intro i k; cases k <;> (revert i; decide +kernel)
  | link l => revert l; decide +kernel

/-- The last acknowledgement of an ENDED entry, with BATTERY of seat 2 WAITING. -/
def waitingBehind : State :=
  let s := (withRoster [endedEntry]).setSlot (.seat 1 .battery) (.raised ⟨.warning, .waiting, 980, .none⟩)
  { s with alerts := { s.alerts with rankCounter := 1 } }

theorem test_meets_AckActs_relisting :
    Admitted waitingBehind 1 .ack ∧ waitingBehind.alerts.roster = [] ++ endedEntry :: [] ∧
    FirstWaiting waitingBehind (.seat 1 .battery) ⟨.warning, .waiting, 980, .none⟩ ∧
    RosterSound waitingBehind ∧ waitingBehind.alerts.rankCounter < Config.maxRank := by
  refine ⟨admitted_of_meets (by decide +kernel), by decide +kernel, ⟨by decide +kernel, rfl, ?_⟩, ?_, by decide +kernel⟩
  · intro src r hr _ hne
    have clear : ∀ src, src ≠ .seat 1 .battery → waitingBehind.slot src = .clear :=
      forall_source (fun i k => by cases k <;> (revert i; decide +kernel)) (by decide +kernel)
    rw [clear src hne] at hr
    exact absurd hr (by simp)
  · unfold RosterSound RosterOrder TagsDistinct Entry.ahead; decide +kernel

/-- A roster with an ENDED entry to remove and a condition WAITING is ready for ACK and SET-VIEW. -/
theorem test_meets_RosterReady : RosterReady waitingBehind 48 ∧ Admitted waitingBehind 1 .setView := by
  refine ⟨⟨test_meets_AckActs_relisting.2.2.2.1, ?_, by decide +kernel⟩, admitted_of_meets (by decide +kernel)⟩
  exact entriesMatch_of_one (.seat 1 .battery) ⟨.warning, .waiting, 980, .none⟩ (by decide +kernel) (by decide +kernel)
    (by decide +kernel) (by decide +kernel) (by decide +kernel)
    (forall_source (fun i k => by cases k <;> (revert i; decide +kernel)) (by decide +kernel))

/-- It is ready for ACK of a tagged range, too. -/
theorem test_meets_AckActs_range :
    RosterReady (waitingBehind.setTag 1 (.range 0 7)) 48 ∧ Admitted (waitingBehind.setTag 1 (.range 0 7)) 1 .ack ∧
    (waitingBehind.setTag 1 (.range 0 7)).ports[(1 : PortId)].tag = .range 0 7 :=
  ⟨test_meets_RosterReady.1, admitted_of_meets (by decide +kernel), by decide +kernel⟩

/-- ENDED entries of seats 2 and 1, in that roster order, and BATTERY of seats 2 and 3 WAITING. -/
def endedPair : State :=
  let s := ((withRoster [{ endedEntry with source := .seat 1 .signalLoss }, { endedEntry with tag := 8, rank := 2 }]).setSlot
    (.seat 1 .battery) (.raised ⟨.warning, .waiting, 980, .none⟩)).setSlot
    (.seat 2 .battery) (.raised ⟨.notice, .waiting, 980, .none⟩)
  { s.setTag 1 (.range 0 7) with alerts := { s.alerts with rankCounter := 2, nextTag := 7 } }

/-- ACK of a tagged range: seat 1's entry goes first, so the first condition listed takes its tag, 8; that condition is of
a seat of the range, and is not acknowledged. -/
theorem test_range_ack_in_seat_order :
    (match exec (.ack 1 [2, 0, 0]) endedPair with
     | .next t => (t.alerts.roster.map fun e => (e.tag, e.source, e.acks), t.ports[(1 : PortId)].response.map (·.result))
     | _ => ([], none)) =
    ([(8, .seat 1 .battery, noPorts), (9, .seat 2 .battery, noPorts)], some [2]) := by decide +kernel

theorem test_meets_SetViewReplacesView :
    Admitted active 1 .setView ∧ Admitted active 0 .setView ∧ active.ports[(0 : PortId)].role ≠ .desk ∧
    active.ports[(1 : PortId)].role = .desk ∧ active.ports[(3 : PortId)].role = .off ∧
    active.ports[(2 : PortId)].role ≠ .off ∧ (192 : Byte).toNat ≤ 192 ∧ 192 < (193 : Byte).toNat ∧
    (1023 : BitVec 16).toNat < 1024 ∧ 1024 ≤ (1024 : BitVec 16).toNat :=
  ⟨test_meets_admitted.1 _ rfl, test_meets_admitted.2 _ rfl, by decide +kernel⟩

/-! ## Requests on seats -/

/-- `active` with a tag state of the DESK. -/
def tagged (t : TagState) : State := active.setTag 1 t

theorem test_meets_RangeFreesSeats_tags :
    Admitted (tagged (.first 8)) 1 .tagLast ∧ Admitted active 1 .tagFirst ∧ Admitted active 1 .ack ∧
    (tagged (.first 8)).ports[(1 : PortId)].tag = .first 8 ∧ (8 : SeatId) ≤ 31 ∧
    (∀ a, active.ports[(1 : PortId)].tag ≠ .first a) ∧ (∀ a b, active.ports[(1 : PortId)].tag ≠ .range a b) := by
  refine ⟨admitted_of_meets (by decide +kernel), test_meets_admitted.1 _ rfl, test_meets_admitted.1 _ rfl,
    by decide +kernel, by decide, ?_, ?_⟩
  · intro a; rw [show active.ports[(1 : PortId)].tag = .none by decide +kernel]; simp
  · intro a b; rw [show active.ports[(1 : PortId)].tag = .none by decide +kernel]; simp

theorem test_meets_RangeFreesSeats :
    Admitted (tagged (.range 0 7)) 1 .free ∧ (tagged (.range 0 7)).ports[(1 : PortId)].tag = .range 0 7 ∧
    (tagged (.range 0 7)).bound 0 = true ∧ (tagged (.range 0 7)).bound 1 = false :=
  ⟨admitted_of_meets (by decide +kernel), by decide +kernel⟩

/-- A range on the ports whose roles may make the requests that take one. -/
theorem test_meets_RangeFreesSeats_requests :
    (∀ r ∈ [Request.quiet, .unquiet, .hold, .free, .swap], Admitted (tagged (.range 0 7)) 1 r) ∧
    Admitted (active.setTag 0 (.range 0 7)) 0 .revoke ∧
    (active.setTag 0 (.range 0 7)).ports[(0 : PortId)].tag = .range 0 7 := by
  refine ⟨fun r hr => admitted_of_meets ?_, admitted_of_meets (by decide +kernel), by decide +kernel⟩
  revert r; decide +kernel

/-- Seat 1 is quiet with two QUIETED conditions. -/
def quieted : State :=
  (((active.modSeat 0 fun q => { q with quiet := true }).setSlot (.seat 0 .signalWeak)
    (.raised ⟨.notice, .quieted, 980, .none⟩)).setSlot (.seat 0 .battery) (.raised ⟨.warning, .quieted, 990, .none⟩))

theorem test_meets_QuietAndUnquiet_quieted :
    RosterReady quieted 9 ∧ quieted.seats[(0 : SeatId)].quiet = true ∧
    QuietedInOrder quieted 0
      [(.seat 0 .battery, ⟨.warning, .quieted, 990, .none⟩), (.seat 0 .signalWeak, ⟨.notice, .quieted, 980, .none⟩)] := by
  have slots : ∀ k : SeatKind, quieted.slot (.seat 0 k) =
      if k = .battery then .raised ⟨.warning, .quieted, 990, .none⟩
      else if k = .signalWeak then .raised ⟨.notice, .quieted, 980, .none⟩ else .clear := by
    intro k; cases k <;> decide +kernel
  refine ⟨⟨?_, entriesMatch_of_calm (by decide +kernel) (by decide +kernel)
    (forall_source (fun i k => by cases k <;> (revert i; decide +kernel)) (by decide +kernel)), by decide +kernel⟩,
    by decide +kernel, by decide +kernel, fun k r h _ => ?_, ?_⟩
  · unfold RosterSound RosterOrder TagsDistinct Entry.ahead; decide +kernel
  · rw [slots] at h
    split at h
    · next e => subst e; rw [← Slot.raised.inj h]; simp
    · split at h
      · next e => subst e; rw [← Slot.raised.inj h]; simp
      · exact absurd h (by simp)
  · unfold ComesBefore; decide +kernel

/-- Seat 1 holds the floor and is quiet, under a CONSOLE hold. -/
def held : State :=
  ({ active.modMute 0 fun m => { m with floor := true, hold := .console, order := .held } with
    floorCount := 1 }).modSeat 0 fun q => { q with quiet := true }

theorem test_meets_SeatRequests :
    Admitted active 1 .quiet ∧ Admitted active 1 .unquiet ∧ Admitted active 1 .hold ∧ Admitted active 1 .free ∧
    Admitted active 1 .swap ∧ Admitted active 1 .unbind ∧ Admitted active 0 .grant ∧ Admitted active 0 .revoke ∧
    Admitted active 0 .revokeAll :=
  ⟨test_meets_admitted.1 _ rfl, test_meets_admitted.1 _ rfl, test_meets_admitted.1 _ rfl, test_meets_admitted.1 _ rfl,
    test_meets_admitted.1 _ rfl, test_meets_admitted.1 _ rfl, test_meets_admitted.2 _ rfl, test_meets_admitted.2 _ rfl,
    test_meets_admitted.2 _ rfl⟩

theorem test_meets_SeatRequests_seats :
    active.bound 0 = true ∧ active.bound 1 = false ∧ active.seats[(0 : SeatId)].quiet = false ∧
    active.seats[(1 : SeatId)].state = .vacant ∧ (inState .lost).seats[(0 : SeatId)].state ≠ .active ∧
    active.mute[(0 : SeatId)].hold = .none ∧ active.mute[(0 : SeatId)].floor = false ∧
    active.battery[(0 : SeatId)].level = some 100 ∧
    (active.modBattery 0 fun b => { b with level := none }).battery[(0 : SeatId)].level = none ∧
    held.seats[(0 : SeatId)].quiet = true ∧ held.mute[(0 : SeatId)].hold = .console ∧
    held.mute[(0 : SeatId)].order = .held ∧ 192 < (193 : Byte).toNat ∧
    held.mute[(0 : SeatId)].floor = true ∧ (∀ i : SeatId, held.mute[i].floor = true → held.bound i = true) ∧
    active.floorCount < active.params.floorLimit ∧
    { active with floorCount := 4 }.floorCount = { active with floorCount := 4 }.params.floorLimit := by decide +kernel

theorem test_meets_BindTakesSeat :
    Admitted active 1 .bind ∧ (1002 : RadioId) ≠ 0 ∧ (1002 : RadioId) ≠ 0xFFFFFFFF ∧ (2 : Byte) = seatByte 1 ∧
    (∃ j : SeatId, active.seats[j].radio = some 1001) ∧ (∀ j : SeatId, active.seats[j].radio ≠ some 1002) :=
  ⟨test_meets_admitted.1 _ rfl, by decide +kernel⟩

theorem test_meets_SetParam :
    Admitted active 1 .setParam ∧ paramOfId (3 : Byte).toNat = some .lowMinutes ∧
    (∀ l, Param.lowMinutes ≠ .linkEnable l) ∧ paramOfId (0x20 : Byte).toNat = none ∧
    (0xFFFF : BitVec 16).toInt ≤ 0 ∧ active.links[(0 : LinkId)].enable = true ∧ 0 < (1 : BitVec 16).toInt ∧
    startingLinks.links[(0 : LinkId)].enable = false := by
  refine ⟨test_meets_admitted.1 _ rfl, by decide +kernel, by simp, by decide +kernel⟩

/-! ## Lines and invariants -/

theorem test_meets_FramesReceived :
    active.linkHears 0 = true ∧ active.links[(0 : LinkId)].rx = .hunting ∧ active.ports[(0 : PortId)].role ≠ .off ∧
    active.ports[(0 : PortId)].inBreak = false ∧ active.ports[(0 : PortId)].rx = .hunting ∧
    (List.replicate 59 (0 : Byte)).length < 60 := by decide +kernel

/-- A STATUS frame on the line becomes its row, by its bytes and by the assembler. -/
theorem test_status_received :
    frameBytes 0xE7 (0x02 :: bytes32 0xA1B2C3D4) = [0xE7, 5, 2, 0xA1, 0xB2, 0xC3, 0xD4] ++
      bytes16 (crc16 [5, 2, 0xA1, 0xB2, 0xC3, 0xD4]) ∧
    (active.uplinkBytes 0 (frameBytes 0xE7 (0x02 :: bytes32 0xA1B2C3D4))).pending = [.status 0 0xA1B2C3D4] := by
  decide +kernel

/-- The state a step answers, if it answers one. -/
def after (c : Instr) (s : State) : State :=
  match step { s with pending := [c] } with
  | .next t => t
  | _ => s

/-- A step of `active` that is taken: the other premise of the invariants' statements. -/
theorem test_meets_invariants_step :
    step { active with pending := [.quiet 1 [1]] } = .next (after (.quiet 1 [1]) active) := rfl

/-- A link that is not enabled is DISABLED: the clause of `ConditionsMatch` has a case. -/
theorem test_meets_RosterMatches_disabled :
    startingLinks.links[(0 : LinkId)].enable = false ∧ startingLinks.links[(0 : LinkId)].state = .disabled := by
  decide +kernel

theorem test_meets_RosterMatches : RosterMatches active := by
  have empty : active.alerts.roster = [] := rfl
  refine ⟨⟨by decide +kernel, fun e he => absurd he (by rw [empty]; simp), fun src r h => ?_, fun src r h => ?_⟩, ?_⟩
  · rw [active_slot src] at h; exact absurd h (by simp)
  · rw [active_slot src] at h; exact absurd h (by simp)
  · unfold ConditionsMatch; decide +kernel

theorem test_meets_QueueSound_and_OutputsFollow : QueueSound active ∧ OutputsFollow active := by
  refine ⟨⟨by decide +kernel, fun i => ⟨?_, ?_, fun _ x => ?_⟩⟩, ?_⟩
  · rw [show active.queue = [] from rfl]; simp
  · rw [show active.queue = [] from rfl]; simp
  · rw [show active.queue = [] from rfl]; simp
  · unfold OutputsFollow; decide +kernel

/-- `active` satisfies every other invariant. -/
theorem test_meets_invariants :
    Capacity active ∧ Settings active ∧ BindingMap active ∧ RosterSound active ∧ MarkerNeverFirst active ∧
    OffPorts active := by
  have radio : ∀ j : SeatId, active.seats[j].radio = if j = 0 then some 1001 else none := by decide +kernel
  have queue : active.queue = [] := rfl
  refine ⟨?_, ?_, ⟨by decide +kernel, ?_, ?_, ?_, by decide +kernel, by decide +kernel⟩, ?_, ?_, ?_⟩
  · unfold Capacity; decide +kernel
  · unfold Settings Params.InRange; decide +kernel
  · intro i j r hi hj
    rw [radio] at hi hj
    split at hi <;> split at hj <;> simp_all
  · intro x hx; exact absurd (show x ∈ ([] : List Stranger) from hx) (by simp)
  · intro i r hr
    rw [radio] at hr
    split at hr
    · rw [← Option.some.inj hr]; decide
    · exact absurd hr (by simp)
  · unfold RosterSound RosterOrder TagsDistinct Entry.ahead; decide +kernel
  · intro p n rest h; rw [queue] at h; exact absurd h (by simp)
  · have off : ∀ p : PortId, active.ports[p].role = .off →
        active.ports[p].response = none ∧ active.ports[p].waiting = none ∧ active.attention[p] = false ∧
        active.alerts.overflow[p] = false ∧ active.reminders[p].timer = none := by decide +kernel
    intro p hp
    obtain ⟨h1, h2, h3, h4, h5⟩ := off p hp
    exact ⟨h1, h2, h3, h4, h5, fun n => by rw [queue]; simp⟩

/-- GRANT and HOLD on seat 1, and BIND of a taken radio ID. -/
theorem test_requests :
    (after (.grant 0 [1]) active).mute[(0 : SeatId)].floor = true ∧ (after (.grant 0 [1]) active).floorCount = 1 ∧
    (after (.hold 0 [1]) active).queue = [.sync 0 .queued] ∧
    (after (.bind 1 [2, 0, 0, 3, 0xE9]) active).ports[(1 : PortId)].response =
      some ⟨0x28, .idTaken, false, [], false⟩ := by decide +kernel

/-- A merge window's expiry with a normal frame of seat 1 that confirms its SYNC: OPEN_NO_FLOOR qualifies, the Gauge and
the Signal Monitor read the frame. -/
theorem test_normal_frame :
    (let m := { micFrame 3 101 3 2 with echo := 1 }
     let t := after (.mergeWindowExpiry (MicPayload.key m))
       { withOpen active m with queue := [.sync 0 (.inFlight (flight 1 false))] }
     t.syncs[(0 : SeatId)].confirmed = some (.dark, .free) ∧ t.queue = [] ∧
     t.slot (.seat 0 .openNoFloor) = .qualifying ∧ t.mute[(0 : SeatId)].openGrace = some 10 ∧
     t.battery[(0 : SeatId)].weighted = 16 ∧ t.battery[(0 : SeatId)].minutes = 39 ∧
     t.signal[(0 : SeatId)].history = [true, true]) := by decide +kernel

/-- R91: with 3 seats holding the floor a write of 2 and a write of 0 set the limit to 3, CLAMPED. -/
theorem test_floor_limit :
    (after (.setParam 1 [0x0E, 0, 2]) { active with floorCount := 3 }).params.floorLimit = 3 ∧
    (after (.setParam 1 [0x0E, 0, 0]) { active with floorCount := 3 }).params.floorLimit = 3 ∧
    (after (.setParam 1 [0x0E, 0, 0]) { active with floorCount := 3 }).ports[(1 : PortId)].response =
      some ⟨0x30, .clamped, false, [0, 3], false⟩ := by decide +kernel

end Sys2Proof.Tests
end

section
/-! PROOFS. The port settings SET-REMIND, SET-MASK and CLEAR-OVERFLOW (R156): what each request's action leaves in the
state, and with it what the whole command leaves once the port has answered. -/

namespace Sys2Proof.Machine.PortSettings

open Sys2Proof Sys2Proof.Machine Sys2Proof.Machine.Laws

variable {s t : State} {p : PortId} {r : Request} {args : List Byte}

/-! ## From an admitted request to its answer -/

/-- The command of an admitted request with the right number of arguments: its action, and then its answer. -/
theorem exec_admitted (h : Admitted s p r) (ha : args.length = r.argCount) :
    exec (r.row p args) s = .next
      (((s.setTag p .none).perform p s.ports[p].tag args r).2.respond p r.code
        ((s.setTag p .none).perform p s.ports[p].tag args r).1) := by
  rw [exec_row, arriveRequest_admitted h ha]

/-- An action that leaves the ports alone is followed by an answer at the requesting port and at no other. -/
theorem answers_respond (h : t.ports = (s.setTag p .none).ports) (code : Byte) (c : Completion) (result : List Byte) :
    Answers s (t.respond p code ⟨c, result, false⟩) p code c result := by
  have answered := congrArg State.ports (respond_setTag (s := s) (p := p) code c result)
  simpa only [Answers, State.answered, State.respond, modPort_ports, h] using answered

/-- An answer changes no reminder. -/
theorem respond_reminders (code : Byte) (x : Reply) : (s.respond p code x).reminders = s.reminders := rfl

/-- A change of one port's reminder leaves those of the other ports. -/
theorem sameBut_set {α : Type} {n : Nat} (v : Vector α n) (i : Fin n) (x : α) : SameBut i v (v.set i x) :=
  fun _ hj => get_set_ne v hj x

/-- The two bytes of a word are read back as the word (R170). -/
theorem argWord16_bytes16 (w : BitVec 16) : argWord16 (bytes16 w) 0 = w := by
  simp only [argWord16, argByte, bytes16, List.getD_cons_zero, List.getD_cons_succ]
  have joined := BitVec.extractLsb'_append_extractLsb'_eq_extractLsb' (x := w) (len₂ := 8) (Nat.zero_add 8).symm
  exact joined.trans BitVec.extractLsb'_eq_self

/-! ## SET-REMIND -/

/-- The staged period takes the value, whether the timer runs or not (R163). -/
theorem stage_staged (m : Reminder) (n : Nat) : (m.stage n).staged = n := by
  unfold Reminder.stage
  split <;> rfl

/-- The evaluation of the reminder condition starts or stops the timer and leaves the staged period (R162). -/
theorem evaluate_staged (m : Reminder) (c : Bool) : (m.evaluate c).staged = m.staged := by
  unfold Reminder.evaluate
  split <;> rfl

/-- SET-REMIND writes one reminder: that of its port, staged and then evaluated. -/
theorem setRemindRequest_reminders (n : Nat) :
    ∃ c, (s.setRemindRequest p n).2.reminders = s.reminders.set p ((s.reminders[p].stage (min n 255)).evaluate c) := by
  refine ⟨(s.modReminder p (Reminder.stage · (min n 255))).remindCondition p, ?_⟩
  simp only [State.setRemindRequest, modReminder_reminders, get_set_self, set_set_self]

/-- SET-REMIND is answered CLAMPED above 255 and DONE otherwise, with the value stored. -/
theorem setRemindRequest_reply (n : Nat) :
    (s.setRemindRequest p n).1 = ⟨if 255 < n then .clamped else .done, [byte1 (min n 255)], false⟩ := by
  have clamped : (min n 255 != n) = decide (255 < n) := by
    rw [Bool.eq_iff_iff, bne_iff_ne, decide_eq_true_iff]
    omega
  simp only [State.setRemindRequest, Reply.stored, clamped, decide_eq_true_iff]

/-- SET-REMIND stages its period, at most 255, in the reminder of the requesting port alone. -/
theorem exec_setRemind (h : Admitted s p .setRemind) (w : BitVec 16) :
    ∃ t, exec (.setRemind p (bytes16 w)) s = .next t ∧ t.reminders[p].staged = min w.toNat 255 ∧
      Answers s t p 0x12 (if 255 < w.toNat then .clamped else .done) [byte1 (min w.toNat 255)] ∧
      SameBut p s.reminders t.reminders ∧ ChangesOnly [.ports, .reminders] s t := by
  have taken := exec_admitted (args := bytes16 w) h rfl
  rw [State.perform, argWord16_bytes16, setRemindRequest_reply] at taken
  obtain ⟨c, written⟩ := setRemindRequest_reminders (s := s.setTag p .none) (p := p) w.toNat
  refine ⟨_, taken, ?_, answers_respond rfl _ _ _, ?_, ?_⟩
  · rw [respond_reminders, written, get_set_self, evaluate_staged, stage_staged]
  · rw [respond_reminders, written]
    exact sameBut_set _ _ _
  · have tag : ChangesOnly [.ports, .reminders] s (s.setTag p .none) := frame_mono (frame_setTag _ _) (by decide)
    have acted := frame_then tag (frame_setRemindRequest p w.toNat) (by decide)
    exact frame_then acted (frame_respond _ _ _) (by decide)

/-! ## SET-MASK -/

/-- SET-MASK with 0 or 1 is answered DONE, and the mask takes the value. -/
theorem setMaskRequest_of_valid {b : Byte} (hb : b = 0 ∨ b = 1) :
    s.setMaskRequest p b = (.done [], s.modPort p fun q => { q with mask := b == 1 }) := by
  obtain rfl | rfl := hb <;> rfl

/-- SET-MASK with any other value is answered BAD-ARGUMENT and does nothing. -/
theorem setMaskRequest_of_invalid {b : Byte} (h0 : b ≠ 0) (h1 : b ≠ 1) :
    s.setMaskRequest p b = (.bare .badArgument, s) := by
  rw [State.setMaskRequest, if_neg h0, if_neg h1]

/-- The mask written between the clearing of the tag state and the answer: one change of the port. -/
theorem respond_mask_setTag (code : Byte) (m : Bool) :
    ((s.setTag p .none).modPort p fun q => { q with mask := m }).respond p code (.done []) =
      { s with ports := s.ports.set p { s.ports[p].answering code .done [] with mask := m } } := by
  simp only [State.setTag, State.respond, State.modPort, PortRec.answering, Reply.done, get_set_self, set_set_self]

/-- SET-MASK with 0 or 1 writes the mask of the requesting port and answers there. -/
theorem exec_setMask_of_valid (h : Admitted s p .setMask) {b : Byte} (hb : b = 0 ∨ b = 1) :
    exec (.setMask p [b]) s = .next
      { s with ports := s.ports.set p { s.ports[p].answering 0x13 .done [] with mask := b == 1 } } := by
  have taken := exec_admitted (args := [b]) h rfl
  rw [State.perform, show argByte [b] 0 = b from rfl, setMaskRequest_of_valid hb] at taken
  exact taken.trans (congrArg _ (respond_mask_setTag _ _))

/-- SET-MASK with any other value answers BAD-ARGUMENT, and that is all. -/
theorem exec_setMask_of_invalid (h : Admitted s p .setMask) {b : Byte} (h0 : b ≠ 0) (h1 : b ≠ 1) :
    exec (.setMask p [b]) s = .next (s.answered p 0x13 .badArgument []) := by
  have taken := exec_admitted (args := [b]) h rfl
  rw [State.perform, show argByte [b] 0 = b from rfl, setMaskRequest_of_invalid h0 h1] at taken
  exact taken.trans (congrArg _ (respond_setTag _ _ _))

/-! ## CLEAR-OVERFLOW -/

/-- CLEAR-OVERFLOW clears the overflow mark of the requesting port and answers there (R114). -/
theorem exec_clearOverflow (h : Admitted s p .clearOverflow) :
    exec (.clearOverflow p []) s = .next
      { s.answered p 0x14 .done [] with alerts := { s.alerts with overflow := s.alerts.overflow.set p false } } := by
  have taken := exec_admitted (args := []) h rfl
  rw [State.perform, State.clearOverflowRequest] at taken
  rw [← respond_setTag]
  exact taken

/-! ## The obligation -/

/-- Settles O31: each of the three requests, from its own lemma. -/
theorem portSettingsStored : Obligations.PortSettingsStored := by
  refine ⟨fun _ _ w h => exec_setRemind h w, fun _ _ _ h => ⟨?_, ?_⟩, fun _ _ h => exec_clearOverflow h⟩
  · exact exec_setMask_of_valid h
  · exact exec_setMask_of_invalid h

end Sys2Proof.Machine.PortSettings
end

section
/-! PROOFS. SET-REMIND on a stopped and on a running reminder timer (R163): the period it stages, the evaluation of the
reminder condition that follows (R162), and the expiry of a timer with a period of 0 staged (R164). -/

namespace Sys2Proof.Machine.ReminderStaging

open Sys2Proof Sys2Proof.Machine Sys2Proof.Machine.Laws Sys2Proof.Machine.PortSettings

variable {s t : State} {p : PortId} {m : Reminder}

/-! ## The reminder condition -/

/-- The part of the reminder condition that the period does not enter: an entry of WARNING or above is due to the port
and unacknowledged (R162). -/
def pressing (s : State) (p : PortId) : Bool :=
  s.alerts.roster.any fun e => s.dueUnacked p e && decide (2 ≤ e.severity.num)

theorem remindCondition_eq (s : State) (p : PortId) :
    s.remindCondition p = (s.reminders[p].active != 0 && pressing s p) := rfl

theorem two_le_severity_num {sev : Severity} : 2 ≤ sev.num ↔ sev ≠ .notice := by cases sev <;> decide

theorem pressing_iff :
    pressing s p = true ↔ ∃ e ∈ s.alerts.roster, s.dueUnacked p e = true ∧ e.severity ≠ .notice := by
  simp only [pressing, List.any_eq_true, Bool.and_eq_true, decide_eq_true_iff, two_le_severity_num]

/-- What is due and unacknowledged hangs on the role and the view of the port, and not on its tag state. -/
theorem dueUnacked_setTag (g : TagState) (e : Entry) : (s.setTag p g).dueUnacked p e = s.dueUnacked p e := by
  simp only [State.dueUnacked, State.due, State.dueTo, State.setTag, modPort_ports, get_set_self]

theorem pressing_setTag (g : TagState) : pressing (s.setTag p g) p = pressing s p := by
  simp only [pressing, dueUnacked_setTag]
  rfl

theorem pressing_modReminder (s : State) (p q : PortId) (f : Reminder → Reminder) :
    pressing (s.modReminder p f) q = pressing s q := rfl

/-- The reminder condition as SET-REMIND finds it, once the reminder of the port is rewritten: the new active period
decides. -/
theorem remindCondition_modReminder (f : Reminder → Reminder) :
    ((s.setTag p .none).modReminder p f).remindCondition p = ((f s.reminders[p]).active != 0 && pressing s p) := by
  rw [remindCondition_eq, pressing_modReminder, pressing_setTag, modReminder_reminders, get_set_self]
  rfl

/-! ## Staging and evaluation of one reminder -/

theorem stage_of_stopped (h : m.timer = none) (n : Nat) : m.stage n = ⟨n, n, none⟩ := by
  simp only [Reminder.stage, h]

theorem stage_of_running (h : m.timer.isSome = true) (n : Nat) : m.stage n = { m with staged := n } := by
  obtain ⟨k, running⟩ := Option.isSome_iff_exists.1 h
  simp only [Reminder.stage, running]

/-- A stopped timer starts, with the active period in tenths, if the condition holds. -/
theorem evaluate_of_stopped (staged active : Nat) (c : Bool) :
    (⟨staged, active, none⟩ : Reminder).evaluate c = ⟨staged, active, if c then some (10 * active) else none⟩ := by
  cases c <;> rfl

/-- A running timer whose condition holds runs on. -/
theorem evaluate_of_running (h : m.timer.isSome = true) : m.evaluate true = m := by
  obtain ⟨k, running⟩ := Option.isSome_iff_exists.1 h
  simp only [Reminder.evaluate, running]

/-! ## SET-REMIND -/

/-- The reminder that SET-REMIND leaves at its port: the period is staged, and the condition is then evaluated with the
period that is active by now. -/
theorem exec_setRemind_reminder (h : Admitted s p .setRemind) (w : BitVec 16) :
    ∃ t, exec (.setRemind p (bytes16 w)) s = .next t ∧
      t.reminders[p] = (s.reminders[p].stage (min w.toNat 255)).evaluate
        ((s.reminders[p].stage (min w.toNat 255)).active != 0 && pressing s p) := by
  have taken := exec_admitted (args := bytes16 w) h rfl
  rw [State.perform, argWord16_bytes16] at taken
  refine ⟨_, taken, ?_⟩
  simp only [respond_reminders, State.setRemindRequest, remindCondition_modReminder, modReminder_reminders, get_set_self]
  rfl

/-- With the timer stopped the period is active at once, and the timer starts if the condition now holds (R163). -/
theorem staged_reminder_of_stopped (h : m.timer = none) (n : Nat) (c : Bool) :
    (m.stage n).evaluate ((m.stage n).active != 0 && c) = ⟨n, n, if n ≠ 0 ∧ c = true then some (10 * n) else none⟩ := by
  rw [stage_of_stopped h, evaluate_of_stopped]
  simp only [Bool.and_eq_true, bne_iff_ne]

/-- With the timer running and its condition true only the staged period changes (R163). -/
theorem staged_reminder_of_running (h : m.timer.isSome = true) (n : Nat) {c : Bool} (hc : (m.active != 0 && c) = true) :
    (m.stage n).evaluate ((m.stage n).active != 0 && c) = { m with staged := n } := by
  have staged := stage_of_running h n
  rw [staged, show (({ m with staged := n } : Reminder).active != 0 && c) = true from hc]
  exact evaluate_of_running h

/-- The stored period is 0 exactly for the word 0. -/
theorem min_toNat_ne_zero (w : BitVec 16) : min w.toNat 255 ≠ 0 ↔ w.toNat ≠ 0 := by omega

/-! ## The expiry -/

/-- The expiry of a running timer sets attention pending, makes the staged period active, and stops the timer if that
period is 0 (R164). -/
theorem exec_reminderTimerExpiry (h : t.reminders[p].timer.isSome = true) :
    ∃ u, exec (.reminderTimerExpiry p) t = .next u ∧ u.attention[p] = true ∧
      u.reminders[p] = t.reminders[p].expire := by
  have expires : exec (.reminderTimerExpiry p) t = .next (t.reminderExpires p) := congrArg _ (if_pos h)
  refine ⟨_, expires, ?_, ?_⟩
  · rw [State.reminderExpires, modReminder_attention, attend_attention, get_ofFn, beq_self_eq_true, Bool.true_or]
  · rw [State.reminderExpires, modReminder_reminders, get_set_self, attend_reminders]

theorem expire_timer_of_staged_zero (h : m.staged = 0) : m.expire.timer = none := if_pos h

/-! ## The obligation -/

/-- Settles O32: the reminder that SET-REMIND leaves, by the timer it finds. -/
theorem setRemindStages : Obligations.SetRemindStages := by
  intro s p w h
  obtain ⟨t, next, left⟩ := exec_setRemind_reminder h w
  refine ⟨t, next, ?_, fun stopped => ?_, fun running holds => ?_⟩
  · rw [left, evaluate_staged, stage_staged]
  · rw [left, staged_reminder_of_stopped stopped]
    simp only [min_toNat_ne_zero, pressing_iff, and_self]
  · rw [staged_reminder_of_running running _ ((remindCondition_eq s p).symm.trans holds)] at left
    refine ⟨by rw [left], by rw [left], fun zero => ?_⟩
    have runs : t.reminders[p].timer.isSome = true := by rw [left]; exact running
    obtain ⟨u, expires, reminded, expired⟩ := exec_reminderTimerExpiry runs
    have stagedZero : t.reminders[p].staged = 0 := by rw [left, zero]; rfl
    exact ⟨u, expires, reminded, by rw [expired, expire_timer_of_staged_zero stagedZero]⟩

end Sys2Proof.Machine.ReminderStaging
end

section
/-! PROOFS. The attention line (R161), and what the events that set up or reset a port do to its mask (R146, R147,
R149). -/

namespace Sys2Proof.Machine.AttentionLine

open Sys2Proof Sys2Proof.Machine Sys2Proof.Machine.Laws Sys2Proof.Machine.PortSettings

variable {s : State}

theorem attentionLine_iff (s : State) (p : PortId) :
    s.attentionLine p = true ↔ s.ports[p].role ≠ .off ∧ s.attention[p] = true ∧ s.ports[p].mask = false := by
  simp only [State.attentionLine, Bool.and_eq_true, bne_iff_ne, Bool.not_eq_true', and_assoc]

/-- SET-MASK with 0 or 1 writes the mask of its port and leaves attention pending alone. -/
theorem exec_setMask_mask_attention {p : PortId} (h : Admitted s p .setMask) {b : Byte} (hb : b = 0 ∨ b = 1) :
    ∃ t, exec (.setMask p [b]) s = .next t ∧ t.ports[p].mask = (b == 1) ∧ t.attention = s.attention :=
  ⟨_, exec_setMask_of_valid h hb, by rw [get_set_self], rfl⟩

/-- A port after power-on: as its role gives it, with a line already held measured (R147). -/
theorem powerOn_port (straps : Vector Strap 4) (s : State) (q : PortId) :
    (s.powerOn straps).ports[q] = (PortRec.initial (rolesOf straps)[q]).measureHeld s.ports[q].lineActive := by
  simp only [State.powerOn, State.afterPowerOn, get_ofFn, get_map]

theorem powerOn_mask (straps : Vector Strap 4) (s : State) (q : PortId) :
    (s.powerOn straps).ports[q].mask = false := by
  rw [powerOn_port]
  rfl

/-! ## Events that keep every mask -/

/-- A change of one port that keeps its mask keeps every mask. -/
theorem modPort_mask {f : PortRec → PortRec} (hf : ∀ r, (f r).mask = r.mask) (s : State) (p q : PortId) :
    (s.modPort p f).ports[q].mask = s.ports[q].mask := by
  rw [modPort_ports]
  by_cases same : q = p
  · rw [same, get_set_self, hf]
  · rw [get_set_ne _ same]

/-- The restart brings each port to its value after RESTART, and the evaluation of the outputs leaves the ports (R149). -/
theorem beginRestart_ports (s : State) : s.beginRestart.ports = s.ports.map PortRec.restarted := rfl

theorem beginRestart_mask (s : State) (q : PortId) : s.beginRestart.ports[q].mask = s.ports[q].mask := by
  rw [beginRestart_ports, get_map]
  rfl

theorem restartBegins_mask (s : State) (p q : PortId) : (s.restartBegins p).ports[q].mask = s.ports[q].mask := by
  unfold State.restartBegins
  split
  · exact (beginRestart_mask _ q).trans (modPort_mask (f := fun q => { q with response := none }) (fun _ => rfl) s p q)
  · rfl

/-- Steps 1 to 6 of a port break, before any restart: the port's own reset, and then its markers, which are no part of a
port. -/
theorem reset_dropMarkers_mask (s : State) (p q : PortId) (fuel : Nat) :
    (((s.modPort p PortRec.reset).clearAttention p).dropMarkers p fuel).ports[q].mask = s.ports[q].mask := by
  have ports : (((s.modPort p PortRec.reset).clearAttention p).dropMarkers p fuel).ports =
      (s.modPort p PortRec.reset).ports := frame_dropMarkers p fuel .ports (by decide)
  rw [ports]
  exact modPort_mask (f := PortRec.reset) (fun _ => rfl) s p q

theorem portBreaks_mask (s : State) (p q : PortId) : (s.portBreaks p).ports[q].mask = s.ports[q].mask := by
  simp only [State.portBreaks]
  split
  case isTrue => rfl
  case isFalse =>
    split
    · exact (beginRestart_mask _ q).trans (reset_dropMarkers_mask s p q _)
    · exact reset_dropMarkers_mask s p q _

/-! ## The obligation -/

/-- Settles O30: the line by its definition, SET-MASK, power-on, and the two events that keep every mask. -/
theorem attentionLineFollows : Obligations.AttentionLineFollows := by
  refine ⟨attentionLine_iff, fun _ _ _ h hb => exec_setMask_mask_attention h hb, fun straps s q => ?_,
    fun s p q => ⟨?_, ?_⟩⟩
  · exact ⟨_, rfl, powerOn_mask straps s q⟩
  · exact ⟨_, rfl, restartBegins_mask s p q⟩
  · exact ⟨_, rfl, portBreaks_mask s p q⟩

end Sys2Proof.Machine.AttentionLine
end

section
/-! PROOFS. Commands whose whole effect is one equation of states: a step's taking of a command, RESTART's answer, the
reminder's expiry, initialisation and the clock, arrivals, bad frames, the first four checks of a request, the finish of a
response, the lamp's parts. -/

namespace Sys2Proof.Machine.SimpleCommands

open Sys2Proof Sys2Proof.Machine Sys2Proof.Machine.Laws Sys2Proof.Machine.PortSettings

variable {s : State} {p : PortId}

/-! ## Steps -/

theorem step_of_pending {c : Instr} {rest : List Instr} (h : s.pending = c :: rest) :
    step s = exec c { s with pending := rest } := by
  rw [step, h]

theorem step_of_line {e : LineInput} {rest : List LineInput} (hp : s.pending = []) (hr : s.rxInput = e :: rest) :
    step s = .next (State.receive { s with rxInput := rest } e) := by
  rw [step, hp, hr]

theorem step_idle (hp : s.pending = []) (hr : s.rxInput = []) : step s = .next s := by
  rw [step, hp, hr]

/-- Settles O1. -/
theorem stepTakesFrontCommand : Obligations.StepTakesFrontCommand := fun _ _ _ h => step_of_pending h

/-! ## RESTART -/

/-- Settles O6: the answer alone is left, marked as one that begins the restart when it is over. -/
theorem restartIsAnswered : Obligations.RestartIsAnswered := by
  intro s p h
  have taken := exec_admitted (args := []) h rfl
  rw [State.perform, State.restartRequest] at taken
  refine taken.trans ?_
  simp only [State.setTag, State.respond, State.modPort, get_set_self, set_set_self]
  rfl

/-! ## The reminder's expiry -/

/-- Attention pending set on one port (R159). -/
theorem attend_port (s : State) (p : PortId) :
    (s.attend fun q => q == p) = { s with attention := s.attention.set p true } := by
  have table : (Vector.ofFn fun q => (q == p) || s.attention[q]) = s.attention.set p true := by
    refine ext_get fun q => ?_
    rw [get_ofFn]
    by_cases same : q = p
    · rw [same, get_set_self, beq_self_eq_true, Bool.true_or]
    · rw [get_set_ne _ same, beq_false_of_ne same, Bool.false_or]
  rw [State.attend, table]

/-- Settles O33: the three steps of R164. -/
theorem reminderExpires : Obligations.ReminderExpires := by
  intro s p h
  refine (congrArg _ (if_pos h) : exec (.reminderTimerExpiry p) s = .next (s.reminderExpires p)).trans ?_
  rw [State.reminderExpires, attend_port]
  rfl

/-! ## Initialisation and the clock -/

theorem begin_of_enabled {r : LinkRec} (h : r.enable = true) :
    r.begin = { r with rx := .hunting, breakTimer := if r.lineActive then some 2 else none } := by
  rw [LinkRec.begin, if_pos h]
  rfl

theorem begin_of_disabled {r : LinkRec} (h : r.enable = false) : r.begin = r := by
  rw [LinkRec.begin, h]
  rfl

theorem becomeReady_of_starting (h : s.part = .starting) :
    s.becomeReady =
      { s with part := .ready, clock := 0, initTimer := none, links := s.links.map LinkRec.begin } := by
  rw [State.becomeReady, if_pos h]

/-- Settles O5: initialisation from STARTING, and the tick in READY and in STARTING. -/
theorem initialisationAndClock : Obligations.InitialisationAndClock := by
  refine ⟨fun s h => ?_, fun s h => ?_, fun s h => ?_⟩
  · refine ⟨_, congrArg Host.Outcome.next (becomeReady_of_starting h), rfl, rfl, rfl, fun l on => ?_, fun l off => ?_, ?_⟩
    · exact (get_map _ _ _).trans (begin_of_enabled on)
    · exact (get_map _ _ _).trans (begin_of_disabled off)
    · intro b hb
      cases b <;> first | rfl | exact absurd (by decide) hb
  · exact congrArg _ (if_pos h)
  · exact congrArg _ (if_neg (by rw [h]; decide))

/-! ## Arrivals -/

/-- Every row that names an arrival has the arrival's effect (log 17). -/
theorem exec_rowOfArrival (p : PortId) (a : Arrival) (s : State) :
    exec (rowOfArrival p a) s = .next (s.arrive p a) := by
  cases a with
  | badFrame code => rfl
  | request code args =>
    rw [rowOfArrival]
    cases named : requestOfCode code with
    | none => rfl
    | some r =>
      have same : r.code = code := by simpa using List.find?_some named
      rw [← same]
      exact exec_row r p args s

/-- Settles O8: the waiting place, the overrun flag, and the rows that name an arrival. -/
theorem arrivalsWaitOrDrop : Obligations.ArrivalsWaitOrDrop := by
  intro s p a role held
  have hears := deaf_eq_false role held
  exact ⟨fun sending free => congrArg _ (arrive_waits hears sending free a),
    fun sending full => congrArg _ (arrive_dropped hears sending full a), exec_rowOfArrival p a s⟩

/-! ## Bad frames -/

theorem arrive_badFrame (hears : s.ports[p].deaf = false) (idle : s.ports[p].response = none) (code : Option Byte) :
    s.arrive p (.badFrame code) =
      { s with ports := s.ports.set p { s.ports[p] with
        overrun := false, response := some ⟨code.getD 0, .frameError, s.ports[p].overrun, [], false⟩ } } :=
  arrive_taken hears idle _

/-- A frame cut short at a port is a bad frame with the code byte received (R142, R143). -/
theorem consoleTimeout_of_assembling (hears : s.ports[p].deaf = false) (idle : s.ports[p].response = none)
    (busy : s.ports[p].rx ≠ .hunting) :
    s.consoleTimeout p = { s with ports := s.ports.set p { s.ports[p] with
        rx := .hunting, overrun := false,
        response := some ⟨s.ports[p].rx.code?.getD 0, .frameError, s.ports[p].overrun, [], false⟩ } } := by
  have now : (s.modPort p fun q => { q with rx := .hunting }).ports[p] = { s.ports[p] with rx := .hunting } :=
    get_set_self _ _ _
  rw [State.consoleTimeout, if_neg busy, arrive_badFrame (by rw [now]; exact hears) (by rw [now]; exact idle), now]
  simp only [State.modPort, set_set_self]

/-- Settles O9: FRAME-ERROR for a bad frame and for a frame cut short, by what had been received of it. -/
theorem badFramesAnswered : Obligations.BadFramesAnswered := by
  intro s p role held idle
  have hears := deaf_eq_false role held
  refine ⟨fun code => congrArg _ (arrive_badFrame hears idle code), fun rx => ?_, fun n got rx => ?_⟩
  · refine congrArg _ ((consoleTimeout_of_assembling hears idle (by rw [rx]; decide)).trans ?_)
    rw [rx]
    rfl
  · refine congrArg _ ((consoleTimeout_of_assembling hears idle (by rw [rx]; nofun)).trans ?_)
    rw [rx]
    rfl

/-! ## The first four checks -/

theorem precheck_starting {r : Request} (args : List Byte) (h : s.part = .starting) (hr : r ≠ .summary) :
    s.precheck p r args = some .starting := by
  rw [State.precheck, if_pos ⟨h, hr⟩]

theorem precheck_notPermitted {r : Request} (args : List Byte) (h : s.part = .ready ∨ r = .summary)
    (no : r.permits s.ports[p].role = false) : s.precheck p r args = some .notPermitted := by
  have first : ¬(s.part = .starting ∧ r ≠ .summary) := by
    rintro ⟨starting, other⟩
    exact h.elim (fun e => by rw [e] at starting; exact absurd starting (by decide)) other
  rw [State.precheck, if_neg first, no]
  rfl

theorem precheck_badArgument {r : Request} {args : List Byte} (h : s.part = .ready ∨ r = .summary)
    (yes : r.permits s.ports[p].role = true) (count : args.length ≠ r.argCount) :
    s.precheck p r args = some .badArgument := by
  have first : ¬(s.part = .starting ∧ r ≠ .summary) := by
    rintro ⟨starting, other⟩
    exact h.elim (fun e => by rw [e] at starting; exact absurd starting (by decide)) other
  rw [State.precheck, if_neg first, yes, if_pos count]
  rfl

/-- A request refused at the first checks is answered with the tag state NONE, and that is all (R150). -/
theorem exec_refused {r : Request} {args : List Byte} {c : Completion} (hears : s.ports[p].deaf = false)
    (idle : s.ports[p].response = none) (h : s.precheck p r args = some c) :
    exec (r.row p args) s = .next (s.answered p r.code c []) := by
  rw [exec_row, arriveRequest_refused hears idle h]
  exact congrArg _ (respond_setTag _ _ _)

theorem requestOfCode_of_unknown {code : Byte} (h : code ∉ Config.requestCodes) : requestOfCode code = none := by
  have codes : allRequests.map Request.code = Config.requestCodes := by decide
  rw [requestOfCode, List.find?_eq_none]
  intro r hr same
  rw [beq_iff_eq] at same
  exact h (codes ▸ same ▸ List.mem_map_of_mem hr)

/-- A request with an unknown code is answered by the part state alone (R150, checks 1 and 2). -/
theorem exec_unknownRequest {code : Byte} (args : List Byte) (hears : s.ports[p].deaf = false)
    (idle : s.ports[p].response = none) (h : code ∉ Config.requestCodes) :
    exec (.unknownRequest p code args) s = .next
      (s.answered p code (if s.part = .starting then .starting else .unknownRequest) []) := by
  refine (congrArg _ (arrive_taken hears idle _) : exec (.unknownRequest p code args) s = .next (s.take p _)).trans ?_
  rw [State.take, requestOfCode_of_unknown h]
  exact congrArg _ (respond_setTag _ _ _)

/-- The permissions of 9.5, role by role. -/
theorem permits_iff (r : Request) (role : Role) : r.permits role = true ↔ role ≠ .off ∧
    (r ∈ [.quiet, .unquiet, .swap, .bind, .unbind, .setParam, .setLamp, .restart] → role = .desk) ∧
    (r ∈ [.hold, .free] → role = .desk ∨ role = .chair) ∧ (r ∈ [.grant, .revoke, .revokeAll] → role = .chair) := by
  cases r <;> cases role <;> decide

/-- Settles O10: the four checks in order, and the tables they read. -/
theorem requestsRefusedInOrder : Obligations.RequestsRefusedInOrder := by
  refine ⟨fun s p role held idle => ?_, permits_iff, by decide, by decide⟩
  have hears := deaf_eq_false role held
  refine ⟨fun r args => ⟨?_, ?_, ?_⟩, fun code args unknown => ⟨?_, ?_⟩⟩
  · exact fun starting other => exec_refused hears idle (precheck_starting args starting other)
  · exact fun h no => exec_refused hears idle (precheck_notPermitted args h no)
  · exact fun h yes count => exec_refused hears idle (precheck_badArgument h yes count)
  · intro starting
    rw [exec_unknownRequest args hears idle unknown, if_pos starting]
  · intro ready
    rw [exec_unknownRequest args hears idle unknown, if_neg (by rw [ready]; decide)]

/-! ## A response is over -/

theorem restarting_of_response {q : PortRec} {r : Response} (h : q.response = some r) : q.restarting = r.restarts := by
  rw [PortRec.restarting, h]
  rfl

theorem responseEnds_of_ordinary {r : Response} (h : s.ports[p].response = some r) (ordinary : r.restarts = false) :
    s.responseEnds p = (s.dropResponse p).takeWaiting p := by
  rw [State.responseEnds, restarting_of_response h, ordinary, h]
  rfl

theorem dropResponse_port (s : State) (p : PortId) :
    (s.dropResponse p).ports[p] = { s.ports[p] with response := none } := get_set_self _ _ _

/-- Settles O11: nothing waits, or what waits is taken as an arrival on the idle port. -/
theorem responseEnds : Obligations.ResponseEnds := by
  intro s p r sending ordinary
  have ends : exec (.responseEnd p) s = .next ((s.dropResponse p).takeWaiting p) :=
    congrArg _ (responseEnds_of_ordinary sending ordinary)
  refine ⟨fun free => ?_, fun a waits role held => ?_⟩
  · rw [ends, State.takeWaiting, dropResponse_port, free]
    rfl
  · rw [ends, State.takeWaiting, dropResponse_port, waits]
    let u : State := { s with ports := s.ports.set p { s.ports[p] with response := none, waiting := none } }
    have now : u.ports[p] = { s.ports[p] with response := none, waiting := none } := get_set_self _ _ _
    have taken : u.arrive p a = u.take p a :=
      arrive_taken (by rw [now]; exact deaf_eq_false role held) (by rw [now]) a
    have same : (s.dropResponse p).modPort p (fun q => { q with waiting := none }) = u := by
      simp only [State.dropResponse, State.modPort, get_set_self, set_set_self, u]
    exact congrArg _ ((congrArg (State.take · p a) same).trans taken.symm)

/-! ## Lamps -/

/-- The output by demand and active values (R167). -/
theorem output_cases (m : Lamp) :
    (m.demanded = false → m.output = false) ∧
    (m.demanded = true → m.activeO = 0 → m.output = false) ∧
    (m.demanded = true → 0 < m.activeO → m.activeP ≤ m.activeO → m.output = true) ∧
    (∀ start n, m.demanded = true → 0 < m.activeO → m.activeO < m.activeP →
      (m.cycle = .running start (.lit n) → m.output = true) ∧
      (m.cycle = .running start (.dark n) → m.output = false)) := by
  refine ⟨fun off => ?_, fun on zero => ?_, fun on pos le => ?_, fun start n on pos lt => ⟨fun cycle => ?_, fun cycle => ?_⟩⟩
  · simp [Lamp.output, off]
  · simp [Lamp.output, zero]
  · simp [Lamp.output, on, pos.ne', le]
  · simp [Lamp.output, on, pos.ne', cycle]
  · simp [Lamp.output, on, pos.ne', lt, cycle]

theorem endLit_of_lit {m : Lamp} {start : Stamp} {n : Nat} (h : m.cycle = .running start (.lit n)) :
    m.endLit = { m with cycle := .running start (.dark (m.activeP - m.activeO)) } := by
  rw [Lamp.endLit, h]

theorem endPeriod_of_dark {m : Lamp} {start : Stamp} {n : Nat} (h : m.cycle = .running start (.dark n)) (clock : Stamp) :
    m.endPeriod clock = { m with
      activeP := m.stagedP, activeO := m.stagedO
      cycle := if 0 < m.stagedO ∧ m.stagedO < m.stagedP then .running clock (.lit m.stagedO) else .stopped } := by
  rw [Lamp.endPeriod, h]
  simp only [Lamp.freshCycle, Lamp.blinks, Bool.and_eq_true, decide_eq_true_eq]

/-- Settles O34: the output, and the two rows that finish the parts of a cycle. -/
theorem lampOutputs : Obligations.LampOutputs := by
  refine ⟨output_cases, fun s k start n => ⟨fun lit => ?_, fun dark => ?_⟩⟩
  · exact congrArg (fun m => Host.Outcome.next { s with lamps := s.lamps.set k m }) (endLit_of_lit lit)
  · exact congrArg (fun m => Host.Outcome.next { s with lamps := s.lamps.set k m }) (endPeriod_of_dark dark s.clock)

end Sys2Proof.Machine.SimpleCommands
end

section
/-! PROOFS. What every command leaves alone: the pending commands and the line events, and but for POWER_ON the roles of
the ports. The frames of the console events, and what a request's action may do to a port. -/

namespace Sys2Proof.Machine.EventFrames

open Sys2Proof Sys2Proof.Machine Sys2Proof.Machine.Laws Sys2Proof.Machine.SimpleCommands

variable {s t u : State} {p : PortId}

/-! ## The commands -/

/-- A command is the row of a request, or one of the events of the lines, the timers and the part. -/
theorem command_cases {motive : Instr → Prop}
    (request : ∀ (r : Request) (p : PortId) (args : List Byte), motive (r.row p args))
    (powerOn : ∀ straps, motive (.powerOn straps)) (initialisationComplete : motive .initialisationComplete)
    (chamberClockTick : motive .chamberClockTick) (restartBegin : ∀ p, motive (.restartBegin p))
    (copy : ∀ l payload raw, motive (.copy l payload raw)) (status : ∀ l identity, motive (.status l identity))
    (uplinkBadFrame : ∀ l, motive (.uplinkBadFrame l))
    (uplinkInterByteTimeout : ∀ l, motive (.uplinkInterByteTimeout l))
    (breakDetected : ∀ l, motive (.breakDetected l)) (breakEnd : ∀ l, motive (.breakEnd l))
    (silenceTimerExpiry : ∀ l, motive (.silenceTimerExpiry l)) (downlinkSlot : ∀ l, motive (.downlinkSlot l))
    (mergeWindowExpiry : ∀ k, motive (.mergeWindowExpiry k)) (orderFrameEnd : ∀ l, motive (.orderFrameEnd l))
    (strangerAgingExpiry : ∀ r, motive (.strangerAgingExpiry r)) (lossTimerExpiry : ∀ i, motive (.lossTimerExpiry i))
    (recoveryGraceExpiry : ∀ i, motive (.recoveryGraceExpiry i))
    (voiceQualifyExpiry : ∀ i, motive (.voiceQualifyExpiry i)) (voiceEndExpiry : ∀ i, motive (.voiceEndExpiry i))
    (openGraceExpiry : ∀ i, motive (.openGraceExpiry i))
    (floorMutedQualifyExpiry : ∀ i, motive (.floorMutedQualifyExpiry i))
    (chatterWindowExpiry : ∀ i, motive (.chatterWindowExpiry i)) (syncWindowExpiry : ∀ i, motive (.syncWindowExpiry i))
    (reminderTimerExpiry : ∀ p, motive (.reminderTimerExpiry p)) (lampOnTimeEnd : ∀ m, motive (.lampOnTimeEnd m))
    (lampPeriodEnd : ∀ m, motive (.lampPeriodEnd m))
    (consoleInterByteTimeout : ∀ p, motive (.consoleInterByteTimeout p))
    (frameError : ∀ p code, motive (.frameError p code)) (arrivalWaiting : ∀ p a, motive (.arrivalWaiting p a))
    (unknownRequest : ∀ p code args, motive (.unknownRequest p code args))
    (responseEnd : ∀ p, motive (.responseEnd p)) (portBreak : ∀ p, motive (.portBreak p))
    (portBreakEnd : ∀ p, motive (.portBreakEnd p)) (c : Instr) : motive c := by
  cases c
  case summary p args => exact request .summary p args
  case readRoster p args => exact request .readRoster p args
  case readSeat p args => exact request .readSeat p args
  case readLink p args => exact request .readLink p args
  case readStrangers p args => exact request .readStrangers p args
  case readParam p args => exact request .readParam p args
  case ack p args => exact request .ack p args
  case setView p args => exact request .setView p args
  case setRemind p args => exact request .setRemind p args
  case setMask p args => exact request .setMask p args
  case clearOverflow p args => exact request .clearOverflow p args
  case mark p args => exact request .mark p args
  case tagFirst p args => exact request .tagFirst p args
  case tagLast p args => exact request .tagLast p args
  case quiet p args => exact request .quiet p args
  case unquiet p args => exact request .unquiet p args
  case hold p args => exact request .hold p args
  case free p args => exact request .free p args
  case swap p args => exact request .swap p args
  case grant p args => exact request .grant p args
  case revoke p args => exact request .revoke p args
  case revokeAll p args => exact request .revokeAll p args
  case bind p args => exact request .bind p args
  case unbind p args => exact request .unbind p args
  case setParam p args => exact request .setParam p args
  case setLamp p args => exact request .setLamp p args
  case restart p args => exact request .restart p args
  all_goals apply_assumption

/-! ## Frames of the console and power events -/

/-- What a command may change: every block but the pending commands and the line events. -/
def innerBlocks : List Block := .part :: .clock :: .initTimer :: .openFrames :: requestBlocks

theorem frame_powerOn (straps : Vector Strap 4) : ChangesOnly innerBlocks s (s.powerOn straps) := by
  intro b h; cases b <;> first | rfl | exact absurd (by decide) h

theorem frame_becomeReady : ChangesOnly [.part, .clock, .initTimer, .links] s s.becomeReady := by
  unfold State.becomeReady
  refine frame_ite ?_ frame_refl
  intro b h; cases b <;> first | rfl | exact absurd (by decide) h

theorem frame_tick : ChangesOnly [.clock] s s.tick := by
  unfold State.tick
  refine frame_ite ?_ frame_refl
  intro b h; cases b <;> first | rfl | exact absurd (by decide) h

/-- What the restart may change: it keeps the parameters (R149). -/
def restartBlocks : List Block :=
  [.part, .clock, .initTimer, .openFrames, .links, .seats, .strangers, .battery, .signal, .mute, .floorCount, .alerts,
    .attention, .queue, .syncs, .markers, .ports, .reminders, .lamps]

/-- The restart up to the evaluation of the outputs. -/
def restartedRecords (s : State) : State :=
  { s with
    part := .starting
    clock := 0
    initTimer := some Config.initMs
    links := s.links.map LinkRec.restarted
    openFrames := []
    seats := s.seats.map SeatRec.restarted
    strangers := []
    battery := s.onBound s.battery (Battery.fresh s.params.drain[0])
    signal := s.onBound s.signal Signal.fresh
    mute := s.onBound s.mute Mute.fresh
    floorCount := 0
    alerts := Alerts.initial
    attention := noPorts
    queue := []
    syncs := s.onBound s.syncs SyncRec.fresh
    markers := Vector.replicate 4 Markers.initial
    ports := s.ports.map PortRec.restarted }

theorem beginRestart_eq (s : State) : s.beginRestart = (restartedRecords s).evalOutputs := rfl

theorem frame_restartedRecords : ChangesOnly restartBlocks s (restartedRecords s) := by
  intro b h; cases b <;> first | exact absurd (by decide) h | rfl

theorem frame_beginRestart : ChangesOnly restartBlocks s s.beginRestart :=
  frame_then frame_restartedRecords frame_evalOutputs (by decide)

theorem frame_dropResponse : ChangesOnly [.ports] s (s.dropResponse p) := frame_modPort _ _

theorem frame_restartBegins : ChangesOnly restartBlocks s (s.restartBegins p) := by
  unfold State.restartBegins
  exact frame_ite (frame_trans (frame_mono frame_dropResponse (by decide)) frame_beginRestart) frame_refl

theorem frame_takeRequest (r : Request) (args : List Byte) : ChangesOnly requestBlocks s (s.takeRequest p r args) := by
  have tag : ChangesOnly requestBlocks s (s.setTag p .none) := frame_mono (frame_setTag _ _) (by decide)
  unfold State.takeRequest
  dsimp only
  split
  · exact frame_then tag (frame_respond _ _ _) (by decide)
  · exact frame_then (frame_trans tag (frame_perform _ _ _ _)) (frame_respond _ _ _) (by decide)

theorem frame_take (a : Arrival) : ChangesOnly requestBlocks s (s.take p a) := by
  cases a with
  | badFrame code => exact frame_mono (frame_respond _ _ _) (by decide)
  | request code args =>
    unfold State.take
    dsimp only
    split
    · exact frame_takeRequest _ _
    · exact frame_then (frame_mono (frame_setTag _ _) (by decide)) (frame_respond _ _ _) (by decide)

theorem frame_arrive (a : Arrival) : ChangesOnly requestBlocks s (s.arrive p a) := by
  unfold State.arrive
  dsimp only
  exact frame_ite frame_refl (frame_ite (frame_take a)
    (frame_ite (frame_mono (frame_modPort _ _) (by decide)) (frame_mono (frame_modPort _ _) (by decide))))

theorem frame_takeWaiting : ChangesOnly requestBlocks s (s.takeWaiting p) := by
  unfold State.takeWaiting
  split
  · exact frame_trans (frame_mono (frame_modPort _ _) (by decide)) (frame_take _)
  · exact frame_refl

theorem frame_responseEnds : ChangesOnly innerBlocks s (s.responseEnds p) := by
  unfold State.responseEnds
  have idle : ChangesOnly innerBlocks s (s.dropResponse p) := frame_mono frame_dropResponse (by decide)
  exact frame_ite (frame_then idle frame_beginRestart (by decide))
    (frame_ite (frame_then idle frame_takeWaiting (by decide)) frame_refl)

theorem frame_portReset (p : PortId) (fuel : Nat) :
    ChangesOnly [.ports, .attention, .queue, .syncs, .markers] s
      (((s.modPort p PortRec.reset).clearAttention p).dropMarkers p fuel) :=
  frame_then (frame_then (frame_mono (frame_modPort _ _) (by decide)) (frame_clearAttention _) (by decide))
    (frame_dropMarkers _ _) (by decide)

theorem frame_portBreaks : ChangesOnly innerBlocks s (s.portBreaks p) := by
  unfold State.portBreaks
  dsimp only
  have reset : ChangesOnly innerBlocks s
      (((s.modPort p PortRec.reset).clearAttention p).dropMarkers p s.queue.length) :=
    frame_mono (frame_portReset _ _) (by decide)
  exact frame_ite frame_refl (frame_ite (frame_then reset frame_beginRestart (by decide)) reset)

theorem frame_portBreakEnds : ChangesOnly [.ports] s (s.portBreakEnds p) :=
  frame_ite (frame_modPort _ _) frame_refl

theorem frame_consoleTimeout : ChangesOnly requestBlocks s (s.consoleTimeout p) :=
  frame_ite frame_refl (frame_trans (frame_mono (frame_modPort _ _) (by decide)) (frame_arrive _))

theorem frame_reminderExpires : ChangesOnly [.attention, .reminders] s (s.reminderExpires p) :=
  frame_then (frame_mono (frame_attend _) (by decide)) (frame_modReminder _ _) (by decide)

/-! ## The frame of any command -/

/-- An event that evaluates the outputs at its close, if it happens at all. -/
theorem frame_event {W : List Block} {c : Prop} [Decidable c] (h : ChangesOnly W s t) (hs : ∀ b ∈ W, b ∈ innerBlocks) :
    ChangesOnly innerBlocks s (if c then t.evalOutputs else s) :=
  frame_ite (frame_outputs (frame_mono h hs) (by decide) (by decide)) frame_refl

/-- Every command answers a next state, and changes none of the two lists of commands and line events. -/
theorem exec_frame (c : Instr) (s : State) : ∃ t, exec c s = .next t ∧ ChangesOnly innerBlocks s t := by
  induction c using command_cases with
  | request r p args => exact ⟨_, exec_row r p args s, frame_mono (frame_arrive _) (by decide)⟩
  | powerOn straps => exact ⟨_, rfl, frame_powerOn straps⟩
  | initialisationComplete => exact ⟨_, rfl, frame_mono frame_becomeReady (by decide)⟩
  | chamberClockTick => exact ⟨_, rfl, frame_mono frame_tick (by decide)⟩
  | restartBegin p => exact ⟨_, rfl, frame_mono frame_restartBegins (by decide)⟩
  | copy l payload raw => exact ⟨_, rfl, frame_event (frame_copyFrame l payload raw) (by decide)⟩
  | status l identity => exact ⟨_, rfl, frame_event (frame_statusFrame l identity) (by decide)⟩
  | uplinkBadFrame l => exact ⟨_, rfl, frame_ite (frame_mono (frame_modLink l _) (by decide)) frame_refl⟩
  | uplinkInterByteTimeout l => exact ⟨_, rfl, frame_ite (frame_mono (frame_modLink l _) (by decide)) frame_refl⟩
  | breakDetected l => exact ⟨_, rfl, frame_event (frame_detectBreak l) (by decide)⟩
  | breakEnd l => exact ⟨_, rfl, frame_mono (frame_endBreak l) (by decide)⟩
  | silenceTimerExpiry l => exact ⟨_, rfl, frame_event (frame_silenceExpires l) (by decide)⟩
  | downlinkSlot l => exact ⟨_, rfl, frame_mono (frame_slotExpires l) (by decide)⟩
  | mergeWindowExpiry key => exact ⟨_, rfl, frame_event (frame_windowExpires key) (by decide)⟩
  | orderFrameEnd l => exact ⟨_, rfl, frame_mono (frame_modLink l _) (by decide)⟩
  | strangerAgingExpiry radio => exact ⟨_, rfl, frame_mono (frame_setStrangers _) (by decide)⟩
  | lossTimerExpiry i => exact ⟨_, rfl, frame_event (frame_lossTimerExpires i) (by decide)⟩
  | recoveryGraceExpiry i => exact ⟨_, rfl, frame_event (frame_graceExpires i) (by decide)⟩
  | voiceQualifyExpiry i => exact ⟨_, rfl, frame_event (frame_voiceQualifyExpires i) (by decide)⟩
  | voiceEndExpiry i => exact ⟨_, rfl, frame_event (frame_voiceEndExpires i) (by decide)⟩
  | openGraceExpiry i => exact ⟨_, rfl, frame_event (frame_openGraceExpires i) (by decide)⟩
  | floorMutedQualifyExpiry i => exact ⟨_, rfl, frame_event (frame_floorMutedQualifyExpires i) (by decide)⟩
  | chatterWindowExpiry i => exact ⟨_, rfl, frame_event (frame_chatterWindowExpires i) (by decide)⟩
  | syncWindowExpiry i => exact ⟨_, rfl, frame_mono (frame_syncWindowExpires i) (by decide)⟩
  | reminderTimerExpiry p => exact ⟨_, rfl, frame_ite (frame_mono frame_reminderExpires (by decide)) frame_refl⟩
  | lampOnTimeEnd m => exact ⟨_, rfl, frame_mono (frame_modLamp m _) (by decide)⟩
  | lampPeriodEnd m => exact ⟨_, rfl, frame_mono (frame_modLamp m _) (by decide)⟩
  | consoleInterByteTimeout p => exact ⟨_, rfl, frame_mono frame_consoleTimeout (by decide)⟩
  | frameError p code => exact ⟨_, rfl, frame_mono (frame_arrive _) (by decide)⟩
  | arrivalWaiting p a => exact ⟨_, rfl, frame_mono (frame_arrive a) (by decide)⟩
  | unknownRequest p code args => exact ⟨_, rfl, frame_mono (frame_arrive _) (by decide)⟩
  | responseEnd p => exact ⟨_, rfl, frame_responseEnds⟩
  | portBreak p => exact ⟨_, rfl, frame_portBreaks⟩
  | portBreakEnd p => exact ⟨_, rfl, frame_mono frame_portBreakEnds (by decide)⟩

/-- Settles O2: any command's frame, and the two steps with no command pending. -/
theorem commandsAnswerAndKeepQueues : Obligations.CommandsAnswerAndKeepQueues := by
  refine ⟨fun c s => ?_, fun s hp hr => step_idle hp hr, fun s e rest hp hr => step_of_line hp hr⟩
  obtain ⟨t, next, frame⟩ := exec_frame c s
  exact ⟨t, next, frame .pending (by decide), frame .rxInput (by decide)⟩

end Sys2Proof.Machine.EventFrames
end

section
/-! PROOFS. Power-on, the roles of the ports, and the restart (9.1, 9.4). -/

namespace Sys2Proof.Machine.PowerAndRestart

open Sys2Proof Sys2Proof.Machine Sys2Proof.Machine.Laws Sys2Proof.Machine.PortSettings
open Sys2Proof.Machine.SimpleCommands Sys2Proof.Machine.EventFrames Sys2Proof.Machine.AttentionLine

variable {s t u : State} {p q : PortId}

theorem get_replicate {α : Type} {n : Nat} (x : α) (i : Fin n) : (Vector.replicate n x)[i] = x := by simp

/-! ## Power-on -/

theorem initial_slot (src : Source) : Alerts.initial.slot src = .clear := by
  cases src with
  | seat i k => simp [Alerts.slot, Alerts.initial, clearSlots]
  | link l => simp [Alerts.slot, Alerts.initial]

theorem powerOn_link (straps : Vector Strap 4) (s : State) (l : LinkId) :
    (s.powerOn straps).links[l] = { LinkRec.initial with lineActive := s.links[l].lineActive } := by
  simp only [State.powerOn, State.afterPowerOn, get_ofFn, get_replicate]

/-- Settles O3: each block of power-on, read off the model's initial values. -/
theorem powerOnValues : Obligations.PowerOnValues := by
  intro straps s
  refine ⟨_, rfl, rfl, rfl, rfl, rfl, fun l => powerOn_link straps s l, rfl, rfl, rfl, rfl, fun i => get_replicate _ i,
    fun i => get_replicate _ i, fun i => get_replicate _ i, fun i => get_replicate _ i, fun i => get_replicate _ i,
    rfl, rfl, rfl, initial_slot, fun p => ⟨get_replicate _ p, get_replicate _ p, get_replicate _ p, get_replicate _ p⟩,
    fun p => ?_, fun m => get_replicate _ m⟩
  rw [powerOn_port]
  exact ⟨rfl, rfl, rfl, rfl, rfl, rfl, rfl, fun on => if_neg on⟩

/-! ## Roles -/

theorem strapRole_eq_chair (x : Strap) : strapRole x = .chair ↔ x = ⟨true, true⟩ := by
  obtain ⟨a, b⟩ := x
  cases a <;> cases b <;> decide

theorem chairBelow_iff (straps : Vector Strap 4) (p : PortId) :
    chairBelow straps p = true ↔ ∃ q : PortId, q < p ∧ straps[q] = ⟨true, true⟩ := by
  simp only [chairBelow, allPorts, List.any_eq_true, List.mem_finRange, true_and, Bool.and_eq_true, decide_eq_true_eq,
    beq_iff_eq, strapRole_eq_chair]

theorem powerOn_role (straps : Vector Strap 4) (s : State) (p : PortId) :
    (s.powerOn straps).ports[p].role =
      if strapRole straps[p] = .chair ∧ chairBelow straps p then .monitor else strapRole straps[p] := by
  rw [powerOn_port, rolesOf, get_ofFn]
  rfl

/-- The role a change of one port leaves at every port, if it leaves it at that port. -/
theorem modPort_role {f : PortRec → PortRec} (hf : ∀ r, (f r).role = r.role) (s : State) (p q : PortId) :
    (s.modPort p f).ports[q].role = s.ports[q].role := by
  rw [modPort_ports]
  by_cases same : q = p
  · rw [same, get_set_self, hf]
  · rw [get_set_ne _ same]

theorem beginRestart_role (s : State) (q : PortId) : s.beginRestart.ports[q].role = s.ports[q].role := by
  rw [beginRestart_ports, get_map]
  rfl

/-- What a request's action may do to the ports: to write their tag states, views and masks. -/
def SettingsOnly (v w : Vector PortRec 4) : Prop :=
  ∀ q : PortId, ∃ (g : TagState) (x : View) (m : Bool), w[q] = { v[q] with tag := g, view := x, mask := m }

theorem settingsOnly_refl (v : Vector PortRec 4) : SettingsOnly v v := fun q => ⟨v[q].tag, v[q].view, v[q].mask, rfl⟩

theorem settingsOnly_modPort {f : PortRec → PortRec}
    (hf : ∀ r, ∃ (g : TagState) (x : View) (m : Bool), f r = { r with tag := g, view := x, mask := m }) (s : State)
    (p : PortId) : SettingsOnly s.ports (s.modPort p f).ports := by
  intro q
  rw [modPort_ports]
  by_cases same : q = p
  · rw [same, get_set_self]; exact hf _
  · rw [get_set_ne _ same]; exact settingsOnly_refl _ q

theorem settingsOnly_of_ports (h : t.ports = s.ports) : SettingsOnly s.ports t.ports := by
  rw [h]; exact settingsOnly_refl _

theorem storeView_ports (s : State) (p : PortId) (v : View) :
    (s.storeView p v).ports = (s.modPort p fun q => { q with view := v }).ports := by
  have tests : ∀ (t : State) (srcs : List Source), (t.removalTests srcs).evalOutputs.ports = t.ports := fun t srcs =>
    (frame_evalOutputs .ports (by decide)).trans (frame_removalTests srcs .ports (by decide))
  exact tests _ _

theorem settingsOnly_setViewRequest (s : State) (p : PortId) (n b l : Nat) (v : Byte) (k : BitVec 16) :
    SettingsOnly s.ports (s.setViewRequest p n b l v k).2.ports := by
  have stored (t : PortId) (x : View) : SettingsOnly s.ports (s.storeView t x).ports := by
    rw [storeView_ports]
    exact settingsOnly_modPort (fun r => ⟨r.tag, x, r.mask, rfl⟩) s t
  unfold State.setViewRequest
  repeat' split
  all_goals first | exact settingsOnly_refl _ | exact stored _ _

theorem settingsOnly_setMaskRequest (s : State) (p : PortId) (b : Byte) :
    SettingsOnly s.ports (s.setMaskRequest p b).2.ports := by
  have stored (m : Bool) : SettingsOnly s.ports (s.modPort p fun q => { q with mask := m }).ports :=
    settingsOnly_modPort (fun r => ⟨r.tag, r.view, m, rfl⟩) s p
  unfold State.setMaskRequest
  repeat' split
  all_goals first | exact settingsOnly_refl _ | exact stored _

theorem settingsOnly_setTag (s : State) (p : PortId) (g : TagState) : SettingsOnly s.ports (s.setTag p g).ports :=
  settingsOnly_modPort (f := fun q => { q with tag := g }) (fun r => ⟨g, r.view, r.mask, rfl⟩) s p

theorem settingsOnly_tagFirst (s : State) (p : PortId) (n : Nat) : SettingsOnly s.ports (s.tagFirst p n).2.ports := by
  unfold State.tagFirst
  split
  · exact settingsOnly_setTag _ _ _
  · exact settingsOnly_refl _

theorem settingsOnly_tagLast (s : State) (p : PortId) (ts : TagState) (n : Nat) :
    SettingsOnly s.ports (s.tagLast p ts n).2.ports := by
  unfold State.tagLast
  repeat' split
  all_goals first | exact settingsOnly_refl _ | exact settingsOnly_setTag _ _ _

/-- A request's action writes at most the tag state, the view and the mask of a port. -/
theorem perform_ports (s : State) (p : PortId) (ts : TagState) (args : List Byte) (r : Request) :
    SettingsOnly s.ports (s.perform p ts args r).2.ports := by
  have kept {W : List Block} {t : State} (h : ChangesOnly W s t) (hW : Block.ports ∉ W) :
      SettingsOnly s.ports t.ports := settingsOnly_of_ports (h .ports hW)
  have out {W : List Block} {x : Reply × State} (h : ChangesOnly W s x.2)
      (hW : Block.ports ∉ Block.reminders :: Block.lamps :: W) :
      SettingsOnly s.ports (withOutputs x).2.ports :=
    kept (frame_withOutputs (W := .reminders :: .lamps :: W) (frame_mono h fun b hb => by simp [hb]) (by simp)
      (by simp)) hW
  cases r with
  | summary => exact kept (frame_clearAttention p) (by decide)
  | readRoster => exact kept (W := []) (frame_readRosterRequest _ _ _) (by decide)
  | readSeat => exact kept (W := []) (frame_readSeatRequest _) (by decide)
  | readLink => exact kept (W := []) (frame_readLinkRequest _) (by decide)
  | readStrangers => exact settingsOnly_refl _
  | readParam => exact kept (W := []) (frame_readParamRequest _) (by decide)
  | ack => exact kept (frame_ackRequest _ _ _ _) (by decide)
  | setView => exact settingsOnly_setViewRequest _ _ _ _ _ _ _
  | setRemind => exact kept (frame_setRemindRequest _ _) (by decide)
  | setMask => exact settingsOnly_setMaskRequest _ _ _
  | clearOverflow => exact settingsOnly_refl _
  | mark => exact kept (frame_markRequest _) (by decide)
  | tagFirst => exact settingsOnly_tagFirst _ _ _
  | tagLast => exact settingsOnly_tagLast _ _ _ _
  | quiet => exact kept (frame_seatOrRange _ _ _ fun _ _ => frame_quietRule _) (by decide)
  | unquiet => exact out (frame_seatOrRange _ _ _ fun _ _ => frame_unquietRule _) (by decide)
  | hold => exact out (frame_seatOrRange _ _ _ fun _ _ => frame_holdRule _) (by decide)
  | free => exact kept (frame_seatOrRange _ _ _ fun _ _ => frame_freeRule _) (by decide)
  | swap => exact out (frame_seatOrRange _ _ _ fun _ _ => frame_swapRule _) (by decide)
  | grant => exact kept (frame_grantRequest _) (by decide)
  | revoke => exact out (frame_seatOrRange _ _ _ fun _ _ => frame_revokeRule _) (by decide)
  | revokeAll => exact out (frame_overSeats _ _ fun _ _ => frame_revokeRule _) (by decide)
  | bind => exact kept (frame_bindRequest _ _) (by decide)
  | unbind => exact kept (frame_unbindRequest _) (by decide)
  | setParam => exact kept (frame_setParamRequest _ _) (by decide)
  | setLamp => exact kept (frame_setLampRequest _) (by decide)
  | restart => exact settingsOnly_refl _

theorem role_of_settingsOnly {v w : Vector PortRec 4} (h : SettingsOnly v w) (q : PortId) : w[q].role = v[q].role := by
  obtain ⟨_, _, _, same⟩ := h q
  rw [same]

theorem respond_role (s : State) (p q : PortId) (code : Byte) (x : Reply) :
    (s.respond p code x).ports[q].role = s.ports[q].role :=
  modPort_role (f := fun r => { r with overrun := false, response := some ⟨code, x.completion, r.overrun, x.result, x.restarts⟩ })
    (fun _ => rfl) s p q

theorem setTag_role (s : State) (p q : PortId) (g : TagState) : (s.setTag p g).ports[q].role = s.ports[q].role :=
  modPort_role (f := fun r => { r with tag := g }) (fun _ => rfl) s p q

theorem takeRequest_role (s : State) (p q : PortId) (r : Request) (args : List Byte) :
    (s.takeRequest p r args).ports[q].role = s.ports[q].role := by
  unfold State.takeRequest
  dsimp only
  split
  · rw [respond_role, setTag_role]
  · rw [respond_role, role_of_settingsOnly (perform_ports _ _ _ _ _), setTag_role]

theorem take_role (s : State) (p q : PortId) (a : Arrival) : (s.take p a).ports[q].role = s.ports[q].role := by
  cases a with
  | badFrame code => exact respond_role _ _ _ _ _
  | request code args =>
    unfold State.take
    dsimp only
    split
    · exact takeRequest_role _ _ _ _ _
    · rw [State.takeUnknown, respond_role, setTag_role]

theorem arrive_role (s : State) (p q : PortId) (a : Arrival) : (s.arrive p a).ports[q].role = s.ports[q].role := by
  unfold State.arrive
  dsimp only
  split
  · rfl
  · split
    · exact take_role _ _ _ _
    · split
      · exact modPort_role (f := fun r => { r with waiting := some a }) (fun _ => rfl) _ _ _
      · exact modPort_role (f := fun r => { r with overrun := true }) (fun _ => rfl) _ _ _

theorem dropResponse_role (s : State) (p q : PortId) : (s.dropResponse p).ports[q].role = s.ports[q].role :=
  modPort_role (f := fun r => { r with response := none }) (fun _ => rfl) _ _ _

theorem takeWaiting_role (s : State) (p q : PortId) : (s.takeWaiting p).ports[q].role = s.ports[q].role := by
  unfold State.takeWaiting
  split
  · rw [take_role]
    exact modPort_role (f := fun r => { r with waiting := none }) (fun _ => rfl) _ _ _
  · rfl

theorem responseEnds_role (s : State) (p q : PortId) : (s.responseEnds p).ports[q].role = s.ports[q].role := by
  unfold State.responseEnds
  split
  · rw [beginRestart_role, dropResponse_role]
  · split
    · rw [takeWaiting_role, dropResponse_role]
    · rfl

theorem restartBegins_role (s : State) (p q : PortId) : (s.restartBegins p).ports[q].role = s.ports[q].role := by
  unfold State.restartBegins
  split
  · rw [beginRestart_role, dropResponse_role]
  · rfl

theorem portBreaks_role (s : State) (p q : PortId) : (s.portBreaks p).ports[q].role = s.ports[q].role := by
  have reset (fuel : Nat) :
      (((s.modPort p PortRec.reset).clearAttention p).dropMarkers p fuel).ports[q].role = s.ports[q].role := by
    rw [frame_dropMarkers p fuel .ports (by decide)]
    exact modPort_role (f := PortRec.reset) (fun _ => rfl) _ _ _
  unfold State.portBreaks
  dsimp only
  split
  · rfl
  · split
    · rw [beginRestart_role, reset]
    · exact reset _

/-- Only POWER_ON changes a role. -/
theorem exec_role (c : Instr) (s : State) (q : PortId) (hc : ∀ straps, c ≠ .powerOn straps) :
    ∃ t, exec c s = .next t ∧ t.ports[q].role = s.ports[q].role := by
  have kept {W : List Block} {t : State} (h : ChangesOnly W s t) (hW : Block.ports ∉ W) :
      t.ports[q].role = s.ports[q].role := by rw [h .ports hW]
  have event {W : List Block} {t : State} {c : Prop} [Decidable c] (h : ChangesOnly W s t) (hW : Block.ports ∉ W) :
      (if c then t.evalOutputs else s).ports[q].role = s.ports[q].role := by
    split
    · exact (congrArg (fun v : Vector PortRec 4 => v[q].role) (frame_evalOutputs .ports (by decide))).trans (kept h hW)
    · rfl
  induction c using command_cases with
  | request r p args => exact ⟨_, exec_row r p args s, arrive_role _ _ _ _⟩
  | powerOn straps => exact absurd rfl (hc straps)
  | initialisationComplete => exact ⟨_, rfl, kept frame_becomeReady (by decide)⟩
  | chamberClockTick => exact ⟨_, rfl, kept frame_tick (by decide)⟩
  | restartBegin p => exact ⟨_, rfl, restartBegins_role _ _ _⟩
  | copy l payload raw => exact ⟨_, rfl, event (frame_copyFrame l payload raw) (by decide)⟩
  | status l identity => exact ⟨_, rfl, event (frame_statusFrame l identity) (by decide)⟩
  | uplinkBadFrame l => exact ⟨_, rfl, kept (frame_ite (frame_modLink l _) frame_refl) (by decide)⟩
  | uplinkInterByteTimeout l => exact ⟨_, rfl, kept (frame_ite (frame_modLink l _) frame_refl) (by decide)⟩
  | breakDetected l => exact ⟨_, rfl, event (frame_detectBreak l) (by decide)⟩
  | breakEnd l => exact ⟨_, rfl, kept (frame_endBreak l) (by decide)⟩
  | silenceTimerExpiry l => exact ⟨_, rfl, event (frame_silenceExpires l) (by decide)⟩
  | downlinkSlot l => exact ⟨_, rfl, kept (frame_slotExpires l) (by decide)⟩
  | mergeWindowExpiry key => exact ⟨_, rfl, event (frame_windowExpires key) (by decide)⟩
  | orderFrameEnd l => exact ⟨_, rfl, kept (frame_modLink l _) (by decide)⟩
  | strangerAgingExpiry radio => exact ⟨_, rfl, kept (frame_setStrangers _) (by decide)⟩
  | lossTimerExpiry i => exact ⟨_, rfl, event (frame_lossTimerExpires i) (by decide)⟩
  | recoveryGraceExpiry i => exact ⟨_, rfl, event (frame_graceExpires i) (by decide)⟩
  | voiceQualifyExpiry i => exact ⟨_, rfl, event (frame_voiceQualifyExpires i) (by decide)⟩
  | voiceEndExpiry i => exact ⟨_, rfl, event (frame_voiceEndExpires i) (by decide)⟩
  | openGraceExpiry i => exact ⟨_, rfl, event (frame_openGraceExpires i) (by decide)⟩
  | floorMutedQualifyExpiry i => exact ⟨_, rfl, event (frame_floorMutedQualifyExpires i) (by decide)⟩
  | chatterWindowExpiry i => exact ⟨_, rfl, event (frame_chatterWindowExpires i) (by decide)⟩
  | syncWindowExpiry i => exact ⟨_, rfl, kept (frame_syncWindowExpires i) (by decide)⟩
  | reminderTimerExpiry p => exact ⟨_, rfl, kept (frame_ite frame_reminderExpires frame_refl) (by decide)⟩
  | lampOnTimeEnd m => exact ⟨_, rfl, kept (frame_modLamp m _) (by decide)⟩
  | lampPeriodEnd m => exact ⟨_, rfl, kept (frame_modLamp m _) (by decide)⟩
  | consoleInterByteTimeout p =>
    refine ⟨_, rfl, ?_⟩
    unfold State.consoleTimeout
    split
    · rfl
    · rw [arrive_role]
      exact modPort_role (f := fun r => { r with rx := .hunting }) (fun _ => rfl) _ _ _
  | frameError p code => exact ⟨_, rfl, arrive_role _ _ _ _⟩
  | arrivalWaiting p a => exact ⟨_, rfl, arrive_role _ _ _ _⟩
  | unknownRequest p code args => exact ⟨_, rfl, arrive_role _ _ _ _⟩
  | responseEnd p => exact ⟨_, rfl, responseEnds_role _ _ _⟩
  | portBreak p => exact ⟨_, rfl, portBreaks_role _ _ _⟩
  | portBreakEnd p =>
    refine ⟨_, rfl, ?_⟩
    unfold State.portBreakEnds
    split
    · exact modPort_role (f := fun r => { r with inBreak := false, lineActive := false, breakTimer := none, rx := .hunting })
        (fun _ => rfl) _ _ _
    · rfl

/-- Settles O4: the strap table, and no other command's change. -/
theorem rolesComeFromStraps : Obligations.RolesComeFromStraps := by
  refine ⟨fun straps s p => ⟨_, rfl, ?_⟩, fun c s t p hc next => ?_⟩
  · rw [powerOn_role]
    refine ⟨fun h => ?_, fun h => ?_, fun h => ?_, fun h first => ?_, fun h below => ?_⟩
    · rw [h]; rfl
    · rw [h]; rfl
    · rw [h]; rfl
    · have none : ¬chairBelow straps p = true := by
        rw [chairBelow_iff]
        rintro ⟨q, lower, chair⟩
        exact first q lower chair
      rw [if_neg fun both => none both.2, h]
      rfl
    · rw [if_pos ⟨(strapRole_eq_chair _).2 h, (chairBelow_iff _ _).2 below⟩]
  · obtain ⟨u, next', same⟩ := exec_role c s p hc
    rw [next] at next'
    cases next'
    exact same

/-! ## The restart -/

theorem restartBegins_of_restarting {r : Response} (h : s.ports[p].response = some r) (hr : r.restarts = true) :
    s.restartBegins p = (s.dropResponse p).beginRestart := by
  rw [State.restartBegins, restarting_of_response h, hr, if_pos rfl]

theorem responseEnds_of_restarting {r : Response} (h : s.ports[p].response = some r) (hr : r.restarts = true) :
    s.responseEnds p = (s.dropResponse p).beginRestart := by
  rw [State.responseEnds, restarting_of_response h, hr, if_pos rfl]

/-- A part of the seat records after the restart (R2). -/
theorem onBound_get {α : Type} (s : State) (v : Vector α 192) (fresh : α) (i : SeatId) :
    (s.onBound v fresh)[i] = if s.bound i then fresh else v[i] := by
  rw [State.onBound, get_ofFn]

/-- With no entry in the roster every reminder condition is false. -/
theorem remindCondition_of_empty (h : s.alerts.roster = []) (q : PortId) : s.remindCondition q = false := by
  rw [State.remindCondition, h, List.any_nil, Bool.and_false]

theorem evalOutputs_reminder (s : State) (q : PortId) :
    s.evalOutputs.reminders[q] = s.reminders[q].evaluate (s.remindCondition q) :=
  get_ofFn (fun p => s.reminders[p].evaluate (s.remindCondition p)) q

theorem evalOutputs_lamp (s : State) (m : LampId) :
    s.evalOutputs.lamps[m] = s.lamps[m].follow s.clock (s.lampDemand s.lamps[m]) :=
  get_map _ _ _

theorem beginRestart_reminder (s : State) (q : PortId) :
    s.beginRestart.reminders[q] = s.reminders[q].evaluate false := by
  rw [beginRestart_eq, evalOutputs_reminder, remindCondition_of_empty rfl]
  rfl

theorem beginRestart_lamp (s : State) (m : LampId) :
    s.beginRestart.lamps[m] = s.lamps[m].follow 0 (decide (s.lamps[m].mode = .on)) := by
  have demand : (restartedRecords s).lampDemand s.lamps[m] = decide (s.lamps[m].mode = .on) := by
    rw [State.lampDemand]
    cases s.lamps[m].mode <;> rfl
  rw [beginRestart_eq, evalOutputs_lamp]
  exact congrArg _ demand

theorem evaluate_false (r : Reminder) :
    (r.evaluate false).staged = r.staged ∧ (r.evaluate false).timer = none ∧
      (r.timer.isSome = true → (r.evaluate false).active = r.staged) := by
  obtain ⟨staged, active, timer⟩ := r
  cases timer with
  | none => exact ⟨rfl, rfl, nofun⟩
  | some n => exact ⟨rfl, rfl, fun _ => rfl⟩

/-- Following a demand leaves mode, selector and staged values. -/
theorem follow_settings (m : Lamp) (clock : Stamp) (demand : Bool) :
    (m.follow clock demand).mode = m.mode ∧ (m.follow clock demand).lowest = m.lowest ∧
      (m.follow clock demand).scope = m.scope ∧ (m.follow clock demand).stagedP = m.stagedP ∧
      (m.follow clock demand).stagedO = m.stagedO := by
  cases demand <;> exact ⟨rfl, rfl, rfl, rfl, rfl⟩

theorem beginRestart_port (s : State) (q : PortId) : s.beginRestart.ports[q] = s.ports[q].restarted := by
  rw [beginRestart_ports, get_map]

theorem bound_iff (s : State) (i : SeatId) : s.bound i = true ↔ s.seats[i].state ≠ .vacant := by
  rw [State.bound, bne_iff_ne]

theorem restarted_of_bound {x : SeatRec} (h : x.state ≠ .vacant) :
    x.restarted = { SeatRec.vacant with radio := x.radio, state := .awaiting } := if_neg h

/-- Settles O7: the restart begun with the response gone, block by block. -/
theorem restartBegins : Obligations.RestartBegins := by
  intro s p r sending marked
  let u := s.dropResponse p
  have ports (q : PortId) :
      u.beginRestart.ports[q] = { s.ports[q] with
        rx := .hunting, waiting := none, overrun := false, tag := .none,
        response := if q = p then none else s.ports[q].response.map fun x => { x with restarts := false } } := by
    rw [beginRestart_port]
    by_cases same : q = p
    · rw [same, if_pos rfl, dropResponse_port]; rfl
    · have other : u.ports[q] = s.ports[q] := get_set_ne _ same _
      rw [other, if_neg same]; rfl
  have lamps (m : LampId) : u.beginRestart.lamps[m] = s.lamps[m].follow 0 (decide (s.lamps[m].mode = .on)) :=
    beginRestart_lamp u m
  have reminders (q : PortId) : u.beginRestart.reminders[q] = s.reminders[q].evaluate false := beginRestart_reminder u q
  refine ⟨u.beginRestart, congrArg Host.Outcome.next (restartBegins_of_restarting sending marked),
    congrArg Host.Outcome.next (responseEnds_of_restarting sending marked), rfl, rfl, rfl, rfl,
    fun l => get_map _ _ _, rfl, rfl, rfl, rfl, fun i vacant => ?_, fun i isBound => ?_, rfl, rfl, rfl, initial_slot,
    fun q => ?_, ports, fun m => ?_, rfl, rfl⟩
  · have state : s.seats[i].state = .vacant := by
      by_contra no
      rw [(bound_iff s i).2 no] at vacant
      exact absurd vacant (by decide)
    have unbound : ¬u.bound i = true := by rw [show u.bound i = false from vacant]; decide
    refine ⟨(get_map _ _ _).trans (if_pos state), ?_, ?_, ?_, ?_⟩
    all_goals exact (onBound_get u _ _ i).trans (if_neg unbound)
  · refine ⟨(get_map _ _ _).trans (restarted_of_bound ((bound_iff s i).1 isBound)), ?_, ?_, ?_, ?_⟩
    all_goals exact (onBound_get u _ _ i).trans (if_pos isBound)
  · refine ⟨get_replicate _ q, get_replicate _ q, get_replicate _ q, ?_⟩
    rw [reminders]
    exact evaluate_false _
  · obtain ⟨mode, lowest, scope, stagedP, stagedO⟩ := follow_settings s.lamps[m] 0 (decide (s.lamps[m].mode = .on))
    rw [lamps]
    refine ⟨mode, lowest, scope, stagedP, stagedO, fun notOn => ?_⟩
    rw [decide_eq_false notOn]
    exact ⟨rfl, rfl, rfl, rfl⟩

end Sys2Proof.Machine.PowerAndRestart
end

section
/-! PROOFS. The reads: record lengths and places of fields, SUMMARY, and the requests that only report (9.7, 11.4). -/

namespace Sys2Proof.Machine.Reads

open Sys2Proof Sys2Proof.Machine Sys2Proof.Machine.Laws Sys2Proof.Machine.PortSettings

variable {s t : State} {p : PortId}

/-! ## Record layouts -/

@[simp] theorem length_bytes16 (w : BitVec 16) : (bytes16 w).length = 2 := rfl
@[simp] theorem length_bytes32 (w : BitVec 32) : (bytes32 w).length = 4 := rfl
@[simp] theorem length_nat16 (n : Nat) : (nat16 n).length = 2 := rfl
@[simp] theorem length_nat32 (n : Nat) : (nat32 n).length = 4 := rfl
@[simp] theorem length_int16 (v : Int) : (int16 v).length = 2 := rfl
@[simp] theorem length_sourceBytes (src : Source) : src.bytes.length = 2 := by cases src <;> rfl

/-- The detail of an entry is padded to eight bytes. -/
@[simp] theorem length_detailBytes (d : Detail) : d.bytes.length = 8 := by cases d <;> simp [Detail.bytes]

@[simp] theorem length_seatKinds : seatKinds.length = 9 := rfl

theorem length_seatBytes (s : State) (i : SeatId) : (s.seatBytes i).length = 56 := by
  delta State.seatBytes
  dsimp only
  simp only [List.length_append, List.length_cons, List.length_nil, length_bytes16, length_bytes32, length_nat16,
    length_int16, length_seatKinds, List.length_map]

/-- The first bytes of a seat record: number, state, presence, radio ID; and what follows them up to the last heard
stamp. -/
theorem seatBytes_front (s : State) (i : SeatId) : ∃ presence boot link copies audio f0 f1 rest,
    s.seatBytes i = [seatByte i, byte1 s.seats[i].state.code] ++ ([presence] ++ (bytes32 (s.seats[i].radio.getD 0) ++
      ([boot, f0, f1, link, copies, audio] ++ (bytes32 (s.seats[i].lastHeard.getD 0) ++ rest)))) := by
  delta State.seatBytes
  dsimp only
  simp only [List.append_assoc]
  exact ⟨_, _, _, _, _, _, _, _, rfl⟩

/-- The last bytes of a seat record: hold, pattern, order, four bytes of the SYNC fields, and the nine slots. -/
theorem seatBytes_back (s : State) (i : SeatId) : ∃ front c1 c2 tag sync,
    s.seatBytes i = front ++ ([byte1 s.mute[i].hold.code, byte1 s.mute[i].pattern.code, byte1 s.mute[i].order.code] ++
      ([c1, c2, tag, sync] ++ seatKinds.map fun k => (s.slot (.seat i k)).byte)) ∧ front.length = 40 := by
  delta State.seatBytes
  dsimp only
  refine ⟨_, _, _, _, _, (List.append_assoc _ _ _).trans ((List.append_assoc _ _ _).trans (List.append_assoc _ _ _)), ?_⟩
  simp only [List.length_append, List.length_cons, List.length_nil, length_bytes16, length_bytes32, length_nat16,
    length_int16]

theorem seatBytes_layout (s : State) (i : SeatId) : (s.seatBytes i).length = 56 ∧
    (s.seatBytes i).take 2 = [seatByte i, byte1 s.seats[i].state.code] ∧
    ((s.seatBytes i).drop 3).take 4 = bytes32 (s.seats[i].radio.getD 0) ∧
    ((s.seatBytes i).drop 13).take 4 = bytes32 (s.seats[i].lastHeard.getD 0) ∧
    ((s.seatBytes i).drop 40).take 3 =
      [byte1 s.mute[i].hold.code, byte1 s.mute[i].pattern.code, byte1 s.mute[i].order.code] ∧
    (s.seatBytes i).drop 47 = seatKinds.map fun k => (s.slot (.seat i k)).byte := by
  obtain ⟨_, _, _, _, _, _, _, _, front⟩ := seatBytes_front s i
  obtain ⟨head, _, _, _, _, back, length⟩ := seatBytes_back s i
  refine ⟨length_seatBytes s i, by rw [front]; rfl, by rw [front]; rfl, by rw [front]; rfl, ?_, ?_⟩
  · rw [back, ← length, List.drop_left]
    rfl
  · rw [back, show 47 = head.length + 7 by rw [length], ← List.drop_drop, List.drop_left]
    rfl

theorem linkBytes_layout (s : State) (l : LinkId) : (s.linkBytes l).length = 19 ∧
    (s.linkBytes l).take 3 = [byte1 l.val, byte1 (flag s.links[l].enable), byte1 s.links[l].state.code] ∧
    ((s.linkBytes l).drop 7).take 4 = bytes32 (s.links[l].identity.getD 0) :=
  ⟨rfl, rfl, rfl⟩

/-- The fields of an entry up to its stamp do not hang on its detail, the last eight bytes. -/
theorem entryBytes_layout (s : State) (p : PortId) (e : Entry) : (s.entryBytes p e).length = 28 ∧
    (s.entryBytes p e).take 2 = nat16 e.tag ∧ ((s.entryBytes p e).drop 7).take 4 = bytes32 e.stamp := by
  refine ⟨by simp [State.entryBytes], rfl, ?_⟩
  cases src : e.source <;> simp only [State.entryBytes, src] <;> rfl

/-- Settles O38: the lengths, and the fields at their places. -/
theorem recordLayouts : Obligations.RecordLayouts :=
  ⟨seatBytes_layout, linkBytes_layout, entryBytes_layout, fun _ => ⟨rfl, rfl⟩⟩

/-! ## Bytes that name seats and links -/

theorem toNat_byte1 {n : Nat} (h : n < 256) : (byte1 n).toNat = n := by
  rw [byte1, BitVec.toNat_ofNat]
  omega

theorem seatOfNumber_seatNumber (i : SeatId) : seatOfNumber (seatNumber i) = some i := by
  have inRange : 1 ≤ seatNumber i ∧ seatNumber i ≤ 192 := ⟨Nat.succ_pos _, i.isLt⟩
  rw [seatOfNumber, dif_pos inRange]
  rfl

theorem toNat_seatByte (i : SeatId) : (seatByte i).toNat = seatNumber i := toNat_byte1 (n := i.val + 1) (by have := i.isLt; omega)

theorem seatOfNumber_seatByte (i : SeatId) : seatOfNumber (seatByte i).toNat = some i := by
  rw [toNat_seatByte, seatOfNumber_seatNumber]

theorem toNat_eq_zero_of_eq {b : Byte} (h : b = 0) : b.toNat = 0 := by rw [h]; rfl

theorem seatOfNumber_of_invalid {b : Byte} (h : b = 0 ∨ 192 < b.toNat) : seatOfNumber b.toNat = none := by
  have outside : ¬(1 ≤ b.toNat ∧ b.toNat ≤ 192) := by
    rcases h with zero | large
    · rw [toNat_eq_zero_of_eq zero]; omega
    · omega
  rw [seatOfNumber, dif_neg outside]

theorem linkOfNumber_val (l : LinkId) : linkOfNumber (byte1 l.val).toNat = some l := by
  have inRange : (byte1 l.val).toNat = l.val := toNat_byte1 (by have := l.isLt; omega)
  rw [inRange, linkOfNumber, dif_pos l.isLt]

theorem byte1_toNat (b : Byte) : byte1 b.toNat = b := by rw [byte1, BitVec.ofNat_toNat, BitVec.setWidth_eq]

/-! ## Requests that change nothing but the answering port -/

/-- A request whose action leaves the state alone is answered, and that is all. -/
theorem exec_answered {r : Request} {args : List Byte} {c : Completion} {result : List Byte} (h : Admitted s p r)
    (ha : args.length = r.argCount)
    (acts : (s.setTag p .none).perform p s.ports[p].tag args r = (⟨c, result, false⟩, s.setTag p .none)) :
    exec (r.row p args) s = .next (s.answered p r.code c result) := by
  rw [exec_admitted h ha, acts]
  exact congrArg _ (respond_setTag _ _ _)

/-- The due entries hang on the role and the view of a port, and not on its tag state. -/
theorem due_setTag (s : State) (p q : PortId) (g : TagState) (e : Entry) : (s.setTag p g).due q e = s.due q e := by
  simp only [State.due, State.dueTo, State.setTag, modPort_ports]
  by_cases same : q = p
  · rw [same, get_set_self]
  · rw [get_set_ne _ same]

theorem dueUnacked_setTag (s : State) (p q : PortId) (g : TagState) (e : Entry) :
    (s.setTag p g).dueUnacked q e = s.dueUnacked q e := by
  simp only [State.dueUnacked, due_setTag]

theorem entryBytes_setTag (s : State) (p : PortId) (g : TagState) : (s.setTag p g).entryBytes p = s.entryBytes p := by
  funext e
  simp only [State.entryBytes, due_setTag]

theorem summaryBytes_setTag (s : State) (p : PortId) (g : TagState) :
    (s.setTag p g).summaryBytes p = s.summaryBytes p := by
  simp only [State.summaryBytes, State.dueUnackedList, dueUnacked_setTag]
  rfl

theorem readSeat_of_valid (s : State) (i : SeatId) :
    s.readSeatRequest (seatByte i).toNat = (.done (s.seatBytes i), s) := by
  rw [State.readSeatRequest, seatOfNumber_seatByte]

theorem readLink_of_valid (s : State) (l : LinkId) :
    s.readLinkRequest (byte1 l.val).toNat = (.done (s.linkBytes l), s) := by
  rw [State.readLinkRequest, linkOfNumber_val]

theorem readRoster_of_valid (s : State) (p : PortId) (a n : Byte) (h1 : 1 ≤ n.toNat) (h6 : n.toNat ≤ 6) :
    s.readRosterRequest p a.toNat n.toNat = (.done (byte1 s.alerts.roster.length ::
      byte1 (min n.toNat (s.alerts.roster.length - a.toNat)) ::
      ((s.alerts.roster.drop a.toNat).take n.toNat).flatMap (s.entryBytes p)), s) := by
  rw [State.readRosterRequest, if_pos ⟨h1, h6⟩]
  simp only [List.length_take, List.length_drop]

/-- Settles O37: each read, on a number that names a record and on one that does not. -/
theorem readsReportOnly : Obligations.ReadsReportOnly := by
  intro s p
  refine ⟨fun h => ⟨fun i => ?_, fun b out => ?_⟩, fun h => ⟨fun l => ?_, fun b out => ?_⟩, fun h => ?_,
    fun h => ⟨fun b q named => ?_, fun b unnamed => ?_⟩, fun h => ⟨fun a n h1 h6 => ?_, fun a n out => ?_⟩⟩
  · exact exec_answered (args := [seatByte i]) h rfl (readSeat_of_valid _ i)
  · refine exec_answered (args := [b]) h rfl ?_
    rw [State.perform, State.readSeatRequest, show argNat [b] 0 = b.toNat from rfl, seatOfNumber_of_invalid out]
    rfl
  · exact exec_answered (args := [byte1 l.val]) h rfl (readLink_of_valid _ l)
  · refine exec_answered (args := [b]) h rfl ?_
    have outside : linkOfNumber b.toNat = none := dif_neg (by omega)
    rw [State.perform, State.readLinkRequest, show argNat [b] 0 = b.toNat from rfl, outside]
    rfl
  · exact exec_answered (args := []) h rfl rfl
  · refine exec_answered (args := [b]) h rfl ?_
    rw [State.perform, State.readParamRequest, show argNat [b] 0 = b.toNat from rfl, named, byte1_toNat]
    rfl
  · refine exec_answered (args := [b]) h rfl ?_
    rw [State.perform, State.readParamRequest, show argNat [b] 0 = b.toNat from rfl, unnamed]
    rfl
  · refine exec_answered (args := [a, n]) h rfl ?_
    rw [← entryBytes_setTag s p .none]
    exact readRoster_of_valid _ p a n h1 h6
  · refine exec_answered (args := [a, n]) h rfl ?_
    have outside : ¬(1 ≤ n.toNat ∧ n.toNat ≤ 6) := by
      rcases out with zero | large
      · rw [toNat_eq_zero_of_eq zero]; omega
      · omega
    exact if_neg outside

/-! ## SUMMARY -/

/-- The greatest severity among entries, from a least value on. -/
theorem foldl_max_spec (es : List Entry) (n : Nat) :
    (n ≤ es.foldl (fun n e => max n e.severity.num) n) ∧
    (∀ e ∈ es, e.severity.num ≤ es.foldl (fun n e => max n e.severity.num) n) ∧
    (es.foldl (fun n e => max n e.severity.num) n = n ∨
      ∃ e ∈ es, es.foldl (fun n e => max n e.severity.num) n = e.severity.num) := by
  induction es generalizing n with
  | nil => exact ⟨Nat.le_refl _, nofun, .inl rfl⟩
  | cons e es ih =>
    obtain ⟨least, above, attained⟩ := ih (max n e.severity.num)
    rw [List.foldl_cons]
    refine ⟨(Nat.le_max_left _ _).trans least, ?_, ?_⟩
    · intro x hx
      rcases List.mem_cons.1 hx with rfl | hx
      · exact (Nat.le_max_right _ _).trans least
      · exact above x hx
    · rcases attained with stays | ⟨x, hx, same⟩
      · rcases Nat.le_total n e.severity.num with le | le
        · exact .inr ⟨e, List.mem_cons_self, stays.trans (Nat.max_eq_right le)⟩
        · exact .inl (stays.trans (Nat.max_eq_left le))
      · exact .inr ⟨x, List.mem_cons_of_mem _ hx, same⟩

theorem severity_num_pos (sev : Severity) : 0 < sev.num := by cases sev <;> decide

theorem summaryBytes_drop (s : State) (p : PortId) :
    (s.summaryBytes p).drop 13 = [byte1 s.links[0].state.code, byte1 s.links[1].state.code,
      byte1 s.links[2].state.code, byte1 s.links[3].state.code, byte1 s.links[4].state.code,
      byte1 s.links[5].state.code] := rfl

theorem byte1_flag (b : Bool) : byte1 (flag b) = if b then 1 else 0 := by cases b <;> rfl

/-- The eight bytes in the middle of a SUMMARY: counts, highest severity, first tag, marks. -/
theorem summaryBytes_middle (s : State) (p : PortId) : ((s.summaryBytes p).drop 5).take 8 =
    [byte1 s.alerts.roster.length, byte1 (s.alerts.roster.countP (s.dueUnacked p)),
      byte1 ((s.dueUnackedList p).foldl (fun n e => max n e.severity.num) 0)] ++
    nat16 (((s.dueUnackedList p).head?.map (·.tag)).getD 0) ++
    [if s.alerts.overflow[p] then 1 else 0, byte1 s.markers[p].last, byte1 s.strangers.length] := by
  rw [List.countP_eq_length_filter, ← byte1_flag]
  rfl

/-- SUMMARY is admitted in STARTING too. -/
theorem exec_summary (role : s.ports[p].role ≠ .off) (held : s.ports[p].inBreak = false)
    (idle : s.ports[p].response = none) : exec (.summary p []) s = .next
      { s.answered p 0x01 .done (s.summaryBytes p) with attention := s.attention.set p false } := by
  have permitted : Request.summary.permits s.ports[p].role = true := by
    cases h : s.ports[p].role <;> first | exact absurd h role | rfl
  have check : s.precheck p .summary [] = none := by
    rw [State.precheck, if_neg fun both => both.2 rfl, permitted]
    rfl
  have taken : s.arriveRequest p .summary [] =
      ((s.setTag p .none).clearAttention p).respond p 0x01 (.done ((s.setTag p .none).summaryBytes p)) := by
    rw [State.arriveRequest, arrive_taken (deaf_eq_false role held) idle, take_request, State.takeRequest, check]
    rfl
  refine (exec_row .summary p [] s).trans (congrArg _ (taken.trans ?_))
  rw [summaryBytes_setTag, ← respond_setTag]
  rfl

/-- Settles O36: the answer with attention cleared, and the bytes one block after the other. -/
theorem summaryReportsAndClears : Obligations.SummaryReportsAndClears := by
  intro s p role held idle
  have mem (e : Entry) : e ∈ s.dueUnackedList p ↔ e ∈ s.alerts.roster ∧ s.dueUnacked p e = true := List.mem_filter
  obtain ⟨-, above, attained⟩ := foldl_max_spec (s.dueUnackedList p) 0
  refine ⟨exec_summary role held idle, rfl, rfl, ⟨_, _, summaryBytes_middle s p, ?_, ?_, ?_, ?_⟩, summaryBytes_drop s p⟩
  · intro none
    have empty : s.dueUnackedList p = [] := List.filter_eq_nil_iff.2 fun e he => by rw [none e he]; decide
    rw [empty]
    exact ⟨rfl, rfl⟩
  · rintro ⟨e, he, due⟩
    rcases attained with zero | ⟨x, hx, same⟩
    · have := above e ((mem e).2 ⟨he, due⟩)
      have := severity_num_pos e.severity
      omega
    · obtain ⟨hx, due⟩ := (mem x).1 hx
      exact ⟨x, hx, due, same⟩
  · exact fun e he due => above e ((mem e).2 ⟨he, due⟩)
  · intro pre post e split due first
    have noneBefore : pre.filter (s.dueUnacked p) = [] :=
      List.filter_eq_nil_iff.2 fun x hx => by rw [first x hx]; decide
    rw [State.dueUnackedList, split, List.filter_append, noneBefore, List.nil_append,
      List.filter_cons_of_pos due]
    rfl

end Sys2Proof.Machine.Reads
end

section
/-! PROOFS. BIND (1.2), and the argument bytes that carry words. -/

namespace Sys2Proof.Machine.Binding

open Sys2Proof Sys2Proof.Machine Sys2Proof.Machine.Laws Sys2Proof.Machine.PortSettings Sys2Proof.Machine.Reads

variable {s t : State} {p : PortId}

/-! ## Words in argument bytes -/

/-- Words behind a first byte are read from the bytes behind it. -/
theorem argWord16_cons (b : Byte) (bs : List Byte) (k : Nat) : argWord16 (b :: bs) (k + 1) = argWord16 bs k := rfl

theorem argWord32_cons (b : Byte) (bs : List Byte) (k : Nat) : argWord32 (b :: bs) (k + 1) = argWord32 bs k := rfl

/-- The four bytes of a word are read back as the word (R170). -/
theorem argWord32_bytes32 (w : BitVec 32) : argWord32 (bytes32 w) 0 = w := by
  simp only [argWord32, argWord16, argByte, bytes32, List.getD_cons_zero, List.getD_cons_succ]
  rw [BitVec.extractLsb'_append_extractLsb'_eq_extractLsb' (x := w) (start₁ := 16) (start₂ := 24) rfl,
    BitVec.extractLsb'_append_extractLsb'_eq_extractLsb' (x := w) (start₁ := 0) (start₂ := 8) rfl]
  exact (BitVec.extractLsb'_append_extractLsb'_eq_extractLsb' (x := w) (Nat.zero_add 16).symm).trans
    BitVec.extractLsb'_eq_self

theorem argWord32_bind (b : Byte) (r : RadioId) : argWord32 (b :: bytes32 r) 1 = r :=
  (argWord32_cons b _ 0).trans (argWord32_bytes32 r)

/-! ## BIND -/

theorem validRadio_iff (r : RadioId) : validRadio r = true ↔ r ≠ 0 ∧ r ≠ 0xFFFFFFFF := by
  rw [validRadio, Bool.and_eq_true, bne_iff_ne, bne_iff_ne]

/-- Whether the radio ID is bound to some seat (R3). -/
theorem seatOf_isSome_iff (s : State) (r : RadioId) : (s.seatOf r).isSome = true ↔ ∃ j : SeatId, s.seats[j].radio = some r := by
  simp only [State.seatOf, List.find?_isSome, allSeats, List.mem_finRange, true_and, beq_iff_eq]

theorem bindRequest_of_invalid {b : Byte} {r : RadioId} (h : b = 0 ∨ 192 < b.toNat ∨ r = 0 ∨ r = 0xFFFFFFFF) :
    s.bindRequest b.toNat r = (.bare .badArgument, s) := by
  unfold State.bindRequest
  split
  next i named =>
    have radio : validRadio r = false := by
      rw [← Bool.not_eq_true, validRadio_iff]
      rintro ⟨zero, ones⟩
      rcases h with h | h | h | h
      · rw [seatOfNumber_of_invalid (.inl h)] at named; exact nomatch named
      · rw [seatOfNumber_of_invalid (.inr h)] at named; exact nomatch named
      · exact zero h
      · exact ones h
    rw [radio]
    rfl
  next => rfl

/-- BIND on a seat, with a valid radio ID: the two checks, and what DONE leaves (R5). -/
theorem bindRequest_seatByte (i : SeatId) {r : RadioId} (valid : validRadio r = true) :
    s.bindRequest (seatByte i).toNat r =
      if s.bound i then (.bare .seatTaken, s)
      else if (s.seatOf r).isSome then (.bare .idTaken, s)
      else (.done [], s.bindSeat i r) := by
  rw [State.bindRequest, seatOfNumber_seatByte]
  dsimp only
  rw [valid]
  rfl

/-- Settles O48: the checks of BIND in order, and the seat it takes. -/
theorem bindTakesSeat : Obligations.BindTakesSeat := by
  intro s p b r h
  have acts : (s.setTag p .none).perform p s.ports[p].tag (b :: bytes32 r) .bind =
      (s.setTag p .none).bindRequest b.toNat r := by
    rw [State.perform, argWord32_bind]
    rfl
  refine ⟨fun invalid => ?_, fun i hb zero ones => ?_⟩
  · exact exec_answered (args := b :: bytes32 r) h rfl (acts.trans (bindRequest_of_invalid invalid))
  · subst hb
    rw [bindRequest_seatByte i ((validRadio_iff r).2 ⟨zero, ones⟩)] at acts
    refine ⟨fun bound => ?_, fun free taken => ?_, fun free unused => ?_⟩
    · exact exec_answered (args := seatByte i :: bytes32 r) h rfl (acts.trans (if_pos bound))
    · have unbound : ¬(s.setTag p .none).bound i = true := by rw [show (s.setTag p .none).bound i = false from free]; decide
      refine exec_answered (args := seatByte i :: bytes32 r) h rfl (acts.trans ((if_neg unbound).trans ?_))
      exact if_pos ((seatOf_isSome_iff s r).2 taken)
    · have unbound : ¬(s.setTag p .none).bound i = true := by rw [show (s.setTag p .none).bound i = false from free]; decide
      have unknown : ¬((s.setTag p .none).seatOf r).isSome = true := fun taken =>
        have ⟨j, radio⟩ := (seatOf_isSome_iff s r).1 taken
        unused j radio
      rw [if_neg unbound, if_neg unknown] at acts
      refine (exec_admitted (args := seatByte i :: bytes32 r) h rfl).trans ?_
      rw [acts, ← respond_setTag]
      rfl

end Sys2Proof.Machine.Binding
end

section
/-! PROOFS. SET-PARAM on the parameters other than link enable (9.9, 11.3). -/

namespace Sys2Proof.Machine.Parameters

open Sys2Proof Sys2Proof.Machine Sys2Proof.Machine.Laws Sys2Proof.Machine.PortSettings
open Sys2Proof.Machine.Reads Sys2Proof.Machine.Binding

variable {s t : State} {p : PortId} {q : Param}

/-! ## Identifiers -/

theorem paramOfId_of_unused {n : Nat} (h : n ∈ [22, 23] ∨ 30 ≤ n) : paramOfId n = none := by
  have outside : n = 22 ∨ n = 23 ∨ 30 ≤ n := by simpa [or_assoc] using h
  unfold paramOfId
  repeat rw [if_neg (by omega)]
  rw [dif_neg (by omega), dif_neg (by omega), dif_neg (by omega)]

/-! ## Values -/

/-- The value of a parameter hangs on the parameters and the links alone. -/
theorem paramValue_of_same (hp : t.params = s.params) (hl : t.links = s.links) (q : Param) :
    t.paramValue q = s.paramValue q := by
  cases q <;> simp only [State.paramValue, hp, hl]

/-- The value stored lies in the range, but for a floor limit raised to the floor count (R91). -/
theorem storedValue_eq (s : State) (q : Param) (v : Int) :
    s.storedValue q v =
      if q = .floorLimit then max (max (q.range s.params).1 (min (q.range s.params).2 v)) s.floorCount
      else max (q.range s.params).1 (min (q.range s.params).2 v) := by
  cases q <;> rfl

theorem storedValue_nonneg (s : State) {q : Param} (v : Int) (h : 0 ≤ (q.range s.params).1) : 0 ≤ s.storedValue q v := by
  rw [storedValue_eq]
  split <;> omega

/-- The parameter is kept as a count. -/
def Param.isCount : Param → Prop
  | .weakThreshold | .autoMute | .linkEnable _ | .linkOffset _ => False
  | _ => True

theorem range_nonneg_of_isCount (ps : Params) (h : Param.isCount q) : 0 ≤ (q.range ps).1 := by
  cases q <;> first | exact h.elim | simp [Param.range]

/-- A count is stored as written. -/
theorem paramValue_storeParam_of_isCount (s : State) (h : Param.isCount q) {v : Int} (hv : 0 ≤ v) :
    (s.storeParam q v).paramValue q = v := by
  have back : ((v.toNat : Nat) : Int) = v := Int.toNat_of_nonneg hv
  cases q with
  | drain c => exact (congrArg Int.ofNat (get_set_self _ _ _)).trans back
  | weakThreshold => exact h.elim
  | autoMute => exact h.elim
  | linkEnable l => exact h.elim
  | linkOffset l => exact h.elim
  | _ => exact back

/-- The value stored is the value in force, for a parameter that is no link's enable. -/
theorem paramValue_storeParam (s : State) (w : Int) (hq : ∀ l, q ≠ .linkEnable l) :
    (s.storeParam q (s.storedValue q w)).paramValue q = s.storedValue q w := by
  by_cases count : Param.isCount q
  · exact paramValue_storeParam_of_isCount s count (storedValue_nonneg s w (range_nonneg_of_isCount _ count))
  · cases q with
    | weakThreshold => rfl
    | autoMute =>
      have bit : s.storedValue .autoMute w = 0 ∨ s.storedValue .autoMute w = 1 := by
        simp only [State.storedValue, Param.range, clampInt]
        omega
      rcases bit with e | e <;> rw [e] <;> rfl
    | linkEnable l => exact absurd rfl (hq l)
    | linkOffset l => exact congrArg LinkRec.offset (get_set_self _ _ _)
    | _ => exact absurd trivial count

/-- A write of one parameter leaves the others, but for critical minutes under low minutes (R69). -/
theorem paramValue_storeParam_ne (s : State) (v : Int) {q q' : Param} (hq : ∀ l, q ≠ .linkEnable l) (ne : q' ≠ q)
    (crit : ¬(q = .lowMinutes ∧ q' = .critMinutes)) : (s.storeParam q v).paramValue q' = s.paramValue q' := by
  cases q with
  | linkEnable l => exact absurd rfl (hq l)
  | linkOffset l =>
    cases q' with
    | linkEnable m =>
      have same : (s.storeParam (.linkOffset l) v).links[m].enable = s.links[m].enable := by
        rw [State.storeParam, modLink_links]
        by_cases e : m = l
        · rw [e, get_set_self]
        · rw [get_set_ne _ e]
      simp only [State.paramValue, same]
    | linkOffset m =>
      have other : m ≠ l := fun e => ne (by rw [e])
      exact congrArg LinkRec.offset (get_set_ne _ other _)
    | _ => rfl
  | drain c =>
    cases q' with
    | drain d =>
      have other : d ≠ c := fun e => ne (by rw [e])
      exact congrArg Int.ofNat (get_set_ne _ other _)
    | _ => rfl
  | lowMinutes =>
    cases q' with
    | lowMinutes => exact absurd rfl ne
    | critMinutes => exact absurd ⟨rfl, rfl⟩ crit
    | _ => rfl
  | _ => cases q' <;> first | rfl | exact absurd rfl ne

theorem storeParam_lowMinutes_crit (s : State) (v : Int) :
    (s.storeParam .lowMinutes v).params.critMinutes = min s.params.critMinutes (v.toNat - 1) := rfl

theorem frame_storeParam_of_plain (s : State) (v : Int) (hq : ∀ l, q ≠ .linkEnable l) :
    ChangesOnly [.params, .links] s (s.storeParam q v) := by
  unfold State.storeParam
  split
  · exact absurd rfl (hq _)
  · exact frame_mono (frame_modLink _ _) (by decide)
  · intro b h; cases b <;> first | rfl | exact absurd (by decide) h

/-! ## SET-PARAM -/

/-- SET-PARAM on a known parameter, with its completion and result as 11.3 gives them. -/
theorem setParamRequest_of_known {n : Nat} (h : paramOfId n = some q) (v : Int) :
    let stored := s.storedValue q v
    let u := s.storeParam q stored
    s.setParamRequest n v =
      (⟨if stored = v ∧ (q = .lowMinutes → u.params.critMinutes = s.params.critMinutes) then .done else .clamped,
        int16 stored ++ if q = .lowMinutes ∧ u.params.critMinutes ≠ s.params.critMinutes
          then nat16 u.params.critMinutes else [], false⟩, u.evalOutputs) := by
  rw [State.setParamRequest, h]
  refine Prod.ext ?_ rfl
  simp only [Reply.stored, Bool.or_eq_true, bne_iff_ne, Bool.and_eq_true, decide_eq_true_eq, Reply.mk.injEq, and_true]
  rw [← ite_not]
  exact if_congr (by tauto) rfl rfl

theorem argWord16_tail (b : Byte) (w : BitVec 16) : argWord16 (b :: bytes16 w) 1 = w :=
  (argWord16_cons b _ 0).trans (argWord16_bytes16 w)

theorem perform_setParam (s : State) (p : PortId) (ts : TagState) (b : Byte) (w : BitVec 16) :
    s.perform p ts (b :: bytes16 w) .setParam = s.setParamRequest b.toNat w.toInt := by
  rw [State.perform, argWord16_tail]
  rfl

theorem exec_setParam_of_plain {b : Byte} {w : BitVec 16} (h : Admitted s p .setParam)
    (named : paramOfId b.toNat = some q) (hq : ∀ l, q ≠ .linkEnable l) :
    let stored := s.storedValue q w.toInt
    ∃ t, exec (.setParam p (b :: bytes16 w)) s = .next t ∧ t.paramValue q = stored ∧
      (∀ q', q' ≠ q → ¬(q = .lowMinutes ∧ q' = .critMinutes) → t.paramValue q' = s.paramValue q') ∧
      (q = .lowMinutes → t.params.critMinutes = min s.params.critMinutes (stored.toNat - 1)) ∧
      Answers s t p 0x30
        (if stored = w.toInt ∧ (q = .lowMinutes → t.params.critMinutes = s.params.critMinutes) then .done else .clamped)
        (int16 stored ++ if q = .lowMinutes ∧ t.params.critMinutes ≠ s.params.critMinutes
          then nat16 t.params.critMinutes else []) ∧
      ChangesOnly [.params, .links, .ports, .reminders, .lamps] s t := by
  have taken := exec_admitted (args := b :: bytes16 w) h rfl
  rw [perform_setParam, setParamRequest_of_known named] at taken
  let s0 := s.setTag p .none
  let u := s0.storeParam q (s.storedValue q w.toInt)
  have params : ∀ code x, (u.evalOutputs.respond p code x).params = u.params := fun _ _ => rfl
  have links : ∀ code x, (u.evalOutputs.respond p code x).links = u.links := fun _ _ => rfl
  have frame : ChangesOnly [.params, .links] s0 u := frame_storeParam_of_plain s0 _ hq
  refine ⟨_, taken, ?_, fun q' ne crit => ?_, ?_, ?_, ?_⟩
  · exact (paramValue_of_same (params _ _) (links _ _) q).trans (paramValue_storeParam s0 w.toInt hq)
  · exact (paramValue_of_same (params _ _) (links _ _) q').trans
      ((paramValue_storeParam_ne s0 _ hq ne crit).trans (paramValue_of_same rfl rfl q'))
  · rintro rfl
    exact storeParam_lowMinutes_crit s0 _
  · exact answers_respond (frame_evalOutputs (s := u) .ports (by decide) |>.trans (frame .ports (by decide))) _ _ _
  · refine frame_then ?_ (frame_respond _ _ _) (by decide)
    refine frame_then ?_ frame_evalOutputs (by decide)
    exact frame_trans (frame_mono (frame_setTag p .none) (by decide)) (frame_mono frame (by decide))

theorem exec_setParam_of_unknown {b : Byte} {w : BitVec 16} (h : Admitted s p .setParam)
    (unnamed : paramOfId b.toNat = none) :
    exec (.setParam p (b :: bytes16 w)) s = .next (s.answered p 0x30 .badArgument []) := by
  refine exec_answered (args := b :: bytes16 w) h rfl ?_
  rw [perform_setParam, State.setParamRequest, unnamed]
  rfl

/-- Settles O50: the ranges, the identifiers, and SET-PARAM on a known and on an unknown identifier. -/
theorem setParamStores : Obligations.SetParamStores := by
  refine ⟨fun ps => ⟨rfl, rfl, rfl, rfl, fun _ => rfl, rfl, rfl, rfl, rfl, rfl, rfl, rfl, fun _ => ⟨rfl, rfl⟩⟩,
    by decide, by decide, fun n => paramOfId_of_unused, ?_, fun s p b w h => exec_setParam_of_unknown h⟩
  intro s p b w q h named hq
  have stored := storedValue_eq s q w.toInt
  dsimp only
  rw [← stored]
  exact exec_setParam_of_plain h named hq

end Sys2Proof.Machine.Parameters
end

section
/-! PROOFS. SET-LAMP (R158, R166, R168): the lamp it configures, its demand and its active values. -/

namespace Sys2Proof.Machine.LampSetting

open Sys2Proof Sys2Proof.Machine Sys2Proof.Machine.Laws Sys2Proof.Machine.PortSettings Sys2Proof.Machine.Reads

variable {s t : State} {p : PortId} {m : Lamp}

/-! ## One lamp -/

theorem blinking_iff (m : Lamp) :
    m.blinking = true ↔ m.demanded = true ∧ 0 < m.activeO ∧ m.activeO < m.activeP := by
  simp only [Lamp.blinking, Lamp.blinks, Bool.and_eq_true, decide_eq_true_eq]

theorem follow_demanded (m : Lamp) (clock : Stamp) (d : Bool) : (m.follow clock d).demanded = d := by cases d <;> rfl

/-- The configured values of a lamp, whatever its blinking. -/
theorem configure_settings (m : Lamp) (mode : LampMode) (low : Severity) (scope : LampScope) (bp bo : Nat) :
    (m.configure mode low scope bp bo).mode = mode ∧ (m.configure mode low scope bp bo).lowest = low ∧
      (m.configure mode low scope bp bo).scope = scope ∧ (m.configure mode low scope bp bo).stagedP = bp ∧
      (m.configure mode low scope bp bo).stagedO = bo := by
  unfold Lamp.configure
  dsimp only
  split <;> exact ⟨rfl, rfl, rfl, rfl, rfl⟩

/-- A blinking lamp keeps its active values; another takes the staged ones (R168, log 6). -/
theorem configure_of_blinking (h : m.blinking = true) (mode : LampMode) (low : Severity) (scope : LampScope) (bp bo : Nat) :
    (m.configure mode low scope bp bo).activeP = m.activeP ∧ (m.configure mode low scope bp bo).activeO = m.activeO := by
  rw [Lamp.configure, if_pos h]
  exact ⟨rfl, rfl⟩

theorem configure_of_not_blinking (h : ¬m.blinking = true) (mode : LampMode) (low : Severity) (scope : LampScope)
    (bp bo : Nat) :
    (m.configure mode low scope bp bo).activeP = bp ∧ (m.configure mode low scope bp bo).activeO = bo := by
  rw [Lamp.configure, if_neg h]
  exact ⟨rfl, rfl⟩

/-- The lamp that SET-LAMP leaves: configured, and following its demand. -/
def configured (m : Lamp) (mode : LampMode) (low : Severity) (scope : LampScope) (bp bo : Nat) (clock : Stamp) (d : Bool) :
    Lamp := (m.configure mode low scope bp bo).follow clock d

variable {mode : LampMode} {low : Severity} {scope : LampScope} {bp bo : Nat} {clock : Stamp} {d : Bool}

theorem configured_settings :
    (configured m mode low scope bp bo clock d).mode = mode ∧ (configured m mode low scope bp bo clock d).lowest = low ∧
      (configured m mode low scope bp bo clock d).scope = scope ∧
      (configured m mode low scope bp bo clock d).stagedP = bp ∧
      (configured m mode low scope bp bo clock d).stagedO = bo := by
  obtain ⟨h1, h2, h3, h4, h5⟩ := configure_settings m mode low scope bp bo
  obtain ⟨k1, k2, k3, k4, k5⟩ :=
    PowerAndRestart.follow_settings (m.configure mode low scope bp bo) clock d
  exact ⟨k1.trans h1, k2.trans h2, k3.trans h3, k4.trans h4, k5.trans h5⟩

theorem configured_demanded : (configured m mode low scope bp bo clock d).demanded = d := follow_demanded _ _ _

/-- The active values stay only where the lamp blinked and stays demanded. -/
theorem configured_active_of_blinking (h : m.blinking = true) :
    (configured m mode low scope bp bo clock true).activeP = m.activeP ∧
      (configured m mode low scope bp bo clock true).activeO = m.activeO :=
  configure_of_blinking h mode low scope bp bo

theorem configured_active_of_not (h : d = false ∨ ¬m.blinking = true) :
    (configured m mode low scope bp bo clock d).activeP = bp ∧
      (configured m mode low scope bp bo clock d).activeO = bo := by
  cases d with
  | false =>
    obtain ⟨-, -, -, stagedP, stagedO⟩ := configure_settings m mode low scope bp bo
    exact ⟨stagedP, stagedO⟩
  | true => exact configure_of_not_blinking (h.resolve_left nofun) mode low scope bp bo

theorem configured_cycle_of_dark : (configured m mode low scope bp bo clock false).cycle = .stopped := rfl

/-! ## Demand -/

theorem lampMatches_iff (s : State) (m : Lamp) (e : Entry) : s.lampMatches m e = true ↔
    m.lowest.num ≤ e.severity.num ∧ (m.scope = .any ∨ ∃ q, m.scope = .unackedBy q ∧ s.dueUnacked q e = true) := by
  rw [State.lampMatches, Bool.and_eq_true, decide_eq_true_eq]
  cases m.scope <;> simp

theorem lampDemand_iff (s : State) (m : Lamp) : s.lampDemand m = true ↔ m.mode = .on ∨ (m.mode = .function ∧
    ∃ e ∈ s.alerts.roster, m.lowest.num ≤ e.severity.num ∧
      (m.scope = .any ∨ ∃ q, m.scope = .unackedBy q ∧ s.dueUnacked q e = true)) := by
  rw [State.lampDemand]
  cases mode : m.mode
  case off => simp
  case on => simp
  case function => simp only [List.any_eq_true, lampMatches_iff, reduceCtorEq, false_or, true_and]

/-- The demand does not hang on the tag state of a port. -/
theorem lampDemand_setTag (s : State) (p : PortId) (g : TagState) (m : Lamp) :
    (s.setTag p g).lampDemand m = s.lampDemand m := by
  rw [Bool.eq_iff_iff, lampDemand_iff, lampDemand_iff]
  simp only [Reads.dueUnacked_setTag]
  rfl

/-! ## SET-LAMP -/

theorem lampOfNumber_val (k : LampId) : lampOfNumber k.val = some k := dif_pos k.isLt

/-- SET-LAMP with operands in range: its answer, and the one lamp it writes. -/
theorem setLampRequest_of_valid {k : LampId} {args : List Byte} (named : argNat args 0 = k.val)
    (hm : modeOfCode (argByte args 1) = some mode) (hl : severityOfCode (argByte args 2) = some low)
    (hs : scopeOfCode (argByte args 3) (argNat args 4) = some scope) :
    let bp := max 2 (min 50 (argNat args 5))
    let bo := min 50 (argNat args 6)
    s.setLampRequest args =
      (⟨if bp = argNat args 5 ∧ bo = argNat args 6 then .done else .clamped, [byte1 bp, byte1 bo], false⟩,
        s.configureLamp k mode low scope bp bo) := by
  rw [State.setLampRequest, named, lampOfNumber_val, hm, hl, hs]
  refine Prod.ext ?_ rfl
  simp only [Reply.stored, Bool.or_eq_true, bne_iff_ne, Reply.mk.injEq, and_true]
  rw [← ite_not]
  exact if_congr (by tauto) rfl rfl

theorem configureLamp_lamps (s : State) (k : LampId) :
    (s.configureLamp k mode low scope bp bo).lamps = s.lamps.set k
      (configured s.lamps[k] mode low scope bp bo s.clock
        (s.lampDemand (s.lamps[k].configure mode low scope bp bo))) := rfl

theorem exec_setLamp_of_valid {k : LampId} {args : List Byte} (h : Admitted s p .setLamp) (len : args.length = 7)
    (named : argNat args 0 = k.val) (hm : modeOfCode (argByte args 1) = some mode)
    (hl : severityOfCode (argByte args 2) = some low) (hs : scopeOfCode (argByte args 3) (argNat args 4) = some scope) :
    let bp := max 2 (min 50 (argNat args 5))
    let bo := min 50 (argNat args 6)
    ∃ t, exec (.setLamp p args) s = .next t ∧
      Answers s t p 0x31 (if bp = argNat args 5 ∧ bo = argNat args 6 then .done else .clamped) [byte1 bp, byte1 bo] ∧
      t.lamps = s.lamps.set k (configured s.lamps[k] mode low scope bp bo s.clock
        (s.lampDemand (s.lamps[k].configure mode low scope bp bo))) ∧
      ChangesOnly [.ports, .lamps] s t := by
  have taken := exec_admitted (args := args) h len
  rw [State.perform, setLampRequest_of_valid named hm hl hs] at taken
  refine ⟨_, taken, answers_respond rfl _ _ _, ?_, ?_⟩
  · have written := configureLamp_lamps (mode := mode) (low := low) (scope := scope)
      (bp := max 2 (min 50 (argNat args 5))) (bo := min 50 (argNat args 6)) (s.setTag p .none) k
    rw [lampDemand_setTag] at written
    exact written
  · refine frame_then ?_ (frame_respond _ _ _) (by decide)
    exact frame_then (frame_mono (frame_setTag p .none) (by decide)) (frame_configureLamp _ _ _ _ _ _) (by decide)

/-! ## Operands out of range -/

theorem modeOfCode_none {b : Byte} (h : 3 ≤ b.toNat) : modeOfCode b = none := by
  unfold modeOfCode
  rw [if_neg, if_neg, if_neg] <;> rintro rfl <;> revert h <;> decide

theorem severityOfCode_none {b : Byte} (h : b.toNat = 0 ∨ 4 ≤ b.toNat) : severityOfCode b = none := by
  unfold severityOfCode
  rw [if_neg, if_neg, if_neg] <;> rintro rfl <;> revert h <;> decide

theorem scopeOfCode_none {b : Byte} {n : Nat} (h : 2 ≤ b.toNat ∨ (b.toNat = 1 ∧ 4 ≤ n)) : scopeOfCode b n = none := by
  have notAny : b ≠ 0 := by rintro rfl; revert h; simp
  unfold scopeOfCode
  rw [if_neg notAny]
  by_cases one : b = 1
  · have outside : ¬n < 4 := by
      subst one
      rcases h with h | ⟨-, h⟩
      · exact absurd h (by decide)
      · omega
    rw [if_pos one, portOfNumber, dif_neg outside]
    rfl
  · rw [if_neg one]

theorem setLampRequest_of_invalid {args : List Byte}
    (h : 4 ≤ argNat args 0 ∨ 3 ≤ argNat args 1 ∨ argNat args 2 = 0 ∨ 4 ≤ argNat args 2 ∨ 2 ≤ argNat args 3 ∨
      (argNat args 3 = 1 ∧ 4 ≤ argNat args 4)) : s.setLampRequest args = (.bare .badArgument, s) := by
  unfold State.setLampRequest
  split
  next lamp mode low scope =>
    rcases h with h | h | h | h | h
    · rw [lampOfNumber, dif_neg (by omega)] at lamp; exact nomatch lamp
    · rw [modeOfCode_none h] at mode; exact nomatch mode
    · rw [severityOfCode_none (.inl h)] at low; exact nomatch low
    · rw [severityOfCode_none (.inr h)] at low; exact nomatch low
    · rw [scopeOfCode_none h] at scope; exact nomatch scope
  next => rfl

/-- Settles O35: the configured lamp with its demand and active values, and the refusals. -/
theorem setLampConfigures : Obligations.SetLampConfigures := by
  refine ⟨fun s p k mode low scope args h len named hm hl hs => ?_, fun s p args h len out => ?_⟩
  · obtain ⟨t, next, answers, lamps, frame⟩ := exec_setLamp_of_valid h len named hm hl hs
    have lamp : t.lamps[k] = _ := (congrArg (fun v : Vector Lamp 4 => v[k]) lamps).trans (get_set_self _ _ _)
    have demand := lampDemand_iff s (s.lamps[k].configure mode low scope (max 2 (min 50 (argNat args 5)))
      (min 50 (argNat args 6)))
    obtain ⟨isMode, isLow, isScope, -, -⟩ := configure_settings s.lamps[k] mode low scope
      (max 2 (min 50 (argNat args 5))) (min 50 (argNat args 6))
    rw [isMode, isLow, isScope] at demand
    generalize s.lampDemand (s.lamps[k].configure mode low scope _ _) = d at lamp demand lamps
    obtain ⟨h1, h2, h3, h4, h5⟩ := configured_settings (m := s.lamps[k]) (mode := mode) (low := low) (scope := scope)
      (bp := max 2 (min 50 (argNat args 5))) (bo := min 50 (argNat args 6)) (clock := s.clock) (d := d)
    refine ⟨t, next, answers, ?_⟩
    rw [lamp, configured_demanded]
    refine ⟨h1, h2, h3, h4, h5, demand, fun on was pos lt => ?_, fun cases => ?_, fun off => ?_, ?_, frame⟩
    · subst on
      exact configured_active_of_blinking ((blinking_iff _).2 ⟨was, pos, lt⟩)
    · refine configured_active_of_not ?_
      rw [blinking_iff]
      rcases cases with off | dark | zero | le
      · exact .inl off
      · exact .inr fun ⟨on, _, _⟩ => by rw [dark] at on; exact absurd on (by decide)
      · exact .inr fun ⟨_, pos, _⟩ => by omega
      · exact .inr fun ⟨_, _, lt⟩ => by omega
    · subst off
      exact configured_cycle_of_dark
    · rw [lamps]
      exact sameBut_set _ _ _
  · exact exec_answered (args := args) h len (setLampRequest_of_invalid out)

end Sys2Proof.Machine.LampSetting
end

section
/-! PROOFS. Frames on the receive lines (R26, R27, R142, R170): the characters of a whole frame, assembled from hunting,
complete it with its length byte and the bytes after it, whatever line they come in on. -/

namespace Sys2Proof.Machine.FrameAssembly

open Sys2Proof Sys2Proof.Machine Sys2Proof.Machine.Laws Sys2Proof.Machine.PortSettings
open Sys2Proof.Machine.Reads Sys2Proof.Machine.Binding

variable {s : State}

/-! ## Assembling one frame -/

theorem receive_start (start : Byte) (longest : Nat) :
    Assembly.hunting.receive start longest start = .going .started := by
  rw [Assembly.receive, if_pos rfl]

theorem receive_length (start : Byte) {longest n : Nat} (h1 : 1 ≤ n) (hn : n ≤ longest) (h256 : n < 256) :
    Assembly.started.receive start longest (byte1 n) = .going (.body n []) := by
  rw [Assembly.receive, toNat_byte1 h256, if_pos ⟨h1, hn⟩]

theorem receive_body (start : Byte) (longest : Nat) {n : Nat} {got : List Byte} (b : Byte)
    (h : got.length + 1 < n + 2) : (Assembly.body n got).receive start longest b = .going (.body n (got ++ [b])) := by
  rw [Assembly.receive, if_pos h]

theorem receive_last (start : Byte) (longest : Nat) {n : Nat} {got : List Byte} (b : Byte)
    (h : got.length + 1 = n + 2) : (Assembly.body n got).receive start longest b = .complete n (got ++ [b]) := by
  rw [Assembly.receive, if_neg (by omega)]

section
variable {step : State → Byte → State} {set : Assembly → State} {finish : Nat → List Byte → State} {start : Byte}
  {longest : Nat}

/-- The bytes that a length byte counts, and the first byte of the CRC, go into the body. -/
theorem foldl_body (going : ∀ a b a', a.receive start longest b = .going a' → step (set a) b = set a') {n : Nat}
    (bs got : List Byte) (h : got.length + bs.length < n + 2) :
    bs.foldl step (set (.body n got)) = set (.body n (got ++ bs)) := by
  induction bs generalizing got with
  | nil => rw [List.foldl_nil, List.append_nil]
  | cons b bs ih =>
    rw [List.length_cons] at h
    rw [List.foldl_cons, going _ _ _ (receive_body start longest b (by omega)),
      ih _ (by rw [List.length_append, List.length_singleton]; omega), List.append_assoc]
    rfl

/-- A whole frame, from hunting to its last byte. -/
theorem foldl_frameBytes (going : ∀ a b a', a.receive start longest b = .going a' → step (set a) b = set a')
    (complete : ∀ a b n got, a.receive start longest b = .complete n got → step (set a) b = finish n got)
    {bs : List Byte} (h1 : 1 ≤ bs.length) (hn : bs.length ≤ longest) (h256 : bs.length < 256) :
    (frameBytes start bs).foldl step (set .hunting) =
      finish bs.length (bs ++ bytes16 (crc16 (byte1 bs.length :: bs))) := by
  obtain ⟨c0, c1, crc⟩ : ∃ c0 c1, bytes16 (crc16 (byte1 bs.length :: bs)) = [c0, c1] := ⟨_, _, rfl⟩
  have split : frameBytes start bs = start :: byte1 bs.length :: ((bs ++ [c0]) ++ [c1]) := by
    simp only [frameBytes, crc, List.cons_append, List.append_assoc, List.nil_append]
  rw [split, crc, List.foldl_cons, going _ _ _ (receive_start start longest), List.foldl_cons,
    going _ _ _ (receive_length start h1 hn h256), List.foldl_append,
    foldl_body going (bs ++ [c0]) [] (by simp), List.nil_append, List.foldl_cons, List.foldl_nil,
    complete _ _ _ _ (receive_last start longest c1 (by simp)), List.append_assoc]
  rfl

end

/-! ## The CRC of a frame received whole -/

theorem wordAt_append (bs : List Byte) (w : BitVec 16) : wordAt (bs ++ bytes16 w) bs.length = w := by
  have skip (bs cs : List Byte) : wordAt (bs ++ cs) bs.length = wordAt cs 0 := by
    induction bs with
    | nil => rfl
    | cons b bs ih => exact ih
  exact (skip bs _).trans (argWord16_bytes16 w)

theorem crcMatches_whole (bs : List Byte) :
    crcMatches bs.length (bs ++ bytes16 (crc16 (byte1 bs.length :: bs))) = true := by
  rw [crcMatches, wordAt_append, List.take_left, beq_self_eq_true]

/-! ## Uplinks -/

variable {l : LinkId}

theorem linkHears_setLinkRx (s : State) (l : LinkId) (a : Assembly) :
    (s.setLinkRx l a).linkHears l = s.linkHears l := by
  simp only [State.linkHears, State.setLinkRx, modLink_part, modLink_links, get_set_self]

theorem setLinkRx_twice (s : State) (l : LinkId) (a b : Assembly) :
    (s.setLinkRx l a).setLinkRx l b = s.setLinkRx l b := by
  simp only [State.setLinkRx, State.modLink, get_set_self, set_set_self]

theorem setLinkRx_same {a : Assembly} (h : s.links[l].rx = a) : s.setLinkRx l a = s := by
  have record : { s.links[l] with rx := a } = s.links[l] := by rw [← h]
  have table : s.links.set l s.links[l] = s.links := Vector.set_getElem_self _
  rw [State.setLinkRx, State.modLink, record, table]

theorem receive_uplink_going {a a' : Assembly} {b : Byte} (hears : s.linkHears l = true)
    (h : a.receive Config.uplinkStart Config.maxUplinkLength b = .going a') :
    (s.setLinkRx l a).receive (.uplink l (.byte b)) = s.setLinkRx l a' := by
  have now : (s.setLinkRx l a).links[l].rx = a := congrArg LinkRec.rx (get_set_self _ _ _)
  rw [State.receive, State.linkEvent, linkHears_setLinkRx, if_pos hears, State.linkByte, now, h]
  exact setLinkRx_twice _ _ _ _

theorem receive_uplink_complete {a : Assembly} {b : Byte} {n : Nat} {got : List Byte} (hears : s.linkHears l = true)
    (h : a.receive Config.uplinkStart Config.maxUplinkLength b = .complete n got) :
    (s.setLinkRx l a).receive (.uplink l (.byte b)) = (s.setLinkRx l .hunting).post (uplinkRow l n got) := by
  have now : (s.setLinkRx l a).links[l].rx = a := congrArg LinkRec.rx (get_set_self _ _ _)
  rw [State.receive, State.linkEvent, linkHears_setLinkRx, if_pos hears, State.linkByte, now, h]
  exact congrArg (State.post · _) (setLinkRx_twice _ _ _ _)

/-- A whole uplink frame on a link that hunts posts the row it amounts to. -/
theorem uplinkBytes_frame (hears : s.linkHears l = true) (hunts : s.links[l].rx = .hunting) {bs : List Byte}
    (h1 : 1 ≤ bs.length) (hn : bs.length ≤ 14) :
    s.uplinkBytes l (frameBytes 0xE7 bs) = { s with
      pending := s.pending ++ [uplinkRow l bs.length (bs ++ bytes16 (crc16 (byte1 bs.length :: bs)))] } := by
  have whole := foldl_frameBytes (step := fun t b => t.receive (.uplink l (.byte b))) (set := s.setLinkRx l)
    (finish := fun n got => (s.setLinkRx l .hunting).post (uplinkRow l n got))
    (fun _ _ _ => receive_uplink_going hears) (fun _ _ _ _ => receive_uplink_complete hears) h1 hn (by omega)
  rw [setLinkRx_same hunts] at whole
  exact whole

/-- The fields of a COPY frame are read back as they were sent (11.2). -/
theorem payloadOf_copyBytes (m : MicPayload) (raw : Byte) (rest : List Byte) :
    payloadOf ((copyBytes m raw ++ rest).drop 1) = m := by
  have radio := argWord32_bytes32 m.radio
  have frame := argWord16_bytes16 m.frame
  obtain ⟨_, _, _, _, _, _, _, _⟩ := m
  exact MicPayload.mk.injEq .. |>.mpr ⟨radio, rfl, frame, rfl, rfl, rfl, rfl, rfl⟩

theorem uplinkRow_copy (l : LinkId) (m : MicPayload) (raw : Byte) :
    uplinkRow l (copyBytes m raw).length
      (copyBytes m raw ++ bytes16 (crc16 (byte1 (copyBytes m raw).length :: copyBytes m raw))) = .copy l m raw := by
  rw [uplinkRow, crcMatches_whole, payloadOf_copyBytes]
  rfl

theorem uplinkRow_status (l : LinkId) (x : BitVec 32) :
    uplinkRow l (0x02 :: bytes32 x).length
      (0x02 :: bytes32 x ++ bytes16 (crc16 (byte1 (0x02 :: bytes32 x : List Byte).length :: 0x02 :: bytes32 x))) =
        .status l x := by
  rw [uplinkRow, crcMatches_whole]
  exact congrArg (Instr.status l) (argWord32_bytes32 x)

/-- Settles O52: a whole frame posts its row, and the row of each kind is read from the bytes sent. -/
theorem uplinkFramesReceived : Obligations.UplinkFramesReceived := by
  refine ⟨fun s l x hears hunts => ?_, fun s l m raw hears hunts => ?_⟩
  · rw [uplinkBytes_frame (bs := 0x02 :: bytes32 x) hears hunts (by simp) (by simp), uplinkRow_status]
  · rw [uplinkBytes_frame (bs := copyBytes m raw) hears hunts (by simp [copyBytes]) (by simp [copyBytes]), uplinkRow_copy]

/-! ## Console ports -/

variable {p : PortId}

theorem setPortRx_twice (s : State) (p : PortId) (a b : Assembly) :
    (s.setPortRx p a).setPortRx p b = s.setPortRx p b := by
  simp only [State.setPortRx, State.modPort, get_set_self, set_set_self]

theorem setPortRx_port (s : State) (p : PortId) (a : Assembly) :
    (s.setPortRx p a).ports[p] = { s.ports[p] with rx := a } := get_set_self _ _ _

theorem setPortRx_same {a : Assembly} (h : s.ports[p].rx = a) : s.setPortRx p a = s := by
  have record : { s.ports[p] with rx := a } = s.ports[p] := by rw [← h]
  have table : s.ports.set p s.ports[p] = s.ports := Vector.set_getElem_self _
  rw [State.setPortRx, State.modPort, record, table]

theorem deaf_setPortRx (s : State) (p : PortId) (a : Assembly) : (s.setPortRx p a).ports[p].deaf = s.ports[p].deaf := by
  rw [setPortRx_port]
  rfl

theorem arrivalRow_setPortRx (s : State) (p : PortId) (a : Assembly) (x : Arrival) :
    (s.setPortRx p a).arrivalRow p x = s.arrivalRow p x := by
  rw [State.arrivalRow, setPortRx_port]
  rfl

theorem receive_console_going {a a' : Assembly} {b : Byte} (hears : s.ports[p].deaf = false)
    (h : a.receive Config.requestStart Config.maxRequestLength b = .going a') :
    (s.setPortRx p a).receive (.console p (.byte b)) = s.setPortRx p a' := by
  have now : (s.setPortRx p a).ports[p].rx = a := congrArg PortRec.rx (setPortRx_port s p a)
  have hears' : ¬(s.setPortRx p a).ports[p].deaf = true := by rw [deaf_setPortRx, hears]; decide
  rw [State.receive, State.portEvent, if_neg hears', State.portByte, now, h]
  exact setPortRx_twice _ _ _ _

theorem receive_console_complete {a : Assembly} {b : Byte} {n : Nat} {got : List Byte} (hears : s.ports[p].deaf = false)
    (h : a.receive Config.requestStart Config.maxRequestLength b = .complete n got) :
    (s.setPortRx p a).receive (.console p (.byte b)) =
      (s.setPortRx p .hunting).post (s.arrivalRow p (requestArrival n got)) := by
  have now : (s.setPortRx p a).ports[p].rx = a := congrArg PortRec.rx (setPortRx_port s p a)
  have hears' : ¬(s.setPortRx p a).ports[p].deaf = true := by rw [deaf_setPortRx, hears]; decide
  rw [State.receive, State.portEvent, if_neg hears', State.portByte, now, h]
  dsimp only
  rw [State.postArrival, setPortRx_twice, arrivalRow_setPortRx]

/-- A whole request frame at a port that hunts posts the row of its arrival. -/
theorem consoleBytes_frame (hears : s.ports[p].deaf = false) (hunts : s.ports[p].rx = .hunting) {bs : List Byte}
    (h1 : 1 ≤ bs.length) (hn : bs.length ≤ 60) :
    s.consoleBytes p (frameBytes 0x5A bs) = { s with pending := s.pending ++
      [s.arrivalRow p (requestArrival bs.length (bs ++ bytes16 (crc16 (byte1 bs.length :: bs))))] } := by
  have whole := foldl_frameBytes (step := fun t b => t.receive (.console p (.byte b))) (set := s.setPortRx p)
    (finish := fun n got => (s.setPortRx p .hunting).post (s.arrivalRow p (requestArrival n got)))
    (fun _ _ _ => receive_console_going hears) (fun _ _ _ _ => receive_console_complete hears) h1 hn (by omega)
  rw [setPortRx_same hunts] at whole
  exact whole

theorem requestArrival_whole (code : Byte) (args : List Byte) :
    requestArrival (code :: args).length
      (code :: args ++ bytes16 (crc16 (byte1 (code :: args).length :: code :: args))) = .request code args := by
  rw [requestArrival, crcMatches_whole, if_pos rfl, List.take_left]
  rfl

theorem rowOfArrival_request (r : Request) (p : PortId) (args : List Byte) :
    rowOfArrival p (.request r.code args) = r.row p args := by
  rw [rowOfArrival, requestOfCode_code]

/-- Settles O53: a whole request frame is the arrival of that request, whose row hangs on what the port is doing. -/
theorem requestFramesReceived : Obligations.RequestFramesReceived := by
  intro s p r args role held hunts fits
  rw [consoleBytes_frame (bs := r.code :: args) (deaf_eq_false role held) hunts (Nat.succ_pos _)
    (by rw [List.length_cons]; omega), requestArrival_whole, State.arrivalRow, rowOfArrival_request]

end Sys2Proof.Machine.FrameAssembly
end

section
/-! PROOFS. The roster as a list (7.1, 7.2): the place of a new entry, renumbering, and the tag a new entry takes. -/

namespace Sys2Proof.Machine.RosterLists

open Sys2Proof Sys2Proof.Machine Sys2Proof.Machine.Laws

variable {e x : Entry} {es : List Entry}

/-! ## Severity order -/

/-- Severities do not rise along the roster. -/
def Falling (es : List Entry) : Prop := es.Pairwise fun a b => b.severity.num ≤ a.severity.num

theorem falling_of_ahead (h : es.Pairwise Entry.ahead) : Falling es :=
  h.imp fun {a b} hab => hab.elim Nat.le_of_lt fun same => by rw [same.1]

theorem severity_num_injective {a b : Severity} (h : a.num = b.num) : a = b := by
  cases a <;> cases b <;> first | rfl | exact absurd h (by decide)

/-! ## The place of a new entry -/

theorem mem_insertEntry : x ∈ insertEntry e es ↔ x = e ∨ x ∈ es := by
  induction es with
  | nil => simp [insertEntry]
  | cons y ys ih =>
    unfold insertEntry
    split
    · simp
    · simp only [List.mem_cons, ih]
      tauto

theorem length_insertEntry (e : Entry) (es : List Entry) : (insertEntry e es).length = es.length + 1 := by
  induction es with
  | nil => rfl
  | cons y ys ih =>
    unfold insertEntry
    split
    · rfl
    · rw [List.length_cons, ih, List.length_cons]

theorem perm_insertEntry (e : Entry) (es : List Entry) : (insertEntry e es).Perm (e :: es) := by
  induction es with
  | nil => exact .refl _
  | cons y ys ih =>
    unfold insertEntry
    split
    · exact .refl _
    · exact (ih.cons y).trans (.swap e y ys)

/-- In a roster whose severities do not rise, the new entry stands behind those of its severity or above (R106). -/
theorem insertEntry_eq_placed (h : Falling es) : insertEntry e es = placed e es := by
  induction es with
  | nil => rfl
  | cons y ys ih =>
    obtain ⟨below, rest⟩ := List.pairwise_cons.1 h
    unfold insertEntry
    split
    next lower =>
      have all : ∀ z ∈ y :: ys, z.severity.num < e.severity.num := by
        intro z hz
        rcases List.mem_cons.1 hz with rfl | hz
        · exact lower
        · exact Nat.lt_of_le_of_lt (below z hz) lower
      have front : (y :: ys).filter (fun x => decide (e.severity.num ≤ x.severity.num)) = [] := by
        rw [List.filter_eq_nil_iff]
        intro z hz
        have := all z hz
        rw [decide_eq_true_eq]
        omega
      have back : (y :: ys).filter (fun x => decide (x.severity.num < e.severity.num)) = y :: ys := by
        rw [List.filter_eq_self]
        exact fun z hz => decide_eq_true (all z hz)
      rw [placed, front, back, List.nil_append]
    next higher =>
      have back : (y :: ys).filter (fun x => decide (x.severity.num < e.severity.num)) =
          ys.filter fun x => decide (x.severity.num < e.severity.num) :=
        List.filter_cons_of_neg (by rw [decide_eq_true_eq]; omega)
      rw [ih rest, placed, placed, List.filter_cons_of_pos (by rw [decide_eq_true_eq]; omega), back]
      rfl

/-- A new entry of a rank above all keeps the order (R106). -/
theorem ahead_insertEntry (h : es.Pairwise Entry.ahead) (above : ∀ x ∈ es, x.rank < e.rank) :
    (insertEntry e es).Pairwise Entry.ahead := by
  induction es with
  | nil => exact List.pairwise_singleton _ _
  | cons y ys ih =>
    obtain ⟨before, rest⟩ := List.pairwise_cons.1 h
    unfold insertEntry
    split
    next lower =>
      refine List.pairwise_cons.2 ⟨fun z hz => ?_, h⟩
      have below := List.pairwise_cons.1 (falling_of_ahead h)
      rcases List.mem_cons.1 hz with rfl | hz
      · exact .inl lower
      · exact .inl (Nat.lt_of_le_of_lt (below.1 z hz) lower)
    next higher =>
      refine List.pairwise_cons.2 ⟨fun z hz => ?_, ih rest fun x hx => above x (List.mem_cons_of_mem _ hx)⟩
      rcases mem_insertEntry.1 hz with rfl | hz
      · rcases Nat.lt_or_eq_of_le (Nat.le_of_not_lt higher) with lt | eq
        · exact .inl lt
        · exact .inr ⟨(severity_num_injective eq).symm, above y List.mem_cons_self⟩
      · exact before z hz

/-! ## Renumbering -/

theorem length_renumber (n : Nat) (es : List Entry) : (renumber n es).length = es.length := by
  induction es generalizing n with
  | nil => rfl
  | cons y ys ih => rw [renumber, List.length_cons, ih, List.length_cons]

/-- Renumbering rewrites ranks alone. -/
theorem map_renumber {α : Type} (f : Entry → α) (hf : ∀ e n, f { e with rank := n } = f e) (n : Nat) (es : List Entry) :
    (renumber n es).map f = es.map f := by
  induction es generalizing n with
  | nil => rfl
  | cons y ys ih => rw [renumber, List.map_cons, ih, hf, List.map_cons]

theorem mem_renumber {n : Nat} (h : x ∈ renumber n es) :
    n ≤ x.rank ∧ x.rank < n + es.length ∧ ∃ y ∈ es, x = { y with rank := x.rank } := by
  induction es generalizing n with
  | nil => exact absurd h List.not_mem_nil
  | cons y ys ih =>
    rcases List.mem_cons.1 h with rfl | h
    · exact ⟨Nat.le_refl _, by simp, y, List.mem_cons_self, rfl⟩
    · obtain ⟨low, high, z, hz, same⟩ := ih h
      exact ⟨by omega, by rw [List.length_cons]; omega, z, List.mem_cons_of_mem _ hz, same⟩

/-- Ranks given in roster order keep the order (R106). -/
theorem ahead_renumber (n : Nat) (h : Falling es) : (renumber n es).Pairwise Entry.ahead := by
  induction es generalizing n with
  | nil => exact List.Pairwise.nil
  | cons y ys ih =>
    obtain ⟨below, rest⟩ := List.pairwise_cons.1 h
    refine List.pairwise_cons.2 ⟨fun z hz => ?_, ih (n + 1) rest⟩
    obtain ⟨low, -, w, hw, same⟩ := mem_renumber hz
    have severity : z.severity = w.severity := by rw [same]
    rcases Nat.lt_or_eq_of_le (below w hw) with lt | eq
    · exact .inl (by rw [severity]; exact lt)
    · exact .inr ⟨(severity_num_injective (by rw [severity, eq])).symm, low⟩

theorem nodup_ranks_renumber (n : Nat) (es : List Entry) : ((renumber n es).map (·.rank)).Nodup := by
  induction es generalizing n with
  | nil => exact List.nodup_nil
  | cons y ys ih =>
    refine List.nodup_cons.2 ⟨fun hmem => ?_, ih (n + 1)⟩
    obtain ⟨z, hz, same⟩ := List.mem_map.1 hmem
    have := (mem_renumber hz).1
    dsimp only at same
    omega

/-! ## The tag of a new entry -/

/-- The tag that comes `k` places behind `t` in the cycle 1..65535 (R105). -/
def tagAfter (t k : Nat) : Nat := (t - 1 + k) % 65535 + 1

theorem tagAfter_zero {t : Nat} (h1 : 1 ≤ t) (h2 : t ≤ 65535) : tagAfter t 0 = t := by
  unfold tagAfter
  omega

theorem tagAfter_succTag {t : Nat} (h1 : 1 ≤ t) (h2 : t ≤ 65535) (k : Nat) :
    tagAfter (succTag t) k = tagAfter t (k + 1) := by
  unfold tagAfter succTag
  have maxTag : Config.maxTag = 65535 := rfl
  split
  · congr 2
    omega
  · have : t = 65535 := by omega
    subst this
    omega

theorem succTag_range {t : Nat} (h1 : 1 ≤ t) (h2 : t ≤ 65535) : 1 ≤ succTag t ∧ succTag t ≤ 65535 := by
  unfold succTag
  have maxTag : Config.maxTag = 65535 := rfl
  split <;> omega

theorem freeTag_range {used : List Nat} {t : Nat} (fuel : Nat) (h1 : 1 ≤ t) (h2 : t ≤ 65535) :
    1 ≤ freeTag used fuel t ∧ freeTag used fuel t ≤ 65535 := by
  induction fuel generalizing t with
  | zero => exact ⟨h1, h2⟩
  | succ fuel ih =>
    unfold freeTag
    split
    · obtain ⟨k1, k2⟩ := succTag_range h1 h2
      exact ih k1 k2
    · exact ⟨h1, h2⟩

/-- A search that ends on a used tag has met only used ones. -/
theorem tried_of_freeTag_mem {used : List Nat} {t : Nat} (fuel : Nat) (h1 : 1 ≤ t) (h2 : t ≤ 65535)
    (h : freeTag used fuel t ∈ used) : ∀ k ≤ fuel, tagAfter t k ∈ used := by
  induction fuel generalizing t with
  | zero =>
    intro k hk
    obtain rfl : k = 0 := by omega
    rw [tagAfter_zero h1 h2]
    exact h
  | succ fuel ih =>
    unfold freeTag at h
    split at h
    next here =>
      obtain ⟨k1, k2⟩ := succTag_range h1 h2
      intro k hk
      cases k with
      | zero => rw [tagAfter_zero h1 h2]; exact List.contains_iff_mem.1 here
      | succ k => rw [← tagAfter_succTag h1 h2]; exact ih k1 k2 h k (by omega)
    next free => exact absurd (List.contains_iff_mem.2 h) free

/-- Among 65535 tags in a row no two are equal. -/
theorem nodup_tagsAfter (t : Nat) {n : Nat} (hn : n ≤ 65535) : ((List.range n).map (tagAfter t)).Nodup := by
  refine List.Nodup.map_on (fun a ha b hb same => ?_) List.nodup_range
  have ha := List.mem_range.1 ha
  have hb := List.mem_range.1 hb
  unfold tagAfter at same
  omega

/-- With fewer tags in use than tries, the search ends on a free one. -/
theorem freeTag_not_mem {used : List Nat} {t fuel : Nat} (h1 : 1 ≤ t) (h2 : t ≤ 65535) (few : used.length ≤ fuel)
    (small : fuel < 65535) : freeTag used fuel t ∉ used := by
  intro hmem
  have tried := tried_of_freeTag_mem fuel h1 h2 hmem
  have sub : (List.range (fuel + 1)).map (tagAfter t) ⊆ used := by
    intro x hx
    obtain ⟨k, hk, rfl⟩ := List.mem_map.1 hx
    exact tried k (Nat.le_of_lt_succ (List.mem_range.1 hk))
  have := ((nodup_tagsAfter t (by omega)).subperm sub).length_le
  rw [List.length_map, List.length_range] at this
  omega

theorem freeTag_of_free {used : List Nat} {t : Nat} (fuel : Nat) (h : t ∉ used) : freeTag used fuel t = t := by
  cases fuel with
  | zero => rfl
  | succ fuel =>
    unfold freeTag
    split
    next here => exact absurd (List.contains_iff_mem.1 here) h
    next => rfl

end Sys2Proof.Machine.RosterLists
end

section
/-! PROOFS. What each roster operation leaves in the condition slots. The grade of a slot is all of it but the listing, the
stamp and the fixed detail: listing attempts, removals and displacements keep every grade, so that what a raising or an
ending does to a slot is read off here, whatever happens on the roster. -/

namespace Sys2Proof.Machine.SlotGrades

open Sys2Proof Sys2Proof.Machine Sys2Proof.Machine.Laws

variable {s t : State} {src o : Source} {r : Raised} {sev : Severity}

/-! ## Slots after the roster operations -/

theorem slot_of_alerts (h : t.alerts = s.alerts) (o : Source) : t.slot o = s.slot o :=
  congrArg (fun a : Alerts => a.slot o) h

/-- The slots do not lie in the roster, its counters or the overflow marks. -/
theorem slot_of_tables (h : t.alerts.seatSlots = s.alerts.seatSlots) (k : t.alerts.linkSlots = s.alerts.linkSlots)
    (o : Source) : t.slot o = s.slot o := by
  cases o with
  | seat i c => exact congrArg (fun v : Vector (Vector Slot 9) 192 => v[i][c.idx]) h
  | link l => exact congrArg (fun v : Vector Slot 6 => v[l]) k

@[simp] theorem slot_attend (s : State) (f : PortId → Bool) (o : Source) : (s.attend f).slot o = s.slot o := rfl

@[simp] theorem slot_setRoster (s : State) (es : List Entry) (o : Source) : (s.setRoster es).slot o = s.slot o :=
  slot_of_tables rfl rfl o

@[simp] theorem slot_markOverflow (s : State) (src : Source) (sev : Severity) (o : Source) :
    (s.markOverflow src sev).slot o = s.slot o := slot_of_tables rfl rfl o

@[simp] theorem slot_dropEntry (s : State) (src o : Source) : (s.dropEntry src).slot o = s.slot o := slot_setRoster _ _ _

@[simp] theorem slot_mapLive (s : State) (src : Source) (f : Entry → Entry) (o : Source) :
    (s.mapLive src f).slot o = s.slot o := slot_setRoster _ _ _

@[simp] theorem slot_refresh (s : State) (src o : Source) : (s.refresh src).slot o = s.slot o := slot_mapLive _ _ _ _

theorem slot_setListing (s : State) (src : Source) (l : Listing) (o : Source) :
    (s.setListing src l).slot o =
      if o = src then (s.slot src).mapRaised fun r => { r with listing := l } else s.slot o :=
  slot_setSlot _ _ _ _

theorem beforeRank_slots (a : Alerts) (o : Source) : a.beforeRank.slot o = a.slot o := by
  unfold Alerts.beforeRank
  split
  · rfl
  · cases o <;> rfl

/-- The condition listed becomes LISTED, and no other slot changes (R109). -/
theorem slot_createEntry (s : State) (src : Source) (r : Raised) (o : Source) :
    (s.createEntry src r).slot o =
      if o = src then (s.slot src).mapRaised fun r => { r with listing := .listed } else s.slot o := by
  have placed (a : Alerts) (es : List Entry) (tag rank : Nat) (o : Source) :
      ({ s with alerts := { a with roster := es, nextTag := tag, rankCounter := rank } } : State).slot o = a.slot o :=
    alerts_slot_roster a es tag rank o
  unfold State.createEntry
  dsimp only
  rw [slot_attend, slot_setListing, placed, placed, beforeRank_slots, beforeRank_slots]

/-- A LIVE victim's condition becomes WAITING or QUIETED, and no other slot changes (R112). -/
theorem slot_displace (s : State) (v : Entry) (o : Source) :
    (s.displace v).slot o =
      if v.isEnded = false ∧ o = v.source then (s.slot o).mapRaised fun r =>
        { r with listing := if s.isQuiet v.source then .quieted else .waiting }
      else s.slot o := by
  unfold State.displace
  dsimp only
  cases ended : v.isEnded with
  | true => simp
  | false =>
    rw [if_neg (by decide), slot_setListing, slot_dropEntry, slot_markOverflow, slot_dropEntry, slot_markOverflow]
    by_cases same : o = v.source
    · subst same; simp
    · simp [same]

/-! ## Grades -/

/-- A slot but for the listing, the stamp and the fixed detail of a RAISED one. -/
inductive Grade where
  | clear
  | qualifying
  | raised (sev : Severity)

def grade : Slot → Grade
  | .clear => .clear
  | .qualifying => .qualifying
  | .raised r => .raised r.severity

/-- The severity of a grade, if it is that of a RAISED slot. -/
def Grade.severity? : Grade → Option Severity
  | .raised sev => some sev
  | _ => none

theorem severity?_eq (x : Slot) : x.severity? = (grade x).severity? := by cases x <;> rfl

theorem isRaised_eq (x : Slot) : x.isRaised = (grade x).severity?.isSome := by cases x <;> rfl

theorem grade_eq_clear {x : Slot} : grade x = .clear ↔ x = .clear := by cases x <;> simp [grade]

theorem grade_eq_qualifying {x : Slot} : grade x = .qualifying ↔ x = .qualifying := by cases x <;> simp [grade]

theorem grade_eq_raised {x : Slot} {sev : Severity} : grade x = .raised sev ↔ ∃ r, x = .raised r ∧ r.severity = sev := by
  cases x <;> simp [grade]

theorem isQualifying_of_grade {x y : Slot} (h : grade x = grade y) : x.isQualifying = y.isQualifying := by
  cases x <;> cases y <;> first | rfl | exact nomatch h

theorem severity?_of_grade {x y : Slot} (h : grade x = grade y) : x.severity? = y.severity? := by
  rw [severity?_eq, h, ← severity?_eq]

theorem isRaised_of_grade {x y : Slot} (h : grade x = grade y) : x.isRaised = y.isRaised := by
  rw [isRaised_eq, h, ← isRaised_eq]

theorem isRaised_of_grade_raised {x : Slot} {sev : Severity} (h : grade x = .raised sev) : x.isRaised = true := by
  rw [isRaised_eq, h]
  rfl

theorem isRaised_iff {x : Slot} : x.isRaised = true ↔ ∃ r, x = .raised r := by cases x <;> simp [Slot.isRaised, Slot.raised?]

theorem not_isRaised_iff {x : Slot} : x.isRaised = false ↔ ∀ r, x ≠ .raised r := by
  cases x <;> simp [Slot.isRaised, Slot.raised?]

/-- A rewriting of what a slot holds that leaves the severity keeps the grade. -/
theorem grade_mapRaised {f : Raised → Raised} (hf : ∀ r, (f r).severity = r.severity) (x : Slot) :
    grade (x.mapRaised f) = grade x := by
  cases x with
  | raised r => exact congrArg Grade.raised (hf r)
  | _ => rfl

/-! ## Operations that keep every grade -/

/-- Every slot has the grade it had. -/
def KeepsGrades (s t : State) : Prop := ∀ o, grade (t.slot o) = grade (s.slot o)

theorem keepsGrades_refl : KeepsGrades s s := fun _ => rfl

theorem KeepsGrades.trans {u : State} (h : KeepsGrades s t) (k : KeepsGrades t u) : KeepsGrades s u :=
  fun o => (k o).trans (h o)

theorem keepsGrades_of_slots (h : ∀ o, t.slot o = s.slot o) : KeepsGrades s t := fun o => congrArg grade (h o)

theorem keepsGrades_foldl {α : Type} (f : State → α → State) (xs : List α) (h : ∀ s x, KeepsGrades s (f s x)) (s : State) :
    KeepsGrades s (xs.foldl f s) := by
  induction xs generalizing s with
  | nil => exact keepsGrades_refl
  | cons x xs ih => exact (h s x).trans (ih (f s x))

theorem keepsGrades_setListing (src : Source) (l : Listing) : KeepsGrades s (s.setListing src l) := by
  intro o
  rw [slot_setListing]
  split
  next same => rw [same]; refine grade_mapRaised (fun r => ?_) _; rfl
  next => rfl

theorem keepsGrades_createEntry (src : Source) (r : Raised) : KeepsGrades s (s.createEntry src r) := by
  intro o
  rw [slot_createEntry]
  split
  next same => rw [same]; refine grade_mapRaised (fun r => ?_) _; rfl
  next => rfl

theorem keepsGrades_dropEntry (src : Source) : KeepsGrades s (s.dropEntry src) :=
  keepsGrades_of_slots fun _ => slot_dropEntry _ _ _

theorem keepsGrades_displace (v : Entry) : KeepsGrades s (s.displace v) := by
  intro o
  rw [slot_displace]
  split
  · refine grade_mapRaised (fun r => ?_) _
    rfl
  · rfl

theorem keepsGrades_attempt (src : Source) : KeepsGrades s (s.attempt src) := by
  unfold State.attempt
  split
  · split
    · exact (keepsGrades_dropEntry _).trans (keepsGrades_createEntry _ _)
    · split
      · exact keepsGrades_createEntry _ _
      · split
        · exact (keepsGrades_displace _).trans (keepsGrades_createEntry _ _)
        · exact (keepsGrades_setListing _ _).trans (keepsGrades_of_slots fun _ => slot_markOverflow _ _ _ _)
  · exact keepsGrades_refl

theorem keepsGrades_relist : KeepsGrades s s.relist := by
  unfold State.relist
  split
  · exact keepsGrades_attempt _
  · exact keepsGrades_refl

theorem keepsGrades_removalTest (src : Source) : KeepsGrades s (s.removalTest src) := by
  unfold State.removalTest
  split
  · split
    · exact (keepsGrades_dropEntry _).trans keepsGrades_relist
    · exact keepsGrades_refl
  · exact keepsGrades_refl

theorem keepsGrades_removalTests (srcs : List Source) : KeepsGrades s (s.removalTests srcs) :=
  keepsGrades_foldl _ _ (fun _ _ => keepsGrades_removalTest _) s

theorem keepsGrades_removeSeatEntries (i : SeatId) : KeepsGrades s (s.removeSeatEntries i) :=
  keepsGrades_foldl _ _ (fun _ _ => (keepsGrades_dropEntry _).trans keepsGrades_relist) s

theorem keepsGrades_of_alerts (h : t.alerts = s.alerts) : KeepsGrades s t := keepsGrades_of_slots (slot_of_alerts h)

/-- A change outside the alerts keeps the grades. -/
theorem keepsGrades_of_frame {W : List Block} (h : ChangesOnly W s t) (hW : Block.alerts ∉ W) : KeepsGrades s t :=
  keepsGrades_of_alerts (h .alerts hW)

theorem keepsGrades_refresh (src : Source) : KeepsGrades s (s.refresh src) :=
  keepsGrades_of_slots fun _ => slot_refresh _ _ _

theorem slot_relabel (s : State) (i : SeatId) (old new : Listing) (o : Source) :
    (s.relabel i old new).slot o =
      if o.seat? = some i then (s.slot o).mapRaised fun r => if r.listing = old then { r with listing := new } else r
      else s.slot o := by
  cases o with
  | link l => rfl
  | seat j k =>
    have origin : (Source.seat j k).seat? = some j := rfl
    rw [origin]
    by_cases same : j = i
    · subst same
      rw [if_pos rfl]
      simp only [State.slot, State.relabel, Alerts.slot, get_set_self, get_map]
    · rw [if_neg fun e => same (Option.some.inj e)]
      simp only [State.slot, State.relabel, Alerts.slot, get_set_ne _ same]

theorem keepsGrades_relabel (i : SeatId) (old new : Listing) : KeepsGrades s (s.relabel i old new) := by
  intro o
  rw [slot_relabel]
  split
  · refine grade_mapRaised (fun r => ?_) _
    split <;> rfl
  · rfl

theorem keepsGrades_setQuiet (i : SeatId) : KeepsGrades s (s.setQuiet i) :=
  (keepsGrades_of_alerts rfl).trans (keepsGrades_relabel (s := s.modSeat i _) i _ _)

theorem keepsGrades_clearQuiet (i : SeatId) : KeepsGrades s (s.clearQuiet i) := by
  unfold State.clearQuiet
  split
  · exact ((keepsGrades_of_alerts rfl).trans (keepsGrades_relabel (s := s.modSeat i _) i _ _)).trans
      (keepsGrades_foldl _ _ (fun _ _ => keepsGrades_attempt _) _)
  · exact keepsGrades_refl

/-! ## Operations that set the grade of one condition -/

/-- The condition has a new grade, and every other slot the grade it had. -/
def SetsGrade (src : Source) (g : Grade) (s t : State) : Prop :=
  grade (t.slot src) = g ∧ ∀ o, o ≠ src → grade (t.slot o) = grade (s.slot o)

theorem SetsGrade.then {g : Grade} {u : State} (h : SetsGrade src g s t) (k : KeepsGrades t u) : SetsGrade src g s u :=
  ⟨(k src).trans h.1, fun o ne => (k o).trans (h.2 o ne)⟩

theorem SetsGrade.after {g : Grade} {u : State} (h : KeepsGrades s t) (k : SetsGrade src g t u) : SetsGrade src g s u :=
  ⟨k.1, fun o ne => (k.2 o ne).trans (h o)⟩

theorem SetsGrade.twice {g g' : Grade} {u : State} (h : SetsGrade src g s t) (k : SetsGrade src g' t u) :
    SetsGrade src g' s u :=
  ⟨k.1, fun o ne => (k.2 o ne).trans (h.2 o ne)⟩

theorem setsGrade_same {g : Grade} (h : grade (s.slot src) = g) : SetsGrade src g s s := ⟨h, fun _ _ => rfl⟩

theorem setsGrade_setSlot (s : State) (src : Source) (x : Slot) : SetsGrade src (grade x) s (s.setSlot src x) :=
  ⟨by rw [slot_setSlot, if_pos rfl], fun o ne => by rw [slot_setSlot, if_neg ne]⟩

theorem setsGrade_raise (s : State) (src : Source) (sev : Severity) (d : FixedDetail) :
    SetsGrade src (.raised sev) s (s.raise src sev d) := by
  unfold State.raise
  split
  · exact setsGrade_setSlot s src (.raised ⟨sev, .quieted, s.clock, d⟩)
  · exact (setsGrade_setSlot s src (.raised ⟨sev, .waiting, s.clock, d⟩)).then (keepsGrades_attempt _)

theorem keepsGrades_escalateEntry (src : Source) (sev : Severity) : KeepsGrades s (s.escalateEntry src sev) := by
  have placed (a : Alerts) (es : List Entry) (tag rank : Nat) (o : Source) :
      ({ s with alerts := { a with roster := es, nextTag := tag, rankCounter := rank } } : State).slot o = a.slot o :=
    alerts_slot_roster a es tag rank o
  unfold State.escalateEntry
  dsimp only
  split
  · refine keepsGrades_of_slots fun o => ?_
    rw [slot_attend, placed, beforeRank_slots]
  · exact keepsGrades_refl

/-- Only a RAISED condition escalates (R115). -/
theorem setsGrade_escalate (h : (s.slot src).isRaised = true) (sev : Severity) :
    SetsGrade src (.raised sev) s (s.escalate src sev) := by
  obtain ⟨r, raised⟩ := isRaised_iff.1 h
  have set := setsGrade_setSlot s src (.raised { r with severity := sev })
  unfold State.escalate
  rw [raised]
  dsimp only
  split
  · exact set.then (keepsGrades_escalateEntry _ _)
  · exact set.then (keepsGrades_attempt _)
  · exact set

theorem escalate_of_not_raised (h : (s.slot src).isRaised = false) (sev : Severity) : s.escalate src sev = s := by
  have none := not_isRaised_iff.1 h
  unfold State.escalate
  split
  next r raised => exact absurd raised (none r)
  next => rfl

theorem setsGrade_endCondition (h : (s.slot src).isRaised = true) : SetsGrade src .clear s (s.endCondition src) := by
  obtain ⟨r, raised⟩ := isRaised_iff.1 h
  have set := setsGrade_setSlot s src .clear
  unfold State.endCondition
  rw [raised]
  dsimp only
  split
  · exact (set.then (keepsGrades_of_slots fun _ => slot_mapLive _ _ _ _)).then (keepsGrades_removalTest _)
  · exact set
  · exact set

theorem endCondition_of_not_raised (h : (s.slot src).isRaised = false) : s.endCondition src = s := by
  have none := not_isRaised_iff.1 h
  unfold State.endCondition
  split
  next r raised => exact absurd raised (none r)
  next => rfl

/-- An ending leaves every other slot its grade, whether or not the condition was RAISED. -/
theorem grade_endCondition_ne {o : Source} (ne : o ≠ src) : grade ((s.endCondition src).slot o) = grade (s.slot o) := by
  cases h : (s.slot src).isRaised with
  | true => exact (setsGrade_endCondition h).2 o ne
  | false => rw [endCondition_of_not_raised h]

theorem isRaised_endCondition (s : State) (src : Source) : ((s.endCondition src).slot src).isRaised = false := by
  cases h : (s.slot src).isRaised with
  | true => rw [isRaised_eq, (setsGrade_endCondition h).1]; rfl
  | false => rw [endCondition_of_not_raised h, h]

theorem setsGrade_endOrCancel (s : State) (src : Source) : SetsGrade src .clear s (s.endOrCancel src) := by
  unfold State.endOrCancel
  split
  next r raised => exact setsGrade_endCondition (isRaised_iff.2 ⟨r, raised⟩)
  next => exact setsGrade_setSlot s src .clear
  next clear => exact setsGrade_same (congrArg grade clear)

theorem slot_endOrCancel (s : State) (src : Source) : (s.endOrCancel src).slot src = .clear :=
  grade_eq_clear.1 (setsGrade_endOrCancel s src).1

end Sys2Proof.Machine.SlotGrades
end

section
/-! PROOFS. The antenna links (chapter 2): STATUS frames, bad frames and silence, breaks, and the recovery grace that a
returning link starts (5.6). -/

namespace Sys2Proof.Machine.AntennaLinks

open Sys2Proof Sys2Proof.Machine Sys2Proof.Machine.Laws Sys2Proof.Machine.SlotGrades
open Sys2Proof.Machine.PortSettings

variable {s t : State} {l : LinkId}

/-! ## Links that hear -/

theorem linkHears_iff (s : State) (l : LinkId) : s.linkHears l = true ↔
    s.part = .ready ∧ (s.links[l].state = .down ∨ s.links[l].state = .up ∨ s.links[l].state = .silent) := by
  rw [State.linkHears]
  cases state : s.links[l].state <;> cases part : s.part <;> simp

theorem not_linkHears_of_state (h : s.links[l].state = .broken ∨ s.links[l].state = .disabled) :
    ¬s.linkHears l = true := by
  rw [linkHears_iff]
  rintro ⟨-, hears⟩
  rcases h with h | h <;> rw [h] at hears <;> simp at hears

theorem slot_evalOutputs (s : State) (o : Source) : s.evalOutputs.slot o = s.slot o :=
  slot_of_alerts (frame_evalOutputs .alerts (by decide)) o

/-- Two changes of one link, one after the other. -/
theorem modLink_modLink (s : State) (l : LinkId) (f g : LinkRec → LinkRec) :
    (s.modLink l f).modLink l g = s.modLink l (g ∘ f) := by
  simp only [State.modLink, get_set_self, set_set_self, Function.comp]

/-- A rewriting of details leaves attention pending. -/
theorem frame_mapLive_alerts (src : Source) (f : Entry → Entry) : ChangesOnly [.alerts] s (s.mapLive src f) :=
  frame_setRoster _

theorem frame_refresh_alerts (src : Source) : ChangesOnly [.alerts] s (s.refresh src) := frame_mapLive_alerts _ _

theorem frame_setAttributed_links (l : LinkId) (f : Nat → Nat) : ChangesOnly [.links, .alerts] s (s.setAttributed l f) :=
  frame_then (frame_mono (frame_modLink _ _) (by decide)) (frame_refresh_alerts _) (by decide)

theorem setAttributed_links (s : State) (l : LinkId) (f : Nat → Nat) :
    (s.setAttributed l f).links = s.links.set l { s.links[l] with attributed := f s.links[l].attributed } :=
  frame_refresh (s := s.modLink l _) (.link l) .links (by decide)

theorem loseToSignal_signal (s : State) (i : SeatId) :
    (s.loseToSignal i).signal = s.signal.set i { s.signal[i] with cause := .signal } :=
  frame_raiseSignalLoss (s := s.modSignal i _) i .signal (by decide)

/-! ## RECEIVER_LINK -/

/-- RECEIVER_LINK, RAISED, comes out of an escalation at URGENT (R79). -/
theorem setsGrade_escalateLink (h : (s.slot (.link l)).isRaised = true) :
    SetsGrade (.link l) (.raised .urgent) s (s.escalateLink l) := by
  obtain ⟨r, raised⟩ := isRaised_iff.1 h
  unfold State.escalateLink
  rw [raised]
  dsimp only
  split
  next urgent => exact setsGrade_same (grade_eq_raised.2 ⟨r, raised, urgent⟩)
  next => exact setsGrade_escalate h _

theorem escalateLink_of_not_raised (h : (s.slot (.link l)).isRaised = false) : s.escalateLink l = s := by
  have none := not_isRaised_iff.1 h
  unfold State.escalateLink
  split
  next r raised => exact absurd raised (none r)
  next => rfl

/-- RECEIVER_LINK is raised at WARNING, or at URGENT with seats still attributed (R35, R79). -/
theorem setsGrade_raiseLinkCondition (s : State) (l : LinkId) :
    SetsGrade (.link l) (.raised (if 0 < s.links[l].attributed then .urgent else .warning)) s
      (s.raiseLinkCondition l) := by
  have raised := setsGrade_raise s (.link l) .warning .none
  unfold State.raiseLinkCondition
  dsimp only
  split
  · exact raised.twice (setsGrade_escalateLink (isRaised_of_grade_raised raised.1))
  · exact raised

/-! ## Silence and bad frames -/

theorem silenceExpires_of_running (h : s.links[l].silence.isSome = true) :
    s.silenceExpires l =
      (s.modLink l fun r => { r with state := .silent, silence := none, slot := none }).raiseLinkCondition l := by
  obtain ⟨n, running⟩ := Option.isSome_iff_exists.1 h
  rw [State.silenceExpires, running]

/-- Settles O16: the bad-frame count, and silence with the severity of RECEIVER_LINK. -/
theorem badFramesAndSilence : Obligations.BadFramesAndSilence := by
  refine ⟨fun s l ready state => ?_, fun s l running => ?_⟩
  · have hears := (linkHears_iff s l).2 ⟨ready, state⟩
    exact ⟨congrArg Host.Outcome.next (if_pos hears), fun busy => congrArg Host.Outcome.next (if_pos ⟨hears, busy⟩)⟩
  · let u := s.modLink l fun r => { r with state := .silent, silence := none, slot := none }
    have now : u.links[l] = { s.links[l] with state := .silent, silence := none, slot := none } := get_set_self _ _ _
    have raised := setsGrade_raiseLinkCondition u l
    rw [now] at raised
    refine ⟨(u.raiseLinkCondition l).evalOutputs, ?_, ?_, ?_, ?_⟩
    · refine congrArg Host.Outcome.next ((if_pos running).trans ?_)
      rw [silenceExpires_of_running running]
    · exact (frame_evalOutputs .links (by decide)).trans (frame_raiseLinkCondition l .links (by decide))
    · rw [slot_evalOutputs, severity?_eq, raised.1]
      rfl
    · refine frame_outputs ?_ (by decide) (by decide)
      exact frame_then (frame_mono (frame_modLink l _) (by decide)) (frame_raiseLinkCondition l) (by decide)

/-! ## Breaks -/

theorem detectBreak_of_up (h : s.links[l].state = .up) :
    s.detectBreak l = (s.modLink l fun r =>
      { r with state := .broken, breakStart := some s.clock, silence := none, slot := none, rx := .hunting,
               lineActive := true, breakTimer := none }).raiseLinkCondition l := by
  unfold State.detectBreak
  exact if_pos h

theorem detectBreak_of_not_up (h : s.links[l].state ≠ .up) :
    s.detectBreak l = (s.modLink l fun r =>
      { r with state := .broken, breakStart := some s.clock, silence := none, slot := none, rx := .hunting,
               lineActive := true, breakTimer := none }).refresh (.link l) := by
  unfold State.detectBreak
  exact if_neg h

theorem detectBreak_links (s : State) (l : LinkId) : (s.detectBreak l).links = s.links.set l { s.links[l] with
    state := .broken, breakStart := some s.clock, silence := none, slot := none, rx := .hunting,
    lineActive := true, breakTimer := none } := by
  by_cases up : s.links[l].state = .up
  · rw [detectBreak_of_up up, frame_raiseLinkCondition l .links (by decide)]
    rfl
  · rw [detectBreak_of_not_up up, frame_refresh (.link l) .links (by decide)]
    rfl

theorem endBreak_of_broken {b : Stamp} (h : s.links[l].state = .broken) (start : s.links[l].breakStart = some b) :
    s.endBreak l = (s.modLink l fun r => { r with
      state := .down, lastBreak := some (min 65535 (s.clock - b).toNat), breakStart := none, lineActive := false,
      breakTimer := none }).refresh (.link l) := by
  unfold State.endBreak
  dsimp only
  rw [if_pos h, modLink_modLink]
  simp only [State.modLink, Function.comp, start, Option.map_some]
  rfl

/-- Settles O17: BROKEN by a break, with RECEIVER_LINK raised from UP, and DOWN when it is over. -/
theorem linkBreaks : Obligations.LinkBreaks := by
  refine ⟨fun s l ready state => ?_, fun s l b broken start => ?_⟩
  · have hears := (linkHears_iff s l).2 ⟨ready, state⟩
    refine ⟨(s.detectBreak l).evalOutputs, congrArg Host.Outcome.next (if_pos hears), ?_, fun up => ?_, fun down o => ?_, ?_⟩
    · exact (frame_evalOutputs .links (by decide)).trans (detectBreak_links s l)
    · let u := s.modLink l fun r =>
        { r with state := .broken, breakStart := some s.clock, silence := none, slot := none, rx := .hunting,
                 lineActive := true, breakTimer := none }
      have raised := setsGrade_raiseLinkCondition u l
      have now : u.links[l] = { s.links[l] with
        state := .broken, breakStart := some s.clock, silence := none, slot := none, rx := .hunting,
        lineActive := true, breakTimer := none } := get_set_self _ _ _
      rw [now] at raised
      rw [slot_evalOutputs, detectBreak_of_up up, severity?_eq, raised.1]
      rfl
    · rw [slot_evalOutputs, detectBreak_of_not_up down, slot_refresh]
      rfl
    · exact frame_outputs (frame_mono (frame_detectBreak l) (by decide)) (by decide) (by decide)
  · refine ⟨_, rfl, ?_, fun o => ?_, ?_⟩
    · rw [endBreak_of_broken broken start, frame_refresh (.link l) .links (by decide)]
      rfl
    · rw [endBreak_of_broken broken start, slot_refresh]
      rfl
    · rw [endBreak_of_broken broken start]
      exact frame_then (frame_mono (frame_modLink l _) (by decide)) (frame_refresh_alerts _) (by decide)

/-! ## STATUS frames -/

theorem goodFrame_of_up (h : s.links[l].state = .up) :
    s.goodFrame l = s.modLink l fun r => { r with silence := some 15 } := if_pos h

/-- The link as a good frame brings it UP (R28). -/
def brought (s : State) (l : LinkId) : State :=
  s.modLink l fun r => { r with state := .up, silence := some 15, slot := some 50 }

theorem goodFrame_of_not_up (h : s.links[l].state ≠ .up) :
    s.goodFrame l = ((brought s l).endLinkCondition l).startGraces l := if_neg h

theorem startGraces_signal (s : State) (l : LinkId) (i : SeatId) :
    (s.startGraces l).signal[i] =
      if s.signal[i].cause = .link l then { s.signal[i] with grace := some s.params.lossTime } else s.signal[i] :=
  get_map _ _ _

theorem goodFrame_links_of_not_up (h : s.links[l].state ≠ .up) :
    (s.goodFrame l).links = s.links.set l { s.links[l] with state := .up, silence := some 15, slot := some 50 } := by
  rw [goodFrame_of_not_up h, frame_startGraces l .links (by decide), frame_endLinkCondition l .links (by decide)]
  rfl

theorem goodFrame_signal_of_not_up (h : s.links[l].state ≠ .up) (i : SeatId) :
    (s.goodFrame l).signal[i] =
      if s.signal[i].cause = .link l then { s.signal[i] with grace := some s.params.lossTime } else s.signal[i] := by
  have params : ((brought s l).endLinkCondition l).params = s.params := frame_endLinkCondition l .params (by decide)
  have signal : ((brought s l).endLinkCondition l).signal = s.signal := frame_endLinkCondition l .signal (by decide)
  rw [goodFrame_of_not_up h, startGraces_signal, params, signal]

theorem endLinkCondition_slot (s : State) (l : LinkId) : ((s.endLinkCondition l).slot (.link l)).isRaised = false :=
  isRaised_endCondition _ _

/-- RECEIVER_LINK is CLEAR behind a good frame that brought the link UP, if it was RAISED. -/
theorem goodFrame_slot_of_not_up (h : s.links[l].state ≠ .up) (raised : (s.slot (.link l)).isRaised = true) :
    (s.goodFrame l).slot (.link l) = .clear := by
  have before : (((brought s l).refresh (.link l)).slot (.link l)).isRaised = true := by rw [slot_refresh]; exact raised
  rw [goodFrame_of_not_up h]
  exact grade_eq_clear.1 (setsGrade_endCondition before).1

theorem exec_status_of_hearing (h : s.linkHears l = true) (x : BitVec 32) :
    exec (.status l x) s = .next ((s.goodFrame l).modLink l fun r => { r with identity := some x }).evalOutputs :=
  congrArg Host.Outcome.next (if_pos h)

/-- Settles O15: UP, DOWN or SILENT, and the deaf states. -/
theorem statusFrames : Obligations.StatusFrames := by
  intro s l x ready
  refine ⟨fun up => ?_, fun down => ?_, fun deaf => ?_⟩
  · have hears := (linkHears_iff s l).2 ⟨ready, .inr (.inl up)⟩
    refine ⟨_, exec_status_of_hearing hears x, ?_, ?_⟩
    · rw [frame_evalOutputs .links (by decide), goodFrame_of_up up, modLink_modLink]
      rfl
    · rw [goodFrame_of_up up, modLink_modLink]
      exact frame_outputs (frame_mono (frame_modLink l _) (by decide)) (by decide) (by decide)
  · have notUp : s.links[l].state ≠ .up := by rcases down with h | h <;> rw [h] <;> decide
    have hears := (linkHears_iff s l).2 ⟨ready, down.elim .inl fun h => .inr (.inr h)⟩
    refine ⟨_, exec_status_of_hearing hears x, ?_, fun i => ?_, fun raised => ?_, ?_⟩
    · rw [frame_evalOutputs .links (by decide), modLink_links, goodFrame_links_of_not_up notUp, get_set_self, set_set_self]
    · rw [frame_evalOutputs .signal (by decide)]
      exact goodFrame_signal_of_not_up notUp i
    · rw [slot_evalOutputs]
      exact goodFrame_slot_of_not_up notUp raised
    · refine frame_outputs ?_ (by decide) (by decide)
      exact frame_then (frame_mono (frame_goodFrame l) (by decide)) (frame_modLink l _) (by decide)
  · have deaf' := not_linkHears_of_state deaf
    exact ⟨congrArg Host.Outcome.next (if_neg deaf'), fun m raw => congrArg Host.Outcome.next (if_neg deaf'),
      congrArg Host.Outcome.next (if_neg deaf'), congrArg Host.Outcome.next (if_neg deaf')⟩

/-! ## The recovery grace -/

theorem graceExpires_of_attributed {i : SeatId} (h : s.signal[i].grace.isSome = true) (cause : s.signal[i].cause = .link l) :
    s.graceExpires i =
      ((s.modSignal i fun g => { g with grace := none }).setAttributed l (· - 1)).loseToSignal i := by
  obtain ⟨n, running⟩ := Option.isSome_iff_exists.1 h
  rw [State.graceExpires, running]
  dsimp only
  rw [cause]

/-- The severity SIGNAL_LOSS is raised at (R80). -/
theorem lossSeverity_iff (s : State) (i : SeatId) :
    (s.mute[i].floor || (s.seats[i].lastAudio.map AudioState.isLive).getD false) = true ↔
      s.mute[i].floor = true ∨ s.seats[i].lastAudio = some .openMic ∨ s.seats[i].lastAudio = some .openVoice := by
  rw [Bool.or_eq_true]
  refine or_congr_right ?_
  cases s.seats[i].lastAudio with
  | none => simp
  | some a => cases a <;> simp [AudioState.isLive]

theorem setsGrade_raiseSignalLoss (s : State) (i : SeatId) :
    SetsGrade (.seat i .signalLoss) (.raised (if s.mute[i].floor = true ∨ s.seats[i].lastAudio = some .openMic ∨
      s.seats[i].lastAudio = some .openVoice then .urgent else .warning)) s (s.raiseSignalLoss i) := by
  have severity := if_congr (lossSeverity_iff s i) (rfl : Severity.urgent = .urgent) (rfl : Severity.warning = .warning)
  rw [← severity]
  exact setsGrade_raise _ _ _ _

/-- SIGNAL_LOSS behind a loss that is the seat's own (R80). -/
theorem setsGrade_loseToSignal (s : State) (i : SeatId) :
    SetsGrade (.seat i .signalLoss) (.raised (if s.mute[i].floor = true ∨ s.seats[i].lastAudio = some .openMic ∨
      s.seats[i].lastAudio = some .openVoice then .urgent else .warning)) s (s.loseToSignal i) :=
  setsGrade_raiseSignalLoss (s.modSignal i fun g => { g with cause := .signal }) i

/-- Settles O24: the link's count, the cause, and SIGNAL_LOSS with its severity. -/
theorem recoveryGraceExpires : Obligations.RecoveryGraceExpires := by
  intro s i l running cause
  let v := s.modSignal i fun g => { g with grace := none }
  let u := v.setAttributed l (· - 1)
  have frame : ChangesOnly [.links, .alerts] v u := frame_setAttributed_links l _
  have signal : u.signal = s.signal.set i { s.signal[i] with grace := none } := frame .signal (by decide)
  have raised := setsGrade_loseToSignal u i
  have mute : u.mute = s.mute := frame .mute (by decide)
  have seats : u.seats = s.seats := frame .seats (by decide)
  rw [mute, seats] at raised
  refine ⟨(u.loseToSignal i).evalOutputs, ?_, ?_, ?_, ?_, ?_⟩
  · refine congrArg Host.Outcome.next ((if_pos running).trans ?_)
    rw [graceExpires_of_attributed running cause]
  · rw [frame_evalOutputs .signal (by decide), loseToSignal_signal, signal, get_set_self, set_set_self]
  · rw [frame_evalOutputs .links (by decide)]
    exact (frame_raiseSignalLoss (s := u.modSignal i _) i .links (by decide)).trans (setAttributed_links v l (· - 1))
  · rw [slot_evalOutputs, severity?_eq, raised.1]
    rfl
  · refine frame_outputs ?_ (by decide) (by decide)
    refine frame_then ?_ (frame_loseToSignal i) (by decide)
    exact frame_then (frame_mono (frame_modSignal i _) (by decide)) frame (by decide)

end Sys2Proof.Machine.AntennaLinks
end

section
/-! PROOFS. The three choices of the model that walk a list and keep the best so far: the victim (R111), the first waiting
condition (R119), the stranger that leaves a full list (R8). -/

namespace Sys2Proof.Machine.Choices

open Sys2Proof Sys2Proof.Machine Sys2Proof.Machine.Laws

variable {α : Type} {before : α → α → Bool} {xs : List α} {a v : α}

/-- One element is looked at, with the best so far. -/
def pick (before : α → α → Bool) (best : Option α) (x : α) : Option α :=
  match best with
  | none => some x
  | some a => if before x a then some x else some a

/-- The best of a list: the first that no later one comes before. -/
def best (before : α → α → Bool) (xs : List α) : Option α := xs.foldl (pick before) none

/-- A walk written out is the walk of `pick`. -/
theorem foldl_eq_best {f : Option α → α → Option α} (h : ∀ b x, f b x = pick before b x) (xs : List α) :
    xs.foldl f none = best before xs := by
  rw [show f = pick before from funext fun b => funext (h b)]
  rfl

theorem findVictim_eq (sev : Severity) (es : List Entry) :
    findVictim sev es = best Entry.yieldsBefore (es.filter fun e => decide (e.severity.num < sev.num)) :=
  foldl_eq_best (fun b _ => by cases b <;> rfl) _

theorem firstWaiting_eq (s : State) :
    s.firstWaiting = best (fun b a => b.2.before s.clock a.2) s.waitingList :=
  foldl_eq_best (fun b _ => by cases b <;> rfl) _

theorem oldestStranger_eq (clock : Stamp) (xs : List Stranger) :
    oldestStranger clock xs = best (olderStranger clock) xs :=
  foldl_eq_best (fun b _ => by cases b <;> rfl) _

theorem pick_cases (b : Option α) (x : α) : pick before b x = some x ∨ pick before b x = b := by
  cases b with
  | none => exact .inl rfl
  | some a =>
    unfold pick
    dsimp only
    split
    · exact .inl rfl
    · exact .inr rfl

theorem mem_of_foldl_pick (xs : List α) (b : Option α) (h : xs.foldl (pick before) b = some v) : v ∈ xs ∨ b = some v := by
  induction xs generalizing b with
  | nil => exact .inr h
  | cons x xs ih =>
    rcases ih _ h with hmem | hx
    · exact .inl (List.mem_cons_of_mem _ hmem)
    · rcases pick_cases (before := before) b x with taken | kept
      · rw [taken] at hx
        cases hx
        exact .inl List.mem_cons_self
      · exact .inr (kept ▸ hx)

theorem mem_of_best (h : best before xs = some v) : v ∈ xs :=
  (mem_of_foldl_pick xs none h).resolve_right nofun

theorem foldl_pick_isSome (xs : List α) (b : Option α) (h : b.isSome = true) : (xs.foldl (pick before) b).isSome = true := by
  induction xs generalizing b with
  | nil => exact h
  | cons x xs ih =>
    refine ih _ ?_
    rcases pick_cases (before := before) b x with taken | kept
    · rw [taken]; rfl
    · rw [kept]; exact h

theorem best_eq_none : best before xs = none ↔ xs = [] := by
  cases xs with
  | nil => exact ⟨fun _ => rfl, fun _ => rfl⟩
  | cons x xs =>
    refine ⟨fun h => ?_, nofun⟩
    have some := foldl_pick_isSome (before := before) xs (some x) rfl
    rw [show xs.foldl (pick before) (Option.some x) = none from h] at some
    cases some

/-- An element that those ahead of it do not come before, and that comes before those behind it, stays the best. -/
theorem foldl_pick_of_last (xs : List α) (h : ∀ x ∈ xs, before x v = false) : xs.foldl (pick before) (some v) = some v := by
  induction xs with
  | nil => rfl
  | cons x xs ih =>
    have kept : pick before (some v) x = some v := if_neg (by rw [h x List.mem_cons_self]; decide)
    rw [List.foldl_cons, kept]
    exact ih fun y hy => h y (List.mem_cons_of_mem _ hy)

theorem best_eq_some_of_split {pre post : List α} (ahead : ∀ x ∈ pre, before v x = true)
    (behind : ∀ x ∈ post, before x v = false) : best before (pre ++ v :: post) = some v := by
  have taken : pick before (pre.foldl (pick before) none) v = some v := by
    cases h : pre.foldl (pick before) none with
    | none => rfl
    | some a => exact if_pos (ahead a (mem_of_best h))
  unfold best
  rw [List.foldl_append, List.foldl_cons, taken]
  exact foldl_pick_of_last post behind

/-- One look keeps what does not come before the best so far. -/
theorem pick_keeps (trans : ∀ x y z, before x y = true → before y z = true → before x z = true) {x y c : α}
    (hy : before y a = false) (h : pick before (some a) x = some c) : before y c = false := by
  unfold pick at h
  dsimp only at h
  split at h
  next beats =>
    cases h
    by_contra contra
    rw [trans y x a (Bool.not_eq_false _ ▸ contra) beats] at hy
    cases hy
  next => cases h; exact hy

theorem foldl_pick_keeps (trans : ∀ x y z, before x y = true → before y z = true → before x z = true) {y : α}
    (xs : List α) (hy : before y a = false) (h : xs.foldl (pick before) (some a) = some v) : before y v = false := by
  induction xs generalizing a with
  | nil => cases h; exact hy
  | cons x xs ih =>
    rcases pick_cases (before := before) (some a) x with hx | hx
    · rw [List.foldl_cons, hx] at h
      exact ih (pick_keeps trans hy hx) h
    · rw [List.foldl_cons, hx] at h
      exact ih hy h

theorem pick_self (irrefl : ∀ x, before x x = false) (b : Option α) (x : α) :
    ∃ c, pick before b x = some c ∧ before x c = false := by
  cases b with
  | none => exact ⟨x, rfl, irrefl x⟩
  | some a =>
    cases beats : before x a with
    | true => exact ⟨x, if_pos beats, irrefl x⟩
    | false => exact ⟨a, if_neg (by rw [beats]; decide), beats⟩

/-- In an order, nothing comes before the best. -/
theorem before_best (irrefl : ∀ x, before x x = false)
    (trans : ∀ x y z, before x y = true → before y z = true → before x z = true) (h : best before xs = some v) :
    ∀ x ∈ xs, before x v = false := by
  intro x hx
  obtain ⟨pre, post, rfl⟩ := List.append_of_mem hx
  unfold best at h
  rw [List.foldl_append, List.foldl_cons] at h
  obtain ⟨c, hc, hxc⟩ := pick_self irrefl (pre.foldl (pick before) none) x
  rw [hc] at h
  exact foldl_pick_keeps trans post hxc h

end Sys2Proof.Machine.Choices
end

section
/-! PROOFS. The roster's order, tags and ranks (R105, R106, R109) under the single operations on the roster: a filtered
roster, a rewritten one, a created entry, an escalated one. -/

namespace Sys2Proof.Machine.RosterSoundness

open Sys2Proof Sys2Proof.Machine Sys2Proof.Machine.Laws Sys2Proof.Machine.RosterLists

variable {s t : State} {es : List Entry} {tag rank : Nat} {e : Entry} {src : Source} {sev : Severity}

/-! ## Soundness as a property of the roster and its two counters -/

/-- `RosterSound` of a roster with its next-tag and rank counters. -/
structure Sound (es : List Entry) (tag rank : Nat) : Prop where
  length : es.length ≤ 48
  ahead : es.Pairwise Entry.ahead
  rank_le : rank ≤ Config.maxRank
  ranks_le : ∀ e ∈ es, e.rank ≤ rank
  ranks_nodup : (es.map (·.rank)).Nodup
  tags_nodup : (es.map (·.tag)).Nodup
  tags_range : ∀ e ∈ es, 1 ≤ e.tag ∧ e.tag ≤ 65535
  next_pos : 1 ≤ tag
  next_le : tag ≤ 65535

theorem rosterSound_iff : RosterSound s ↔ Sound s.alerts.roster s.alerts.nextTag s.alerts.rankCounter :=
  ⟨fun ⟨⟨length, ahead, rank_le, ranks_le, ranks_nodup⟩, ⟨_, tags_nodup, tags_range, next_pos, next_le⟩⟩ =>
    ⟨length, ahead, rank_le, ranks_le, ranks_nodup, tags_nodup, tags_range, next_pos, next_le⟩,
  fun h => ⟨⟨h.length, h.ahead, h.rank_le, h.ranks_le, h.ranks_nodup⟩,
    ⟨h.length, h.tags_nodup, h.tags_range, h.next_pos, h.next_le⟩⟩⟩

/-- Entries may leave. -/
theorem Sound.filter (h : Sound es tag rank) (f : Entry → Bool) : Sound (es.filter f) tag rank where
  length := (List.length_filter_le f es).trans h.length
  ahead := h.ahead.filter f
  rank_le := h.rank_le
  ranks_le := fun e he => h.ranks_le e (List.mem_filter.1 he).1
  ranks_nodup := h.ranks_nodup.sublist (List.filter_sublist.map _)
  tags_nodup := h.tags_nodup.sublist (List.filter_sublist.map _)
  tags_range := fun e he => h.tags_range e (List.mem_filter.1 he).1
  next_pos := h.next_pos
  next_le := h.next_le

/-- Entries may be rewritten, but for tag, rank and severity. -/
theorem Sound.map (h : Sound es tag rank) {f : Entry → Entry} (ht : ∀ e, (f e).tag = e.tag) (hr : ∀ e, (f e).rank = e.rank)
    (hs : ∀ e, (f e).severity = e.severity) : Sound (es.map f) tag rank where
  length := by rw [List.length_map]; exact h.length
  ahead := by
    refine List.pairwise_map.2 (h.ahead.imp fun {a b} hab => ?_)
    unfold Entry.ahead at hab ⊢
    rw [hs, hs, hr, hr]
    exact hab
  rank_le := h.rank_le
  ranks_le := fun x hx => by
    obtain ⟨e, he, rfl⟩ := List.mem_map.1 hx
    rw [hr]
    exact h.ranks_le e he
  ranks_nodup := by
    rw [List.map_map, show (fun x : Entry => x.rank) ∘ f = (·.rank) from funext hr]
    exact h.ranks_nodup
  tags_nodup := by
    rw [List.map_map, show (fun x : Entry => x.tag) ∘ f = (·.tag) from funext ht]
    exact h.tags_nodup
  tags_range := fun x hx => by
    obtain ⟨e, he, rfl⟩ := List.mem_map.1 hx
    rw [ht]
    exact h.tags_range e he
  next_pos := h.next_pos
  next_le := h.next_le

/-- An entry may join, with a tag no other holds and a rank above all. -/
theorem Sound.insert (h : Sound es tag rank) (room : es.length < 48) (counter : rank < Config.maxRank)
    (he : e.rank = rank + 1) (free : ∀ x ∈ es, e.tag ≠ x.tag) (pos : 1 ≤ e.tag) (le : e.tag ≤ 65535) {tag' : Nat}
    (next_pos : 1 ≤ tag') (next_le : tag' ≤ 65535) : Sound (insertEntry e es) tag' (rank + 1) where
  length := by rw [length_insertEntry]; omega
  ahead := ahead_insertEntry h.ahead fun x hx => by have := h.ranks_le x hx; omega
  rank_le := counter
  ranks_le := fun x hx => by
    rcases mem_insertEntry.1 hx with rfl | hx
    · exact he.le
    · have := h.ranks_le x hx; omega
  ranks_nodup := by
    rw [((perm_insertEntry e es).map _).nodup_iff, List.map_cons, List.nodup_cons]
    refine ⟨fun hmem => ?_, h.ranks_nodup⟩
    obtain ⟨x, hx, same⟩ := List.mem_map.1 hmem
    have := h.ranks_le x hx
    omega
  tags_nodup := by
    rw [((perm_insertEntry e es).map _).nodup_iff, List.map_cons, List.nodup_cons]
    refine ⟨fun hmem => ?_, h.tags_nodup⟩
    obtain ⟨x, hx, same⟩ := List.mem_map.1 hmem
    exact free x hx same.symm
  tags_range := fun x hx => by
    rcases mem_insertEntry.1 hx with rfl | hx
    · exact ⟨pos, le⟩
    · exact h.tags_range x hx
  next_pos := next_pos
  next_le := next_le

/-! ## Room for one more rank -/

theorem Sound.renumbered (h : Sound es tag rank) : Sound (renumber 1 es) tag es.length where
  length := by rw [length_renumber]; exact h.length
  ahead := ahead_renumber 1 (falling_of_ahead h.ahead)
  rank_le := h.length.trans (by decide)
  ranks_le := fun x hx => by have := (mem_renumber hx).2.1; omega
  ranks_nodup := nodup_ranks_renumber 1 es
  tags_nodup := by rw [map_renumber (·.tag) (fun _ _ => rfl)]; exact h.tags_nodup
  tags_range := fun x hx => by
    obtain ⟨-, -, y, hy, same⟩ := mem_renumber hx
    rw [same]
    exact h.tags_range y hy
  next_pos := h.next_pos
  next_le := h.next_le

/-- `Sound` of a roster block. -/
abbrev SoundAlerts (a : Alerts) : Prop := Sound a.roster a.nextTag a.rankCounter

theorem soundAlerts_beforeRank {a : Alerts} (h : SoundAlerts a) :
    SoundAlerts a.beforeRank ∧ a.beforeRank.rankCounter < Config.maxRank := by
  unfold Alerts.beforeRank
  split
  next below => exact ⟨h, below⟩
  next => exact ⟨h.renumbered, Nat.lt_of_le_of_lt h.length (by decide)⟩

theorem beforeRank_of_below {a : Alerts} (h : a.rankCounter < Config.maxRank) : a.beforeRank = a := if_pos h

theorem beforeRank_overflow (a : Alerts) : a.beforeRank.overflow = a.overflow := by
  unfold Alerts.beforeRank
  split <;> rfl

/-- Renumbering keeps what does not hang on a rank. -/
theorem map_beforeRank {α : Type} (f : Entry → α) (hf : ∀ e n, f { e with rank := n } = f e) (a : Alerts) :
    a.beforeRank.roster.map f = a.roster.map f := by
  unfold Alerts.beforeRank
  split
  · rfl
  · exact map_renumber f hf 1 _

theorem length_beforeRank (a : Alerts) : a.beforeRank.roster.length = a.roster.length := by
  rw [← List.length_map (f := fun x : Entry => x.tag), map_beforeRank _ (fun _ _ => rfl), List.length_map]

/-! ## The tag of a new entry -/

theorem newTag_free {a : Alerts} (h : SoundAlerts a) : ∀ x ∈ a.roster, a.newTag ≠ x.tag := by
  intro x hx same
  refine freeTag_not_mem (used := a.roster.map (·.tag)) (fuel := Config.rosterSize + 1) h.next_pos h.next_le ?_ (by decide) ?_
  · rw [List.length_map]
    exact h.length.trans (by decide)
  · rw [show freeTag (a.roster.map (·.tag)) (Config.rosterSize + 1) a.nextTag = x.tag from same]
    exact List.mem_map_of_mem hx

theorem newTag_range {a : Alerts} (h : SoundAlerts a) : 1 ≤ a.newTag ∧ a.newTag ≤ 65535 :=
  freeTag_range _ h.next_pos h.next_le

theorem newTag_of_free {a : Alerts} (h : ∀ x ∈ a.roster, x.tag ≠ a.nextTag) : a.newTag = a.nextTag := by
  refine freeTag_of_free _ fun hmem => ?_
  obtain ⟨x, hx, same⟩ := List.mem_map.1 hmem
  exact h x hx same

/-! ## Created and escalated entries -/

/-- The roster block as an entry is created in it, but for the slot of its condition. -/
def created (s : State) (src : Source) (r : Raised) : Alerts :=
  let a := s.alerts.beforeRank
  { a with
    roster := insertEntry { tag := a.newTag, source := src, severity := r.severity, phase := .live, stamp := r.stamp,
                            rank := a.rankCounter + 1, acks := noPorts, detail := s.detailOf src } a.roster
    nextTag := succTag a.newTag
    rankCounter := a.rankCounter + 1 }

/-- The slots lie beside the roster and its counters. -/
theorem setSlot_tables (a : Alerts) (src : Source) (x : Slot) :
    (a.setSlot src x).roster = a.roster ∧ (a.setSlot src x).nextTag = a.nextTag ∧
      (a.setSlot src x).rankCounter = a.rankCounter ∧ (a.setSlot src x).overflow = a.overflow := by
  cases src <;> exact ⟨rfl, rfl, rfl, rfl⟩

@[simp] theorem setSlot_roster (a : Alerts) (src : Source) (x : Slot) : (a.setSlot src x).roster = a.roster :=
  (setSlot_tables a src x).1
@[simp] theorem setSlot_nextTag (a : Alerts) (src : Source) (x : Slot) : (a.setSlot src x).nextTag = a.nextTag :=
  (setSlot_tables a src x).2.1
@[simp] theorem setSlot_rankCounter (a : Alerts) (src : Source) (x : Slot) :
    (a.setSlot src x).rankCounter = a.rankCounter := (setSlot_tables a src x).2.2.1
@[simp] theorem setSlot_overflow (a : Alerts) (src : Source) (x : Slot) : (a.setSlot src x).overflow = a.overflow :=
  (setSlot_tables a src x).2.2.2

theorem createEntry_alerts (s : State) (src : Source) (r : Raised) :
    (s.createEntry src r).alerts = (created s src r).setSlot src
      (((created s src r).slot src).mapRaised fun x => { x with listing := .listed }) := rfl

theorem soundAlerts_created (h : SoundAlerts s.alerts) (room : s.alerts.roster.length < 48) (src : Source) (r : Raised) :
    SoundAlerts (created s src r) := by
  obtain ⟨sound, below⟩ := soundAlerts_beforeRank h
  obtain ⟨pos, le⟩ := newTag_range sound
  obtain ⟨nextPos, nextLe⟩ := succTag_range pos le
  refine sound.insert ?_ below rfl (newTag_free sound) pos le nextPos nextLe
  rw [length_beforeRank]
  exact room

theorem rosterSound_createEntry (h : RosterSound s) (room : s.alerts.roster.length < 48) (src : Source) (r : Raised) :
    RosterSound (s.createEntry src r) := by
  rw [rosterSound_iff, createEntry_alerts, setSlot_roster, setSlot_nextTag, setSlot_rankCounter]
  exact soundAlerts_created (rosterSound_iff.1 h) room src r

theorem length_createEntry (s : State) (src : Source) (r : Raised) :
    (s.createEntry src r).alerts.roster.length = s.alerts.roster.length + 1 := by
  rw [createEntry_alerts, setSlot_roster]
  exact (length_insertEntry _ _).trans (congrArg (· + 1) (length_beforeRank _))

/-- The roster block as an entry of it escalates. -/
def escalated (s : State) (src : Source) (sev : Severity) (e : Entry) : Alerts :=
  let a := s.alerts.beforeRank
  { a with
    roster := insertEntry
      { e with severity := sev, rank := a.rankCounter + 1, acks := noPorts,
               detail := if src.detailAtEscalation then s.detailOf src else e.detail }
      (a.roster.filter fun x => x.source != src)
    rankCounter := a.rankCounter + 1 }

theorem escalateEntry_of_none (h : s.alerts.beforeRank.roster.find? (fun e => e.source == src) = none) :
    s.escalateEntry src sev = s := by
  unfold State.escalateEntry
  dsimp only
  rw [h]

theorem escalateEntry_of_some (h : s.alerts.beforeRank.roster.find? (fun e => e.source == src) = some e) :
    s.escalateEntry src sev =
      ({ s with alerts := escalated s src sev e }).attend fun p => s.dueTo p src sev := by
  unfold State.escalateEntry
  dsimp only
  rw [h]
  rfl

/-- Some entry of the source stands in the roster, so taking all of them out makes room for one. -/
theorem length_filter_source {v : Entry} (hv : v ∈ es) (hs : v.source = src) :
    (es.filter fun x => x.source != src).length < es.length := by
  refine List.length_filter_lt_length_iff_exists.2 ⟨v, hv, ?_⟩
  rw [hs, bne_self_eq_false]
  decide

theorem mem_of_find_source (h : es.find? (fun e => e.source == src) = some e) : e ∈ es ∧ e.source = src :=
  ⟨List.mem_of_find?_eq_some h, by simpa using List.find?_some h⟩

theorem rosterSound_escalateEntry (h : RosterSound s) (src : Source) (sev : Severity) :
    RosterSound (s.escalateEntry src sev) := by
  obtain ⟨sound, below⟩ := soundAlerts_beforeRank (rosterSound_iff.1 h)
  cases found : s.alerts.beforeRank.roster.find? fun e => e.source == src with
  | none => rw [escalateEntry_of_none found]; exact h
  | some e =>
    obtain ⟨hmem, origin⟩ := mem_of_find_source found
    rw [escalateEntry_of_some found, rosterSound_iff]
    obtain ⟨pos, le⟩ := sound.tags_range e hmem
    refine (sound.filter _).insert
      (e := { e with severity := sev, rank := s.alerts.beforeRank.rankCounter + 1, acks := noPorts,
                     detail := if src.detailAtEscalation then s.detailOf src else e.detail })
      ?_ below rfl (fun x hx same => ?_) pos le sound.next_pos sound.next_le
    · exact Nat.lt_of_lt_of_le (length_filter_source hmem origin) sound.length
    · obtain ⟨hx, other⟩ := List.mem_filter.1 hx
      obtain rfl : e = x := List.inj_on_of_nodup_map sound.tags_nodup hmem hx same
      rw [origin, bne_self_eq_false] at other
      exact absurd other (by decide)

theorem length_escalateEntry_le (s : State) (src : Source) (sev : Severity) :
    (s.escalateEntry src sev).alerts.roster.length ≤ s.alerts.roster.length := by
  cases found : s.alerts.beforeRank.roster.find? fun e => e.source == src with
  | none => rw [escalateEntry_of_none found]
  | some e =>
    obtain ⟨hmem, origin⟩ := mem_of_find_source found
    rw [escalateEntry_of_some found]
    calc (escalated s src sev e).roster.length
      _ = (s.alerts.beforeRank.roster.filter fun x => x.source != src).length + 1 := length_insertEntry _ _
      _ ≤ s.alerts.beforeRank.roster.length := length_filter_source hmem origin
      _ = s.alerts.roster.length := length_beforeRank _

/-! ## Displacement -/

theorem displace_tables (s : State) (v : Entry) :
    (s.displace v).alerts.roster = s.alerts.roster.filter (fun e => e.source != v.source) ∧
      (s.displace v).alerts.nextTag = s.alerts.nextTag ∧ (s.displace v).alerts.rankCounter = s.alerts.rankCounter ∧
      (s.displace v).alerts.overflow = Vector.ofFn fun p => s.due p v || s.alerts.overflow[p] := by
  unfold State.displace
  dsimp only
  split
  · exact ⟨rfl, rfl, rfl, rfl⟩
  · exact ⟨setSlot_roster _ _ _, setSlot_nextTag _ _ _, setSlot_rankCounter _ _ _, setSlot_overflow _ _ _⟩

theorem displace_attention (s : State) (v : Entry) : (s.displace v).attention =
    Vector.ofFn fun p => (s.due p v && !s.alerts.overflow[p]) || s.attention[p] := by
  unfold State.displace
  dsimp only
  split <;> rfl

theorem mem_of_findVictim {v : Entry} (h : findVictim sev es = some v) : v ∈ es ∧ v.severity.num < sev.num := by
  rw [Choices.findVictim_eq] at h
  obtain ⟨hv, below⟩ := List.mem_filter.1 (Choices.mem_of_best h)
  exact ⟨hv, of_decide_eq_true below⟩

/-- The four ways of a listing attempt (R109 to R113): by supersession, in a free place, in a victim's place, or none. -/
theorem attempt_cases {motive : State → Prop} (s : State) (src : Source)
    (idle : (s.slot src).isRaised = false → motive s)
    (superseded : ∀ r e, s.slot src = .raised r → e ∈ s.alerts.roster → e.source = src → e.isEnded = true →
      motive ((s.dropEntry src).createEntry src r))
    (free : ∀ r, s.slot src = .raised r → (∀ e ∈ s.alerts.roster, e.source = src → e.isEnded = false) →
      s.alerts.roster.length < 48 → motive (s.createEntry src r))
    (displaced : ∀ r v, s.slot src = .raised r → (∀ e ∈ s.alerts.roster, e.source = src → e.isEnded = false) →
      48 ≤ s.alerts.roster.length → findVictim r.severity s.alerts.roster = some v →
      motive ((s.displace v).createEntry src r))
    (waits : ∀ r, s.slot src = .raised r → (∀ e ∈ s.alerts.roster, e.source = src → e.isEnded = false) →
      48 ≤ s.alerts.roster.length → findVictim r.severity s.alerts.roster = none →
      motive ((s.setListing src .waiting).markOverflow src r.severity)) :
    motive (s.attempt src) := by
  cases h : s.slot src with
  | clear => rw [show s.attempt src = s by unfold State.attempt; rw [h]]; exact idle (by rw [h]; rfl)
  | qualifying => rw [show s.attempt src = s by unfold State.attempt; rw [h]]; exact idle (by rw [h]; rfl)
  | raised r =>
    unfold State.attempt
    rw [h]
    dsimp only
    split
    next ended =>
      obtain ⟨e, he, both⟩ := List.any_eq_true.1 ended
      rw [Bool.and_eq_true, beq_iff_eq] at both
      exact superseded r e h he both.1 both.2
    next noEnded =>
      have live : ∀ e ∈ s.alerts.roster, e.source = src → e.isEnded = false := by
        intro e he same
        by_contra ended
        rw [Bool.not_eq_false] at ended
        exact noEnded (List.any_eq_true.2 ⟨e, he, by rw [same, ended, beq_self_eq_true]; rfl⟩)
      split
      next room => exact free r h live room
      next full =>
        split
        next v found => exact displaced r v h live (Nat.not_lt.1 full) found
        next none => exact waits r h live (Nat.not_lt.1 full) none

theorem dropEntry_roster (s : State) (src : Source) :
    (s.dropEntry src).alerts.roster = s.alerts.roster.filter fun e => e.source != src := rfl

theorem rosterSound_dropEntry (h : RosterSound s) (src : Source) : RosterSound (s.dropEntry src) :=
  rosterSound_iff.2 ((rosterSound_iff.1 h).filter _)

theorem length_dropEntry_lt {v : Entry} (hv : v ∈ s.alerts.roster) :
    (s.dropEntry v.source).alerts.roster.length < s.alerts.roster.length := length_filter_source hv rfl

theorem rosterSound_displace (h : RosterSound s) (v : Entry) : RosterSound (s.displace v) := by
  obtain ⟨hr, ht, hk, -⟩ := displace_tables s v
  rw [rosterSound_iff, hr, ht, hk]
  exact (rosterSound_iff.1 h).filter _

theorem length_displace_lt {v : Entry} (hv : v ∈ s.alerts.roster) :
    (s.displace v).alerts.roster.length < s.alerts.roster.length := by
  rw [(displace_tables s v).1]
  exact length_filter_source hv rfl

theorem rosterSound_of_tables (hr : t.alerts.roster = s.alerts.roster) (ht : t.alerts.nextTag = s.alerts.nextTag)
    (hk : t.alerts.rankCounter = s.alerts.rankCounter) (h : RosterSound s) : RosterSound t := by
  rw [rosterSound_iff, hr, ht, hk]
  exact rosterSound_iff.1 h

theorem rosterSound_attempt (h : RosterSound s) (src : Source) : RosterSound (s.attempt src) := by
  have few := (rosterSound_iff.1 h).length
  refine attempt_cases s src (fun _ => h) (fun r e _ he same _ => ?_) (fun r _ _ room => rosterSound_createEntry h room src r)
    (fun r v _ _ _ found => ?_) (fun r _ _ _ _ => ?_)
  · subst same
    exact rosterSound_createEntry (rosterSound_dropEntry h _) (Nat.lt_of_lt_of_le (length_dropEntry_lt he) few) _ r
  · exact rosterSound_createEntry (rosterSound_displace h v)
      (Nat.lt_of_lt_of_le (length_displace_lt (mem_of_findVictim found).1) few) src r
  · exact rosterSound_of_tables (setSlot_roster _ _ _) (setSlot_nextTag _ _ _) (setSlot_rankCounter _ _ _) h

/-- A listing attempt that finds at most 48 entries leaves at most 48. -/
theorem length_attempt_le (few : s.alerts.roster.length ≤ 48) (src : Source) : (s.attempt src).alerts.roster.length ≤ 48 := by
  refine attempt_cases (motive := fun t => t.alerts.roster.length ≤ 48) s src (fun _ => few) (fun r e _ he same _ => ?_)
    (fun r _ _ room => ?_) (fun r v _ _ _ found => ?_) (fun r _ _ _ _ => ?_)
  · subst same
    rw [length_createEntry]
    exact Nat.lt_of_lt_of_le (length_dropEntry_lt he) few
  · rw [length_createEntry]
    exact room
  · rw [length_createEntry]
    exact Nat.lt_of_lt_of_le (length_displace_lt (mem_of_findVictim found).1) few
  · exact (congrArg List.length (setSlot_roster _ _ _)).trans_le few

/-! ## Properties that every roster operation keeps -/

/-- The two states differ in slots and in blocks that no property of roster, marks and attention looks at. -/
structure Beside (s t : State) : Prop where
  roster : t.alerts.roster = s.alerts.roster
  nextTag : t.alerts.nextTag = s.alerts.nextTag
  rankCounter : t.alerts.rankCounter = s.alerts.rankCounter
  overflow : t.alerts.overflow = s.alerts.overflow
  attention : t.attention = s.attention
  ports : t.ports = s.ports

theorem beside_setSlot (s : State) (src : Source) (x : Slot) : Beside s (s.setSlot src x) :=
  ⟨setSlot_roster _ _ _, setSlot_nextTag _ _ _, setSlot_rankCounter _ _ _, setSlot_overflow _ _ _, rfl, rfl⟩

/-- A property of roster, marks and attention that the single operations of chapter 7 keep. -/
structure Steady (P : State → Prop) : Prop where
  beside : ∀ {s t}, Beside s t → P s → P t
  filter : ∀ {s} (f : Entry → Bool), P s → P (s.setRoster (s.alerts.roster.filter f))
  map : ∀ {s} (f : Entry → Entry), (∀ e, (f e).tag = e.tag) → (∀ e, (f e).rank = e.rank) →
    (∀ e, (f e).severity = e.severity) → P s → P (s.setRoster (s.alerts.roster.map f))
  attempt : ∀ {s} (src : Source), P s → P (s.attempt src)
  escalateEntry : ∀ {s} (src : Source) (sev : Severity), P s → P (s.escalateEntry src sev)

variable {P : State → Prop}

theorem Steady.setSlot (k : Steady P) (src : Source) (x : Slot) (h : P s) : P (s.setSlot src x) := k.beside (beside_setSlot _ _ _) h

theorem Steady.raise (k : Steady P) (src : Source) (sev : Severity) (d : FixedDetail) (h : P s) : P (s.raise src sev d) := by
  unfold State.raise
  split
  · exact k.setSlot _ _ h
  · exact k.attempt _ (k.setSlot _ _ h)

theorem Steady.escalate (k : Steady P) (src : Source) (sev : Severity) (h : P s) : P (s.escalate src sev) := by
  unfold State.escalate
  split
  · dsimp only
    split
    · exact k.escalateEntry _ _ (k.setSlot _ _ h)
    · exact k.attempt _ (k.setSlot _ _ h)
    · exact k.setSlot _ _ h
  · exact h

theorem Steady.relist (k : Steady P) (h : P s) : P s.relist := by
  unfold State.relist
  split
  · exact k.attempt _ h
  · exact h

theorem Steady.removalTest (k : Steady P) (src : Source) (h : P s) : P (s.removalTest src) := by
  unfold State.removalTest
  split
  · split
    · exact k.relist (k.filter _ h)
    · exact h
  · exact h

theorem Steady.mapLive (k : Steady P) (src : Source) {f : Entry → Entry} (ht : ∀ e, (f e).tag = e.tag) (hr : ∀ e, (f e).rank = e.rank)
    (hs : ∀ e, (f e).severity = e.severity) (h : P s) : P (s.mapLive src f) := by
  refine k.map _ (fun e => ?_) (fun e => ?_) (fun e => ?_) h
  · split
    · exact ht e
    · rfl
  · split
    · exact hr e
    · rfl
  · split
    · exact hs e
    · rfl

theorem Steady.endCondition (k : Steady P) (src : Source) (h : P s) : P (s.endCondition src) := by
  unfold State.endCondition
  split
  · dsimp only
    split
    · exact k.removalTest _ (k.mapLive _ (fun _ => rfl) (fun _ => rfl) (fun _ => rfl) (k.setSlot _ _ h))
    · exact k.setSlot _ _ h
    · exact k.setSlot _ _ h
  · exact h

theorem Steady.foldl {α : Type} {f : State → α → State} (hf : ∀ s x, P s → P (f s x)) (xs : List α)
    (h : P s) : P (xs.foldl f s) := by
  induction xs generalizing s with
  | nil => exact h
  | cons x xs ih => exact ih (hf s x h)

theorem Steady.setQuiet (k : Steady P) (i : SeatId) (h : P s) : P (s.setQuiet i) := k.beside (s := s) ⟨rfl, rfl, rfl, rfl, rfl, rfl⟩ h

theorem Steady.clearQuiet (k : Steady P) (i : SeatId) (h : P s) : P (s.clearQuiet i) := by
  unfold State.clearQuiet
  split
  · exact foldl (f := fun (t : State) (c : Source × Raised) => t.attempt c.1) (fun _ c => k.attempt c.1) _
      (k.beside (s := s) ⟨rfl, rfl, rfl, rfl, rfl, rfl⟩ h)
  · exact h

theorem Steady.removeSeatEntries (k : Steady P) (i : SeatId) (h : P s) : P (s.removeSeatEntries i) :=
  foldl (f := fun t src => (t.dropEntry src).relist) (fun _ _ h => k.relist (k.filter _ h)) _ h

theorem steady_rosterSound : Steady RosterSound where
  beside same := rosterSound_of_tables same.roster same.nextTag same.rankCounter
  filter f h := rosterSound_iff.2 ((rosterSound_iff.1 h).filter f)
  map _ ht hr hs h := rosterSound_iff.2 ((rosterSound_iff.1 h).map ht hr hs)
  attempt src h := rosterSound_attempt h src
  escalateEntry src sev h := rosterSound_escalateEntry h src sev

theorem steady_few : Steady fun s => s.alerts.roster.length ≤ 48 where
  beside same h := same.roster ▸ h
  filter f h := (List.length_filter_le f _).trans h
  map f _ _ _ h := (List.length_map f).trans_le h
  attempt src h := length_attempt_le h src
  escalateEntry src sev h := (length_escalateEntry_le _ src sev).trans h

end Sys2Proof.Machine.RosterSoundness
end

section
/-! PROOFS. The agreement of roster and condition slots (R109, R113) under the operations of chapter 7. Between the steps
of one operation some conditions are still to be listed, and entries of an unbound seat are still to be removed; `Agree`
names both sets. -/

namespace Sys2Proof.Machine.Agreement

open Sys2Proof Sys2Proof.Machine Sys2Proof.Machine.Laws Sys2Proof.Machine.SlotGrades Sys2Proof.Machine.RosterLists
open Sys2Proof.Machine.RosterSoundness

/-- What the agreement looks at in an entry. -/
structure Face where
  source : Source
  severity : Severity
  ended : Bool

def face (e : Entry) : Face := ⟨e.source, e.severity, e.isEnded⟩

/-- The slot is of a LISTED condition of the severity. -/
def Listed (x : Slot) (sev : Severity) : Prop := ∃ r, x = .raised r ∧ r.listing = .listed ∧ r.severity = sev

/-- The slot is of a WAITING condition. -/
def Waiting (x : Slot) : Prop := ∃ r, x = .raised r ∧ r.listing = .waiting

/-- `EntriesMatch` of entries and slots, but for LIVE entries whose origin is gone, and for WAITING conditions whose
listing attempt is still due. -/
structure Agree (gone : Source → Prop) (due : List Source) (fs : List Face) (slot : Source → Slot) : Prop where
  nodup : (fs.map (·.source)).Nodup
  live : ∀ f ∈ fs, f.ended = false → gone f.source ∨ Listed (slot f.source) f.severity
  listed : ∀ src sev, Listed (slot src) sev → ∃ f ∈ fs, f.source = src ∧ f.ended = false
  waiting : ∀ src, Waiting (slot src) → src ∉ due → ∀ f ∈ fs, f.source ≠ src
  gone_clear : ∀ src, gone src → (slot src).isRaised = false

variable {gone : Source → Prop} {due due' : List Source} {fs gs : List Face} {slot slot' : Source → Slot} {src : Source}
  {sev : Severity}

theorem Listed.not_waiting {x : Slot} (h : Listed x sev) : ¬Waiting x := by
  obtain ⟨r, rfl, listed, -⟩ := h
  rintro ⟨r', hr, waiting⟩
  cases hr
  rw [listed] at waiting
  cases waiting

theorem Listed.raised {x : Slot} (h : Listed x sev) : x.isRaised = true := by
  obtain ⟨r, rfl, -⟩ := h
  rfl

theorem Waiting.raised {x : Slot} (h : Waiting x) : x.isRaised = true := by
  obtain ⟨r, rfl, -⟩ := h
  rfl

theorem not_listed_of_not_raised {x : Slot} (h : x.isRaised = false) : ¬Listed x sev :=
  fun l => absurd l.raised (by rw [h]; decide)

theorem Agree.perm (h : Agree gone due fs slot) (p : fs.Perm gs) : Agree gone due gs slot where
  nodup := ((p.map _).nodup_iff).1 h.nodup
  live f hf := h.live f (p.mem_iff.2 hf)
  listed src sev l := by
    obtain ⟨f, hf, same⟩ := h.listed src sev l
    exact ⟨f, p.mem_iff.1 hf, same⟩
  waiting src w free f hf := h.waiting src w free f (p.mem_iff.2 hf)
  gone_clear := h.gone_clear

/-- One condition's slot changes and its entry, if it had one, has left. -/
theorem Agree.drop (h : Agree gone due fs slot) (others : ∀ o, o ≠ src → slot' o = slot o)
    (unlisted : ∀ sev, ¬Listed (slot' src) sev) (clear : gone src → (slot' src).isRaised = false) :
    Agree gone due (fs.filter fun f => f.source != src) slot' where
  nodup := h.nodup.sublist (List.filter_sublist.map _)
  live f hf live := by
    obtain ⟨hf, ne⟩ := List.mem_filter.1 hf
    rw [others _ (bne_iff_ne.1 ne)]
    exact h.live f hf live
  listed o sev l := by
    have ne : o ≠ src := fun same => unlisted sev (same ▸ l)
    obtain ⟨f, hf, same, live⟩ := h.listed o sev (others o ne ▸ l)
    exact ⟨f, List.mem_filter.2 ⟨hf, bne_iff_ne.2 (same ▸ ne)⟩, same, live⟩
  waiting o w free f hf := by
    obtain ⟨hf, ne⟩ := List.mem_filter.1 hf
    by_cases same : o = src
    · exact same ▸ bne_iff_ne.1 ne
    · exact h.waiting o (others o same ▸ w) free f hf
  gone_clear o g := by
    by_cases same : o = src
    · subst same; exact clear g
    · rw [others o same]; exact h.gone_clear o g

/-- One condition's slot changes between values that are not LISTED; if it becomes WAITING, an attempt is due. -/
theorem Agree.setSlot (h : Agree gone due fs slot) (others : ∀ o, o ≠ src → slot' o = slot o)
    (before : ∀ sev, ¬Listed (slot src) sev) (after : ∀ sev, ¬Listed (slot' src) sev)
    (clear : gone src → (slot' src).isRaised = false) (waits : Waiting (slot' src) → src ∈ due')
    (sub : ∀ o ∈ due, o = src ∨ o ∈ due') : Agree gone due' fs slot' where
  nodup := h.nodup
  live f hf live := by
    by_cases same : f.source = src
    · rcases h.live f hf live with g | l
      · exact .inl g
      · exact absurd (same ▸ l) (before _)
    · rw [others _ same]
      exact h.live f hf live
  listed o sev l := by
    have ne : o ≠ src := fun same => after sev (same ▸ l)
    exact h.listed o sev (others o ne ▸ l)
  waiting o w free := by
    have ne : o ≠ src := fun same => free (same ▸ waits (same ▸ w))
    refine h.waiting o (others o ne ▸ w) fun hd => ?_
    exact (sub o hd).elim ne free
  gone_clear o g := by
    by_cases same : o = src
    · subst same; exact clear g
    · rw [others o same]; exact h.gone_clear o g

/-- A condition without an entry is listed. -/
theorem Agree.create (h : Agree gone due fs slot) (others : ∀ o, o ≠ src → slot' o = slot o)
    (none : ∀ f ∈ fs, f.source ≠ src) (here : ¬gone src) (now : Listed (slot' src) sev)
    (sub : ∀ o ∈ due, o = src ∨ o ∈ due') : Agree gone due' (⟨src, sev, false⟩ :: fs) slot' where
  nodup := by
    rw [List.map_cons, List.nodup_cons]
    refine ⟨fun hmem => ?_, h.nodup⟩
    obtain ⟨f, hf, same⟩ := List.mem_map.1 hmem
    exact none f hf same
  live f hf live := by
    rcases List.mem_cons.1 hf with rfl | hf
    · exact .inr now
    · rw [others _ (none f hf)]
      exact h.live f hf live
  listed o sev' l := by
    by_cases same : o = src
    · exact ⟨_, List.mem_cons_self, same.symm, rfl⟩
    · obtain ⟨f, hf, at_o⟩ := h.listed o sev' (others o same ▸ l)
      exact ⟨f, List.mem_cons_of_mem _ hf, at_o⟩
  waiting o w free f hf := by
    have ne : o ≠ src := fun same => now.not_waiting (same ▸ w)
    rcases List.mem_cons.1 hf with rfl | hf
    · exact fun same => ne same.symm
    · refine h.waiting o (others o ne ▸ w) (fun hd => ?_) f hf
      exact (sub o hd).elim ne free
  gone_clear o g := by
    have ne : o ≠ src := fun same => here (same ▸ g)
    rw [others o ne]
    exact h.gone_clear o g

/-- The entry of a LISTED condition that has ended is ENDED. -/
def Face.endIf (src : Source) (f : Face) : Face := if f.source = src then { f with ended := true } else f

theorem endIf_source (src : Source) (f : Face) : (f.endIf src).source = f.source := by
  unfold Face.endIf
  split <;> rfl

theorem endIf_of_ne {f : Face} (h : f.source ≠ src) : f.endIf src = f := if_neg h

theorem Agree.ended (h : Agree gone due fs slot) (others : ∀ o, o ≠ src → slot' o = slot o)
    (ended : (slot' src).isRaised = false) : Agree gone due (fs.map (Face.endIf src)) slot' where
  nodup := by
    rw [List.map_map, show (fun f : Face => f.source) ∘ Face.endIf src = (·.source) from funext (endIf_source src)]
    exact h.nodup
  live f hf live := by
    obtain ⟨g, hg, rfl⟩ := List.mem_map.1 hf
    by_cases same : g.source = src
    · rw [Face.endIf, if_pos same] at live
      cases live
    · rw [endIf_of_ne same] at live ⊢
      rw [others _ same]
      exact h.live g hg live
  listed o sev l := by
    have ne : o ≠ src := fun same => not_listed_of_not_raised ended (same ▸ l)
    obtain ⟨f, hf, same, live⟩ := h.listed o sev (others o ne ▸ l)
    have keep : f.endIf src = f := endIf_of_ne (same ▸ ne)
    exact ⟨f, List.mem_map.2 ⟨f, hf, keep⟩, same, live⟩
  waiting o w free f hf := by
    obtain ⟨g, hg, rfl⟩ := List.mem_map.1 hf
    have ne : o ≠ src := fun same => absurd (same ▸ w.raised) (by rw [ended]; decide)
    rw [endIf_source]
    exact h.waiting o (others o ne ▸ w) free g hg
  gone_clear o g := by
    by_cases same : o = src
    · subst same; exact ended
    · rw [others o same]; exact h.gone_clear o g

/-- The entry of a LISTED condition is LIVE. -/
theorem Agree.not_ended (h : Agree gone due fs slot) (l : Listed (slot src) sev) {f : Face} (hf : f ∈ fs)
    (same : f.source = src) : f.ended = false := by
  obtain ⟨g, hg, at_src, live⟩ := h.listed src sev l
  obtain rfl : f = g := List.inj_on_of_nodup_map h.nodup hf hg (same.trans at_src.symm)
  exact live

/-! ## The agreement in a state -/

variable {s t : State} {e : Entry} {r : Raised}

/-- `Agree` of a state's entries and slots. -/
def Agrees (gone : Source → Prop) (due : List Source) (s : State) : Prop := Agree gone due (s.alerts.roster.map face) s.slot

/-- No origin is gone. -/
def nowhere : Source → Prop := fun _ => False

theorem isEnded_eq_false : e.isEnded = false ↔ e.phase = .live := by
  unfold Entry.isEnded
  split
  next h => simp [h]
  next h => simp [h]

theorem entriesMatch_iff : EntriesMatch s ↔ Agrees nowhere [] s := by
  constructor
  · rintro ⟨nodup, live, listed, waiting⟩
    refine ⟨?_, fun f hf hl => .inr ?_, fun src sev l => ?_, fun src w _ f hf => ?_, fun _ g => g.elim⟩
    · rw [List.map_map]
      exact nodup
    · obtain ⟨e, he, rfl⟩ := List.mem_map.1 hf
      exact live e he (isEnded_eq_false.1 hl)
    · obtain ⟨r, hr, hl, -⟩ := l
      obtain ⟨e, he, same, hp⟩ := listed src r hr hl
      exact ⟨face e, List.mem_map_of_mem he, same, isEnded_eq_false.2 hp⟩
    · obtain ⟨e, he, rfl⟩ := List.mem_map.1 hf
      obtain ⟨r, hr, hw⟩ := w
      exact waiting src r hr hw e he
  · intro h
    refine ⟨?_, fun e he hp => ?_, fun src r hr hl => ?_, fun src r hr hw e he => ?_⟩
    · have nodup := h.nodup
      rw [List.map_map] at nodup
      exact nodup
    · exact (h.live (face e) (List.mem_map_of_mem he) (isEnded_eq_false.2 hp)).elim False.elim id
    · obtain ⟨f, hf, same, live⟩ := h.listed src r.severity ⟨r, hr, hl, rfl⟩
      obtain ⟨e, he, rfl⟩ := List.mem_map.1 hf
      exact ⟨e, he, same, isEnded_eq_false.1 live⟩
    · exact h.waiting src ⟨r, hr, hw⟩ List.not_mem_nil (face e) (List.mem_map_of_mem he)

/-- Only the entries' faces and the slots count. -/
theorem Agrees.of_faces (h : Agrees gone due s) (faces : t.alerts.roster.map face = s.alerts.roster.map face)
    (slots : ∀ o, t.slot o = s.slot o) : Agrees gone due t := by
  unfold Agrees
  rw [faces, show t.slot = s.slot from funext slots]
  exact h

theorem Agrees.of_alerts (h : Agrees gone due s) (same : t.alerts = s.alerts) : Agrees gone due t :=
  h.of_faces (congrArg (fun a : Alerts => a.roster.map face) same) (slot_of_alerts same)

theorem faces_dropEntry (s : State) (src : Source) :
    (s.dropEntry src).alerts.roster.map face = (s.alerts.roster.map face).filter fun f => f.source != src := by
  rw [List.filter_map]
  rfl

theorem faces_setSlot (s : State) (src : Source) (x : Slot) :
    (s.setSlot src x).alerts.roster.map face = s.alerts.roster.map face := congrArg _ (setSlot_roster _ _ _)

theorem faces_createEntry (s : State) (src : Source) (r : Raised) :
    ((s.createEntry src r).alerts.roster.map face).Perm (⟨src, r.severity, false⟩ :: s.alerts.roster.map face) := by
  rw [createEntry_alerts, setSlot_roster, ← map_beforeRank face (fun _ _ => rfl) s.alerts]
  exact (perm_insertEntry _ _).map face

theorem slot_createEntry_self (h : s.slot src = .raised r) :
    (s.createEntry src r).slot src = .raised { r with listing := .listed } := by
  rw [slot_createEntry, if_pos rfl, h]
  rfl

theorem slot_createEntry_ne {o : Source} (ne : o ≠ src) : (s.createEntry src r).slot o = s.slot o := by
  rw [slot_createEntry, if_neg ne]

theorem Agrees.createEntry (h : Agrees gone due s) (raised : s.slot src = .raised r)
    (none : ∀ e ∈ s.alerts.roster, e.source ≠ src) (sub : ∀ o ∈ due, o = src ∨ o ∈ due') :
    Agrees gone due' (s.createEntry src r) := by
  have here : ¬gone src := fun g => absurd raised (not_isRaised_iff.1 (h.gone_clear src g) r)
  refine (Agree.create h (fun o ne => slot_createEntry_ne ne) (fun f hf => ?_) here
    ⟨_, slot_createEntry_self raised, rfl, rfl⟩ sub).perm (faces_createEntry s src r).symm
  obtain ⟨e, he, rfl⟩ := List.mem_map.1 hf
  exact none e he

/-- An entry leaves whose condition is not LISTED. -/
theorem Agrees.dropEntry (h : Agrees gone due s) (unlisted : ∀ sev, ¬Listed (s.slot src) sev) :
    Agrees gone due (s.dropEntry src) := by
  unfold Agrees
  rw [faces_dropEntry, show (s.dropEntry src).slot = s.slot from funext (slot_dropEntry s src)]
  exact Agree.drop h (fun _ _ => rfl) unlisted (h.gone_clear src)

/-- A WAITING condition whose entry is not ENDED has no entry. -/
theorem Agrees.no_entry (h : Agrees gone due s) (raised : s.slot src = .raised r) (waiting : r.listing = .waiting)
    (live : ∀ e ∈ s.alerts.roster, e.source = src → e.isEnded = false) : ∀ e ∈ s.alerts.roster, e.source ≠ src := by
  intro e he same
  have w : Waiting (s.slot src) := ⟨r, raised, waiting⟩
  rcases h.live (face e) (List.mem_map_of_mem he) (live e he same) with g | l
  · exact absurd raised (not_isRaised_iff.1 (same ▸ h.gone_clear (face e).source g) r)
  · rw [show (face e).source = src from same] at l
    exact l.not_waiting w

theorem dropEntry_none (s : State) (src : Source) : ∀ e ∈ (s.dropEntry src).alerts.roster, e.source ≠ src :=
  fun _ he => bne_iff_ne.1 (List.mem_filter.1 he).2

theorem displace_none {v : Entry} (none : ∀ e ∈ s.alerts.roster, e.source ≠ src) :
    ∀ e ∈ (s.displace v).alerts.roster, e.source ≠ src := by
  rw [(displace_tables s v).1]
  exact fun e he => none e (List.mem_filter.1 he).1

/-- A victim leaves: a LIVE one's condition is LISTED no more. -/
theorem Agrees.displace (h : Agrees gone due s) {v : Entry} (hv : v ∈ s.alerts.roster) :
    Agrees gone due (s.displace v) := by
  unfold Agrees
  rw [(displace_tables s v).1, show (s.alerts.roster.filter fun e => e.source != v.source).map face = _ from
    faces_dropEntry s v.source]
  refine Agree.drop h (fun o ne => ?_) (fun sev => ?_) (fun g => ?_)
  · rw [slot_displace, if_neg fun both => ne both.2]
  · rw [slot_displace]
    cases ended : v.isEnded with
    | true =>
      rw [if_neg fun both => absurd both.1 (by decide)]
      intro l
      exact absurd (h.not_ended l (List.mem_map_of_mem hv) rfl) (by rw [show (face v).ended = true from ended]; decide)
    | false =>
      rw [if_pos ⟨rfl, rfl⟩]
      rintro ⟨r, hr, listed, -⟩
      cases x : s.slot v.source with
      | clear => rw [x] at hr; cases hr
      | qualifying => rw [x] at hr; cases hr
      | raised r0 =>
        rw [x] at hr
        cases hr
        dsimp only at listed
        split at listed <;> cases listed
  · have clear := h.gone_clear _ g
    rw [← clear]
    refine isRaised_of_grade ?_
    exact keepsGrades_displace v v.source

/-- A listing attempt of a WAITING condition. -/
theorem Agrees.attempt (h : Agrees gone due s) (waits : Waiting (s.slot src)) (sub : ∀ o ∈ due, o = src ∨ o ∈ due') :
    Agrees gone due' (s.attempt src) := by
  obtain ⟨r0, raised, waiting⟩ := waits
  have unlisted : ∀ sev, ¬Listed (s.slot src) sev := fun sev l => l.not_waiting ⟨r0, raised, waiting⟩
  refine attempt_cases s src (fun idle => ?_) (fun r e hr _ _ _ => ?_) (fun r hr live _ => ?_) (fun r v hr live _ found => ?_)
    (fun r hr live _ _ => ?_)
  · rw [raised] at idle
    cases idle
  · exact (h.dropEntry unlisted).createEntry ((slot_dropEntry _ _ _).trans hr) (dropEntry_none s src) sub
  · exact h.createEntry hr (h.no_entry raised waiting live) sub
  · have none := h.no_entry raised waiting live
    have hv := (mem_of_findVictim found).1
    refine (h.displace hv).createEntry ?_ (displace_none none) sub
    rw [slot_displace, if_neg fun both => none v hv both.2.symm, hr]
  · have none := h.no_entry raised waiting live
    have same : (s.setListing src .waiting).slot src = s.slot src := by
      rw [slot_setListing, if_pos rfl, raised]
      obtain ⟨_, _, _, _⟩ := r0
      cases waiting
      rfl
    have other : ∀ o, o ≠ src → (s.setListing src .waiting).slot o = s.slot o := fun o ne => by
      rw [slot_setListing, if_neg ne]
    unfold Agrees
    rw [show ((s.setListing src .waiting).markOverflow src r.severity).alerts.roster = s.alerts.roster from
      setSlot_roster _ _ _, show ((s.setListing src .waiting).markOverflow src r.severity).slot = s.slot from
      funext fun o => (slot_markOverflow _ _ _ _).trans (if ho : o = src then ho ▸ same else other o ho)]
    refine ⟨h.nodup, h.live, h.listed, fun o w free f hf => ?_, h.gone_clear⟩
    by_cases ho : o = src
    · obtain ⟨e, he, rfl⟩ := List.mem_map.1 hf
      exact ho ▸ none e he
    · exact h.waiting o w (fun hd => (sub o hd).elim ho free) f hf

/-- A listing attempt touches no other slot that is not LISTED. -/
theorem Agrees.slot_attempt (h : Agrees gone due s) {o : Source} (ne : o ≠ src) (unlisted : ∀ sev, ¬Listed (s.slot o) sev) :
    (s.attempt src).slot o = s.slot o := by
  refine attempt_cases (motive := fun t => t.slot o = s.slot o) s src (fun _ => rfl) (fun r e _ _ _ _ => ?_)
    (fun r _ _ _ => slot_createEntry_ne ne) (fun r v _ _ _ found => ?_) (fun r _ _ _ _ => ?_)
  · rw [slot_createEntry_ne ne, slot_dropEntry]
  · rw [slot_createEntry_ne ne, slot_displace]
    split
    next both =>
      obtain ⟨live, rfl⟩ := both
      rcases h.live (face v) (List.mem_map_of_mem (mem_of_findVictim found).1) live with g | l
      · have clear := not_isRaised_iff.1 (h.gone_clear _ g)
        cases x : s.slot v.source with
        | raised r => exact absurd x (clear r)
        | clear => rfl
        | qualifying => rfl
      · exact absurd l (unlisted _)
    next => rfl
  · rw [slot_markOverflow, slot_setListing, if_neg ne]

end Sys2Proof.Machine.Agreement
end

section
/-! PROOFS. Raising, ending, escalation, removal and the quiet flag keep the agreement of roster and slots. -/

namespace Sys2Proof.Machine.Agreement

open Sys2Proof Sys2Proof.Machine Sys2Proof.Machine.Laws Sys2Proof.Machine.SlotGrades Sys2Proof.Machine.RosterLists
open Sys2Proof.Machine.RosterSoundness

variable {gone : Source → Prop} {due due' : List Source} {s t : State} {src o : Source} {sev : Severity} {e : Entry}
  {r : Raised}

/-! ## Waiting conditions -/

theorem mem_seatKinds (k : SeatKind) : k ∈ seatKinds := by cases k <;> decide

theorem mem_waitingList {c : Source × Raised} :
    c ∈ s.waitingList ↔ s.slot c.1 = .raised c.2 ∧ c.2.listing = .waiting := by
  unfold State.waitingList
  rw [List.mem_filterMap]
  constructor
  · rintro ⟨src, -, h⟩
    split at h
    next r hr =>
      split at h
      next w => cases h; exact ⟨hr, w⟩
      next => cases h
    next => cases h
  · rintro ⟨hr, w⟩
    refine ⟨c.1, ?_, ?_⟩
    · rw [List.mem_append]
      cases hc : c.1 with
      | seat i k =>
        exact .inl (List.mem_flatMap.2 ⟨i, List.mem_finRange i, List.mem_map_of_mem (mem_seatKinds k)⟩)
      | link l => exact .inr (List.mem_map_of_mem (List.mem_finRange l))
    · rw [hr]
      exact if_pos w

theorem mem_of_firstWaiting {c : Source × Raised} (h : s.firstWaiting = some c) : c ∈ s.waitingList :=
  Choices.mem_of_best (Choices.firstWaiting_eq s ▸ h)

theorem waiting_of_firstWaiting {c : Source × Raised} (h : s.firstWaiting = some c) : Waiting (s.slot c.1) :=
  ⟨c.2, mem_waitingList.1 (mem_of_firstWaiting h)⟩

/-- The two outcomes of a re-listing (R119). -/
theorem relist_cases {motive : State → Prop} (s : State) (none : s.firstWaiting = none → motive s)
    (some : ∀ c, s.firstWaiting = some c → motive (s.attempt c.1)) : motive s.relist := by
  unfold State.relist
  split
  next src r h => exact some (src, r) h
  next h => exact none h

theorem Agrees.relist (h : Agrees gone due s) : Agrees gone due s.relist :=
  relist_cases s (fun _ => h) fun _ found => h.attempt (waiting_of_firstWaiting found) fun _ hd => .inr hd

/-- The removal test takes the entry out, or leaves the state as it is. -/
theorem removalTest_cases {motive : State → Prop} (s : State) (src : Source) (stays : motive s)
    (leaves : ∀ e ∈ s.alerts.roster, e.source = src → e.isEnded = true → e.severity = .notice ∨ s.fullyAcked e = true →
      motive (s.dropEntry src).relist) : motive (s.removalTest src) := by
  unfold State.removalTest
  split
  next e found =>
    obtain ⟨he, same⟩ := mem_of_find_source found
    split
    next both =>
      obtain ⟨ended, acked⟩ := Bool.and_eq_true_iff.1 both
      exact leaves e he same ended ((Bool.or_eq_true_iff.1 acked).imp of_decide_eq_true id)
    next => exact stays
  next => exact stays

theorem Agrees.removalTest (h : Agrees gone due s) (src : Source) : Agrees gone due (s.removalTest src) := by
  refine removalTest_cases s src h fun e he same ended _ => ?_
  refine (h.dropEntry fun sev l => ?_).relist
  have live : (face e).ended = false := h.not_ended l (List.mem_map_of_mem he) same
  rw [show (face e).ended = true from ended] at live
  cases live

theorem Agrees.foldl {α : Type} {f : State → α → State} (hf : ∀ s x, Agrees gone due s → Agrees gone due (f s x)) (xs : List α)
    (h : Agrees gone due s) : Agrees gone due (xs.foldl f s) := by
  induction xs generalizing s with
  | nil => exact h
  | cons x xs ih => exact ih (hf s x h)

/-! ## Rewritten entries -/

theorem map_face_of {f : Entry → Entry} (hf : ∀ e, face (f e) = face e) (es : List Entry) :
    (es.map f).map face = es.map face := by
  rw [List.map_map, show face ∘ f = face from funext hf]

theorem Agrees.map (h : Agrees gone due s) {f : Entry → Entry} (hf : ∀ e, face (f e) = face e) :
    Agrees gone due (s.setRoster (s.alerts.roster.map f)) :=
  h.of_faces (map_face_of hf _) (slot_setRoster _ _)

theorem Agrees.mapLive (h : Agrees gone due s) (src : Source) {f : Entry → Entry} (hf : ∀ e, face (f e) = face e) :
    Agrees gone due (s.mapLive src f) := by
  refine h.map fun e => ?_
  split
  · exact hf e
  · rfl

/-! ## Raising, ending, escalation -/

/-- A condition that is not RAISED takes another value that is not LISTED. -/
theorem Agrees.setSlot (h : Agrees gone due s) {x : Slot} (before : ∀ sev, ¬Listed (s.slot src) sev)
    (after : ∀ sev, ¬Listed x sev) (clear : gone src → x.isRaised = false) (waits : Waiting x → src ∈ due')
    (sub : ∀ o ∈ due, o = src ∨ o ∈ due') : Agrees gone due' (s.setSlot src x) := by
  have now : (s.setSlot src x).slot src = x := by rw [slot_setSlot, if_pos rfl]
  unfold Agrees
  rw [faces_setSlot]
  exact Agree.setSlot h (fun o ne => by rw [slot_setSlot, if_neg ne]) before (fun sev => by rw [now]; exact after sev)
    (fun g => by rw [now]; exact clear g) (fun w => waits (now ▸ w)) sub

/-- A slot that is not RAISED takes another value that is not RAISED. -/
theorem entriesMatch_setSlot (h : EntriesMatch s) {x : Slot} (idle : (s.slot src).isRaised = false)
    (hx : x.isRaised = false) : EntriesMatch (s.setSlot src x) :=
  entriesMatch_iff.2 ((entriesMatch_iff.1 h).setSlot (fun _ => not_listed_of_not_raised idle)
    (fun _ => not_listed_of_not_raised hx) (fun _ => hx) (fun w => absurd w.raised (by rw [hx]; decide)) (fun _ hd => .inr hd))

theorem entriesMatch_raise (h : EntriesMatch s) (idle : (s.slot src).isRaised = false) (sev : Severity) (d : FixedDetail) :
    EntriesMatch (s.raise src sev d) := by
  have agrees := entriesMatch_iff.1 h
  have before : ∀ sev, ¬Listed (s.slot src) sev := fun _ => not_listed_of_not_raised idle
  refine entriesMatch_iff.2 ?_
  unfold State.raise
  split
  · refine agrees.setSlot before (fun _ => ?_) False.elim ?_ fun _ hd => .inr hd
    · rintro ⟨r, hr, listed, -⟩
      cases hr
      cases listed
    · rintro ⟨r, hr, waiting⟩
      cases hr
      cases waiting
  · have due : Agrees nowhere [src] (s.setSlot src (.raised ⟨sev, .waiting, s.clock, d⟩)) := by
      refine agrees.setSlot before (fun _ => ?_) False.elim (fun _ => List.mem_singleton_self _) fun _ hd => .inr ?_
      · rintro ⟨r, hr, listed, -⟩
        cases hr
        cases listed
      · cases hd
    refine due.attempt ⟨_, by rw [slot_setSlot, if_pos rfl], rfl⟩ fun o ho => .inl (List.mem_singleton.1 ho)

theorem faces_end (s : State) (src : Source) (clock : Stamp) :
    (s.mapLive src fun e => { e with phase := .ended clock }).alerts.roster.map face =
      (s.alerts.roster.map face).map (Face.endIf src) := by
  unfold State.mapLive
  rw [show ∀ es, (s.setRoster es).alerts.roster = es from fun _ => rfl, List.map_map, List.map_map]
  refine List.map_congr_left fun e _ => ?_
  show face (if e.source = src ∧ e.phase = .live then _ else e) = (face e).endIf src
  unfold Face.endIf
  by_cases same : e.source = src
  · rw [if_pos (show (face e).source = src from same)]
    cases hp : e.phase with
    | live => rw [if_pos ⟨same, rfl⟩]; rfl
    | ended x =>
      rw [if_neg fun both => nomatch both.2]
      have ended : e.isEnded = true := by unfold Entry.isEnded; rw [hp]
      unfold face
      rw [ended]
  · rw [if_neg fun both => same both.1, if_neg (show ¬(face e).source = src from same)]

theorem entriesMatch_endCondition (h : EntriesMatch s) (src : Source) : EntriesMatch (s.endCondition src) := by
  have agrees := entriesMatch_iff.1 h
  unfold State.endCondition
  split
  next r raised =>
    dsimp only
    have clear {r' : Raised} (hl : r'.listing ≠ .listed) (hr : s.slot src = .raised r') :
        EntriesMatch (s.setSlot src .clear) := by
      refine entriesMatch_iff.2 (agrees.setSlot (fun sev => ?_) (fun _ => not_listed_of_not_raised rfl) (fun _ => rfl)
        (fun w => absurd w.raised (by decide)) fun _ hd => .inr hd)
      rintro ⟨r, hr', listed, -⟩
      cases hr.symm.trans hr'
      exact hl listed
    split
    next listed =>
      refine entriesMatch_iff.2 (Agrees.removalTest ?_ src)
      unfold Agrees
      rw [faces_end, faces_setSlot]
      refine Agree.ended agrees (fun o ne => ?_) ?_
      · rw [slot_mapLive, slot_setSlot, if_neg ne]
      · rw [slot_mapLive, slot_setSlot, if_pos rfl]
        rfl
    next waiting => exact clear (by rw [waiting]; decide) raised
    next quieted => exact clear (by rw [quieted]; decide) raised
  next => exact h

theorem find_source_isSome {es : List Entry} (h : ∃ e ∈ es, e.source = src) :
    ∃ e, es.find? (fun e => e.source == src) = some e := by
  obtain ⟨e, he, same⟩ := h
  cases found : es.find? fun e => e.source == src with
  | some e => exact ⟨e, rfl⟩
  | none => exact absurd (beq_iff_eq.2 same) (List.find?_eq_none.1 found e he)

theorem slot_escalated (s : State) (src : Source) (sev : Severity) (e : Entry) (o : Source) :
    (escalated s src sev e).slot o = s.slot o :=
  (alerts_slot_roster s.alerts.beforeRank _ s.alerts.beforeRank.nextTag _ o).trans (beforeRank_slots _ _)

theorem faces_escalated (s : State) (src : Source) (sev : Severity) (e : Entry) :
    ((escalated s src sev e).roster.map face).Perm
      (⟨e.source, sev, e.isEnded⟩ :: (s.alerts.roster.map face).filter fun f => f.source != src) := by
  rw [← map_beforeRank face (fun _ _ => rfl) s.alerts, List.filter_map]
  exact (perm_insertEntry _ _).map face

/-- The entry of a LISTED condition escalates with it. -/
theorem entriesMatch_escalateEntry (h : EntriesMatch s) (raised : s.slot src = .raised r) (listed : r.listing = .listed)
    (sev : Severity) : EntriesMatch ((s.setSlot src (.raised { r with severity := sev })).escalateEntry src sev) := by
  have agrees := entriesMatch_iff.1 h
  have l : Listed (s.slot src) r.severity := ⟨r, raised, listed, rfl⟩
  have same : (s.setSlot src (.raised { r with severity := sev })).alerts.beforeRank.roster.map face =
      s.alerts.roster.map face := (map_beforeRank face (fun _ _ => rfl) _).trans (faces_setSlot _ _ _)
  obtain ⟨f, hf, at_f, -⟩ := agrees.listed src r.severity l
  rw [← same] at hf
  obtain ⟨e0, he0, rfl⟩ := List.mem_map.1 hf
  obtain ⟨e, found⟩ := find_source_isSome ⟨e0, he0, at_f⟩
  obtain ⟨he, at_src⟩ := mem_of_find_source found
  have live : e.isEnded = false := agrees.not_ended l (same ▸ List.mem_map_of_mem he) at_src
  rw [escalateEntry_of_some found]
  refine entriesMatch_iff.2 ((Agree.create (src := src) (sev := sev) (due' := [])
    (Agree.drop (src := src) (slot' := fun o => if o = src then .clear else s.slot o) agrees (fun o ne => if_neg ne)
      (fun _ => ?_) False.elim) (fun o ne => ?_) (fun g hg => ?_) id ?_ fun _ hd => .inr hd).perm ?_)
  · exact not_listed_of_not_raised (by rw [if_pos rfl]; rfl)
  · rw [slot_attend, if_neg ne]
    exact (slot_escalated _ _ _ _ _).trans (by rw [slot_setSlot, if_neg ne])
  · exact bne_iff_ne.1 (List.mem_filter.1 hg).2
  · rw [slot_attend]
    exact ⟨{ r with severity := sev }, (slot_escalated _ _ _ _ _).trans (by rw [slot_setSlot, if_pos rfl]), listed, rfl⟩
  · have faces := faces_escalated (s.setSlot src (.raised { r with severity := sev })) src sev e
    rw [faces_setSlot, at_src, live] at faces
    exact faces.symm

theorem entriesMatch_escalate (h : EntriesMatch s) (src : Source) (sev : Severity) : EntriesMatch (s.escalate src sev) := by
  have agrees := entriesMatch_iff.1 h
  unfold State.escalate
  split
  next r raised =>
    dsimp only
    have stays {r' : Raised} (hr : s.slot src = .raised r') (hl : r'.listing ≠ .listed) (sev : Severity) :
        ¬Listed (s.slot src) sev := by
      rintro ⟨r, hr', listed, -⟩
      cases hr.symm.trans hr'
      exact hl listed
    have after {r' : Raised} (hl : r'.listing ≠ .listed) (sev' : Severity) :
        ¬Listed (Slot.raised { r' with severity := sev }) sev' := by
      rintro ⟨_, hr', listed, -⟩
      cases hr'
      exact hl listed
    split
    next listed =>
      exact entriesMatch_escalateEntry h raised listed sev
    next waiting =>
      have hl : r.listing ≠ .listed := by rw [waiting]; decide
      have due : Agrees nowhere [src] (s.setSlot src (.raised { r with severity := sev })) :=
        agrees.setSlot (stays raised hl) (after hl) False.elim (fun _ => List.mem_singleton_self _) fun _ hd => nomatch hd
      exact entriesMatch_iff.2 (due.attempt
        ⟨{ r with severity := sev }, by rw [slot_setSlot, if_pos rfl], waiting⟩
        fun o ho => .inl (List.mem_singleton.1 ho))
    next quieted =>
      have hl : r.listing ≠ .listed := by rw [quieted]; decide
      refine entriesMatch_iff.2 (agrees.setSlot (stays raised hl) (after hl) False.elim ?_ fun _ hd => .inr hd)
      rintro ⟨_, hr, waiting⟩
      cases hr
      rw [show _ = Listing.quieted from quieted] at waiting
      cases waiting
  next => exact h

/-! ## The quiet flag -/

theorem mapRaised_eq_raised {x : Slot} {f : Raised → Raised} :
    x.mapRaised f = .raised r ↔ ∃ r0, x = .raised r0 ∧ f r0 = r := by
  cases x <;> simp [Slot.mapRaised]

/-- Conditions of the seat that change between WAITING and QUIETED are LISTED or not as before. -/
theorem listed_relabel_iff (i : SeatId) {old new : Listing} (ho : old ≠ .listed) (hn : new ≠ .listed) :
    Listed ((s.relabel i old new).slot o) sev ↔ Listed (s.slot o) sev := by
  rw [slot_relabel]
  split
  next =>
    constructor
    · rintro ⟨r, hr, listed, severe⟩
      obtain ⟨r0, hr0, rfl⟩ := mapRaised_eq_raised.1 hr
      split at listed
      next => exact absurd listed hn
      next other => rw [if_neg other] at severe; exact ⟨r0, hr0, listed, severe⟩
    · rintro ⟨r, hr, listed, severe⟩
      refine ⟨r, mapRaised_eq_raised.2 ⟨r, hr, if_neg ?_⟩, listed, severe⟩
      rw [listed]
      exact ho.symm
  next => rfl

/-- What is WAITING once one listing of the seat's conditions has become another. -/
theorem waiting_relabel {i : SeatId} {old new : Listing} (w : Waiting ((s.relabel i old new).slot o)) :
    Waiting (s.slot o) ∨ (new = .waiting ∧ o.seat? = some i ∧ ∃ r, s.slot o = .raised r ∧ r.listing = old) := by
  obtain ⟨r, hr, waiting⟩ := w
  rw [slot_relabel] at hr
  split at hr
  next origin =>
    obtain ⟨r0, hr0, rfl⟩ := mapRaised_eq_raised.1 hr
    split at waiting
    next was => exact .inr ⟨waiting, origin, r0, hr0, was⟩
    next => exact .inl ⟨r0, hr0, waiting⟩
  next => exact .inl ⟨r, hr, waiting⟩

theorem Agrees.relabel (h : Agrees nowhere [] s) (i : SeatId) {old new : Listing} (ho : old ≠ .listed) (hn : new ≠ .listed)
    (attempts : ∀ o r, new = .waiting → o.seat? = some i → s.slot o = .raised r → r.listing = old → o ∈ due) :
    Agrees nowhere due (s.relabel i old new) where
  nodup := h.nodup
  live f hf hl := .inr ((listed_relabel_iff i ho hn).2 ((h.live f hf hl).resolve_left id))
  listed o sev l := h.listed o sev ((listed_relabel_iff i ho hn).1 l)
  waiting o w free f hf := by
    rcases waiting_relabel w with w | ⟨hw, origin, r, hr, was⟩
    · exact h.waiting o w List.not_mem_nil f hf
    · exact absurd (attempts o r hw origin hr was) free
  gone_clear _ := False.elim

theorem entriesMatch_setQuiet (h : EntriesMatch s) (i : SeatId) : EntriesMatch (s.setQuiet i) :=
  entriesMatch_iff.2 (Agrees.relabel (s := s.modSeat i fun q => { q with quiet := true })
    ((entriesMatch_iff.1 h).of_alerts rfl) i (by decide) (by decide) fun _ _ hw => nomatch hw)

/-! ### The order of the attempts of UNQUIET -/

theorem perm_insertByOrder (clock : Stamp) (c : Source × Raised) (cs : List (Source × Raised)) :
    (insertByOrder clock c cs).Perm (c :: cs) := by
  induction cs with
  | nil => exact .refl _
  | cons x xs ih =>
    unfold insertByOrder
    split
    · exact .refl _
    · exact (ih.cons x).trans (.swap c x xs)

theorem perm_foldl_insertByOrder (clock : Stamp) (cs acc : List (Source × Raised)) :
    (cs.foldl (fun acc c => insertByOrder clock c acc) acc).Perm (cs ++ acc) := by
  induction cs generalizing acc with
  | nil => exact .refl _
  | cons c cs ih => exact ((ih _).trans ((perm_insertByOrder clock c acc).append_left cs)).trans List.perm_middle

/-- The QUIETED conditions of a seat, in kind order. -/
def quietedByKind (s : State) (i : SeatId) : List (Source × Raised) :=
  seatKinds.filterMap fun k =>
    match s.slot (.seat i k) with
    | .raised r => if r.listing = .quieted then some (Source.seat i k, r) else none
    | _ => none

theorem perm_quietedList (s : State) (i : SeatId) : (s.quietedList i).Perm (quietedByKind s i) := by
  have perm := perm_foldl_insertByOrder s.clock (quietedByKind s i) []
  rw [List.append_nil] at perm
  exact perm

theorem quietedByKind_step (s : State) (i : SeatId) (k : SeatKind) (c : Source × Raised) :
    (match s.slot (.seat i k) with
      | .raised r => if r.listing = .quieted then some (Source.seat i k, r) else none
      | _ => none) = some c ↔ c.1 = .seat i k ∧ s.slot (.seat i k) = .raised c.2 ∧ c.2.listing = .quieted := by
  obtain ⟨src, r⟩ := c
  cases h : s.slot (.seat i k) with
  | clear => simp
  | qualifying => simp
  | raised r0 =>
    simp only [Option.ite_none_right_eq_some, Option.some.injEq, Prod.mk.injEq, Slot.raised.injEq]
    constructor
    · rintro ⟨hq, rfl, rfl⟩; exact ⟨rfl, rfl, hq⟩
    · rintro ⟨rfl, rfl, hq⟩; exact ⟨hq, rfl, rfl⟩

theorem mem_quietedList {i : SeatId} {c : Source × Raised} :
    c ∈ s.quietedList i ↔ c.1.seat? = some i ∧ s.slot c.1 = .raised c.2 ∧ c.2.listing = .quieted := by
  rw [(perm_quietedList s i).mem_iff, quietedByKind, List.mem_filterMap]
  constructor
  · rintro ⟨k, -, h⟩
    obtain ⟨hc, hr, hq⟩ := (quietedByKind_step s i k c).1 h
    rw [hc]
    exact ⟨rfl, hr, hq⟩
  · rintro ⟨origin, hr, hq⟩
    cases hc : c.1 with
    | link l => rw [hc] at origin; cases origin
    | seat j k =>
      rw [hc] at origin hr
      cases origin
      exact ⟨k, mem_seatKinds k, (quietedByKind_step s i k c).2 ⟨hc, hr, hq⟩⟩

theorem nodup_quietedList (s : State) (i : SeatId) : ((s.quietedList i).map (·.1)).Nodup := by
  rw [((perm_quietedList s i).map _).nodup_iff]
  have kinds : seatKinds.Nodup := by decide
  refine List.pairwise_map.2 (List.Pairwise.filterMap _ (fun k k' ne c hc c' hc' => ?_) kinds)
  rw [((quietedByKind_step s i k c).1 hc).1, ((quietedByKind_step s i k' c').1 hc').1]
  intro same
  cases same
  exact ne rfl

/-- The attempts of a list of WAITING conditions, one after the other. -/
theorem Agrees.attempts {cs : List (Source × Raised)} (nodup : (cs.map (·.1)).Nodup) (waits : ∀ c ∈ cs, Waiting (s.slot c.1))
    (h : Agrees nowhere (cs.map (·.1)) s) : Agrees nowhere [] (cs.foldl (fun t c => t.attempt c.1) s) := by
  induction cs generalizing s with
  | nil => exact h
  | cons c cs ih =>
    rw [List.map_cons, List.nodup_cons] at nodup
    obtain ⟨fresh, nodup⟩ := nodup
    refine ih nodup (fun d hd => ?_) (h.attempt (waits c List.mem_cons_self) fun o ho => List.mem_cons.1 ho)
    have ne : d.1 ≠ c.1 := fun same => fresh (same ▸ List.mem_map_of_mem hd)
    have w := waits d (List.mem_cons_of_mem _ hd)
    rw [h.slot_attempt ne fun sev l => l.not_waiting w]
    exact w

theorem entriesMatch_clearQuiet (h : EntriesMatch s) (i : SeatId) : EntriesMatch (s.clearQuiet i) := by
  unfold State.clearQuiet
  split
  next =>
    refine entriesMatch_iff.2 (Agrees.attempts (nodup_quietedList s i) (fun c hc => ?_)
      (Agrees.relabel (s := s.modSeat i fun q => { q with quiet := false }) ((entriesMatch_iff.1 h).of_alerts rfl) i
        (by decide) (by decide) fun o r _ origin hr hq => ?_))
    · obtain ⟨origin, hr, hq⟩ := mem_quietedList.1 hc
      refine ⟨{ c.2 with listing := .waiting }, ?_, rfl⟩
      have same : (s.modSeat i fun q => { q with quiet := false }).slot c.1 = .raised c.2 := hr
      rw [slot_relabel, if_pos origin, same]
      exact congrArg Slot.raised (if_pos hq)
    · exact List.mem_map.2 ⟨(o, r), mem_quietedList.2 ⟨origin, hr, hq⟩, rfl⟩
  next => exact h

/-! ## UNBIND -/

/-- The conditions of the seat. -/
def ofSeat (i : SeatId) : Source → Prop := fun src => src.seat? = some i

/-- A listing attempt lists at most the condition that makes it. -/
theorem source_of_mem_createEntry (h : e ∈ (s.createEntry src r).alerts.roster) :
    e.source = src ∨ ∃ x ∈ s.alerts.roster, x.source = e.source := by
  have hf := (faces_createEntry s src r).mem_iff.1 (List.mem_map_of_mem h)
  rcases List.mem_cons.1 hf with same | hx
  · exact .inl (congrArg Face.source same)
  · obtain ⟨x, hx, same⟩ := List.mem_map.1 hx
    exact .inr ⟨x, hx, congrArg Face.source same⟩

theorem source_of_mem_attempt (h : e ∈ (s.attempt src).alerts.roster) :
    (e.source = src ∧ (s.slot src).isRaised = true) ∨ ∃ x ∈ s.alerts.roster, x.source = e.source := by
  revert h
  refine attempt_cases (motive := fun t => e ∈ t.alerts.roster → _) s src (fun _ h => .inr ⟨e, h, rfl⟩)
    (fun r _ hr _ _ _ h => ?_) (fun r hr _ _ h => ?_) (fun r v hr _ _ _ h => ?_) (fun r _ _ _ _ h => ?_)
  · refine (source_of_mem_createEntry h).imp (fun same => ⟨same, by rw [hr]; rfl⟩) ?_
    exact fun ⟨x, hx, same⟩ => ⟨x, (List.mem_filter.1 hx).1, same⟩
  · exact (source_of_mem_createEntry h).imp (fun same => ⟨same, by rw [hr]; rfl⟩) id
  · refine (source_of_mem_createEntry h).imp (fun same => ⟨same, by rw [hr]; rfl⟩) ?_
    rw [(displace_tables s v).1]
    exact fun ⟨x, hx, same⟩ => ⟨x, (List.mem_filter.1 hx).1, same⟩
  · refine .inr ⟨e, ?_, rfl⟩
    rw [show ((s.setListing src .waiting).markOverflow src r.severity).alerts.roster = s.alerts.roster from
      setSlot_roster _ _ _] at h
    exact h

theorem source_of_mem_relist (h : e ∈ s.relist.alerts.roster) :
    (s.slot e.source).isRaised = true ∨ ∃ x ∈ s.alerts.roster, x.source = e.source := by
  revert h
  refine relist_cases (motive := fun t => e ∈ t.alerts.roster → _) s (fun _ h => .inr ⟨e, h, rfl⟩) fun c _ h => ?_
  exact (source_of_mem_attempt h).imp (fun ⟨same, raised⟩ => same ▸ raised) id

/-- The removals of a list of conditions that are not RAISED leave no entry of them. -/
theorem none_of_removals {i : SeatId} (srcs : List Source) (clear : ∀ o, ofSeat i o → (s.slot o).isRaised = false)
    (here : ∀ e ∈ s.alerts.roster, ofSeat i e.source → e.source ∈ srcs) :
    ∀ e ∈ (srcs.foldl (fun t src => (t.dropEntry src).relist) s).alerts.roster, ¬ofSeat i e.source := by
  induction srcs generalizing s with
  | nil => exact fun e he hi => nomatch here e he hi
  | cons src srcs ih =>
    have keeps : KeepsGrades s (s.dropEntry src).relist := (keepsGrades_dropEntry _).trans keepsGrades_relist
    refine ih (fun o ho => (isRaised_of_grade (keeps o)).trans (clear o ho)) fun e he hi => ?_
    rcases source_of_mem_relist he with raised | ⟨x, hx, same⟩
    · rw [slot_dropEntry, clear _ hi] at raised
      cases raised
    · obtain ⟨hx, ne⟩ := List.mem_filter.1 hx
      rw [same] at ne
      exact (List.mem_cons.1 (same ▸ here x hx (same.symm ▸ hi))).resolve_left (bne_iff_ne.1 ne)

/-- With its conditions CLEAR, a seat whose entries are removed has none left (R6, R120). -/
theorem removeSeatEntries_none {i : SeatId} (clear : ∀ o, ofSeat i o → (s.slot o).isRaised = false) :
    ∀ e ∈ (s.removeSeatEntries i).alerts.roster, ¬ofSeat i e.source := by
  refine none_of_removals _ clear fun e he hi => ?_
  exact List.mem_map.2 ⟨e, List.mem_filter.2 ⟨he, beq_iff_eq.2 hi⟩, rfl⟩

/-- The seat's nine slots become CLEAR (R6). -/
def clearSeatSlots (s : State) (i : SeatId) : State :=
  { s with alerts := { s.alerts with seatSlots := s.alerts.seatSlots.set i clearSlots } }

theorem slot_clearSeatSlots (s : State) (i : SeatId) (o : Source) :
    (clearSeatSlots s i).slot o = if o.seat? = some i then .clear else s.slot o := by
  cases o with
  | link l => rfl
  | seat j k =>
    rw [show (Source.seat j k).seat? = some j from rfl]
    by_cases same : j = i
    · subst same
      rw [if_pos rfl]
      simp only [clearSeatSlots, Alerts.slot, get_set_self, clearSlots]
      simp
    · rw [if_neg fun e => same (Option.some.inj e)]
      simp only [clearSeatSlots, Alerts.slot, get_set_ne _ same]

theorem entriesMatch_clearSeat (h : EntriesMatch s) (i : SeatId) :
    EntriesMatch ((clearSeatSlots s i).removeSeatEntries i) := by
  have agrees := entriesMatch_iff.1 h
  have slotOf : ∀ o, ¬ofSeat i o → (clearSeatSlots s i).slot o = s.slot o := fun o ho => by
    rw [slot_clearSeatSlots]; exact if_neg ho
  have cleared : ∀ o, ofSeat i o → (clearSeatSlots s i).slot o = .clear := fun o ho => by
    rw [slot_clearSeatSlots]; exact if_pos ho
  have apart : ∀ o, ((clearSeatSlots s i).slot o).isRaised = true → ¬ofSeat i o := fun o raised ho => by
    rw [cleared o ho] at raised
    cases raised
  have start : Agrees (ofSeat i) [] (clearSeatSlots s i) := by
    refine ⟨agrees.nodup, fun f hf hl => ?_, fun o sev l => ?_, fun o w => ?_, fun o ho => by rw [cleared o ho]; rfl⟩
    · by_cases hi : ofSeat i f.source
      · exact .inl hi
      · rw [slotOf _ hi]
        exact .inr ((agrees.live f hf hl).resolve_left id)
    · exact agrees.listed o sev (slotOf o (apart o l.raised) ▸ l)
    · exact agrees.waiting o (slotOf o (apart o w.raised) ▸ w)
  have clear : ∀ o, ofSeat i o → ((clearSeatSlots s i).slot o).isRaised = false := fun o ho => by rw [cleared o ho]; rfl
  have none := removeSeatEntries_none clear
  have finish : ∀ srcs : List Source, ∀ t, (∀ src ∈ srcs, ofSeat i src) → Agrees (ofSeat i) [] t →
      Agrees (ofSeat i) [] (srcs.foldl (fun t src => (t.dropEntry src).relist) t) := by
    intro srcs
    induction srcs with
    | nil => exact fun _ _ h => h
    | cons src srcs ih =>
      intro t all ht
      have hsrc := all src List.mem_cons_self
      exact ih _ (fun x hx => all x (List.mem_cons_of_mem _ hx))
        (ht.dropEntry fun _ => not_listed_of_not_raised (ht.gone_clear _ hsrc)).relist
  have done : Agrees (ofSeat i) [] ((clearSeatSlots s i).removeSeatEntries i) := by
    refine finish _ _ (fun src hsrc => ?_) start
    obtain ⟨e, he, rfl⟩ := List.mem_map.1 hsrc
    exact beq_iff_eq.1 (List.mem_filter.1 he).2
  refine entriesMatch_iff.2 ⟨done.nodup, fun f hf hl => ?_, done.listed, done.waiting, fun _ => False.elim⟩
  obtain ⟨e, he, rfl⟩ := List.mem_map.1 hf
  exact .inr ((done.live _ hf hl).resolve_left (none e he))

end Sys2Proof.Machine.Agreement
end

section
/-! PROOFS. The Downlink Queue (chapter 8) under its single operations: its capacity, its first entry, and how many entries
of a port or of a seat it holds. -/

namespace Sys2Proof.Machine.QueueOps

open Sys2Proof Sys2Proof.Machine Sys2Proof.Machine.Laws

variable {s t : State} {i j : SeatId} {p : PortId} {skip : Option SeatId} {q : List QEntry} {x : QEntry}

/-! ## Entries -/

theorem isQueuedOf_iff : x.isQueuedOf i = true ↔ x = .sync i .queued := by
  unfold QEntry.isQueuedOf
  split
  next j =>
    rw [beq_iff_eq, QEntry.sync.injEq]
    exact ⟨fun h => ⟨h, rfl⟩, fun h => h.1⟩
  next other => exact ⟨nofun, fun h => absurd h (other i)⟩

theorem inFlightOf?_eq_some {f : InFlight} : x.inFlightOf? i = some f ↔ x = .sync i (.inFlight f) := by
  unfold QEntry.inFlightOf?
  split
  next j g =>
    by_cases same : j = i
    · simp [same]
    · simp [same]
  next other => exact ⟨nofun, fun h => absurd h (other i f)⟩

theorem isInFlightOf_iff : x.isInFlightOf i = true ↔ ∃ f, x = .sync i (.inFlight f) := by
  unfold QEntry.isInFlightOf
  rw [Option.isSome_iff_exists]
  exact exists_congr fun _ => inFlightOf?_eq_some

theorem isMarkerOf_iff : x.isMarkerOf p = true ↔ ∃ n, x = .marker p n := by
  unfold QEntry.isMarkerOf
  split
  next q n =>
    rw [beq_iff_eq]
    exact ⟨fun h => ⟨n, by rw [h]⟩, fun ⟨m, h⟩ => (QEntry.marker.inj h).1⟩
  next other => exact ⟨nofun, fun ⟨n, h⟩ => absurd h (other p n)⟩

theorem hasQueued_iff (s : State) (i : SeatId) : s.hasQueued i = true ↔ QEntry.sync i .queued ∈ s.queue := by
  unfold State.hasQueued
  rw [List.any_eq_true]
  exact ⟨fun ⟨x, hx, same⟩ => isQueuedOf_iff.1 same ▸ hx, fun h => ⟨_, h, isQueuedOf_iff.2 rfl⟩⟩

theorem hasQueued_eq_false (s : State) (i : SeatId) : s.hasQueued i = false ↔ QEntry.sync i .queued ∉ s.queue := by
  rw [← hasQueued_iff, Bool.not_eq_true]

theorem inFlight_eq_none (s : State) (i : SeatId) : s.inFlight i = none ↔ ∀ f, QEntry.sync i (.inFlight f) ∉ s.queue := by
  unfold State.inFlight
  rw [List.findSome?_eq_none_iff]
  constructor
  · intro h f hf
    have := h _ hf
    rw [inFlightOf?_eq_some.2 rfl] at this
    cases this
  · intro h x hx
    cases hg : x.inFlightOf? i with
    | none => rfl
    | some f => exact absurd (inFlightOf?_eq_some.1 hg ▸ hx) (h f)

/-- The first IN_FLIGHT SYNC of the seat is the one found. -/
theorem inFlight_of_split {pre post : List QEntry} {f : InFlight} (h : s.queue = pre ++ .sync i (.inFlight f) :: post)
    (first : ∀ g, QEntry.sync i (.inFlight g) ∉ pre) : s.inFlight i = some f := by
  have none : pre.findSome? (·.inFlightOf? i) = none := by
    rw [List.findSome?_eq_none_iff]
    intro x hx
    cases hg : x.inFlightOf? i with
    | none => rfl
    | some g => exact absurd (inFlightOf?_eq_some.1 hg ▸ hx) (first g)
  unfold State.inFlight
  rw [h, List.findSome?_append, none]
  exact (List.findSome?_cons_of_isSome (by rw [inFlightOf?_eq_some.2 rfl]; rfl)).trans (inFlightOf?_eq_some.2 rfl)

/-! ## A SYNC request (R129) -/

/-- The four ways of a SYNC request. -/
theorem requestSync_cases {motive : State → Prop} (s : State) (i : SeatId)
    (inactive : s.seats[i].state ≠ .active → motive (s.modSync i fun y => { y with owed := true }))
    (queued : s.seats[i].state = .active → QEntry.sync i .queued ∈ s.queue →
      motive (s.modSync i fun y => { y with owed := false }))
    (full : s.seats[i].state = .active → QEntry.sync i .queued ∉ s.queue → 24 ≤ s.queue.length →
      motive (s.modSync i fun y => { y with owed := true }))
    (room : s.seats[i].state = .active → QEntry.sync i .queued ∉ s.queue → s.queue.length < 24 →
      motive (({ s with queue := s.queue ++ [QEntry.sync i .queued] }).modSync i fun y => { y with owed := false })) :
    motive (s.requestSync i) := by
  unfold State.requestSync
  split
  next h => exact inactive h
  next h =>
    rw [Decidable.not_not] at h
    split
    next held => exact queued h ((hasQueued_iff s i).1 held)
    next free =>
      have free := (hasQueued_eq_false s i).1 (Bool.not_eq_true _ ▸ free)
      split
      next much => exact full h free much
      next few => exact room h free (Nat.not_le.1 few)

/-- The queue after a SYNC request: as it was, or with the seat's QUEUED SYNC at the tail. -/
theorem requestSync_queue (s : State) (i : SeatId) : (s.requestSync i).queue = s.queue ∨
    (s.seats[i].state = .active ∧ QEntry.sync i .queued ∉ s.queue ∧ s.queue.length < 24 ∧
      (s.requestSync i).queue = s.queue ++ [QEntry.sync i .queued]) :=
  requestSync_cases (motive := fun t => t.queue = s.queue ∨ _ ∧ _ ∧ _ ∧ t.queue = _) s i (fun _ => .inl rfl)
    (fun _ _ => .inl rfl) (fun _ _ _ => .inl rfl) fun a f r => .inr ⟨a, f, r, rfl⟩

theorem requestSync_syncs (s : State) (i : SeatId) :
    (s.requestSync i).syncs = s.syncs.set i { s.syncs[i] with owed := (s.requestSync i).syncs[i].owed } := by
  refine requestSync_cases (motive := fun t => t.syncs = s.syncs.set i { s.syncs[i] with owed := t.syncs[i].owed }) s i
    (fun _ => ?_) (fun _ _ => ?_) (fun _ _ _ => ?_) (fun _ _ _ => ?_) <;>
  · rw [modSync_syncs, get_set_self]

/-- A request in one of its four ways is what `SyncRequested` says. -/
theorem syncRequested_requestSync (s : State) (i : SeatId) : SyncRequested i s (s.requestSync i) := by
  have own (u : State) (b : Bool) (h : u.syncs = s.syncs) :
      (u.modSync i fun y => { y with owed := b }).syncs[i].owed = b ∧
        (u.modSync i fun y => { y with owed := b }).syncs = s.syncs.set i { s.syncs[i] with
          owed := (u.modSync i fun y => { y with owed := b }).syncs[i].owed } := by
    rw [modSync_syncs, get_set_self, h]
    exact ⟨rfl, rfl⟩
  refine requestSync_cases (motive := SyncRequested i s) s i (fun h => ?_) (fun h hq => ?_) (fun h hq hl => ?_)
    (fun h hq hl => ?_)
  · obtain ⟨owed, rest⟩ := own s true rfl
    exact ⟨fun _ => ⟨rfl, owed⟩, fun a => absurd a h, fun a => absurd a h, fun a => absurd a h, rest⟩
  · obtain ⟨owed, rest⟩ := own s false rfl
    exact ⟨fun n => absurd h n, fun _ _ => ⟨rfl, owed⟩, fun _ n => absurd hq n, fun _ n => absurd hq n, rest⟩
  · obtain ⟨owed, rest⟩ := own s true rfl
    exact ⟨fun n => absurd h n, fun _ y => absurd y hq, fun _ _ _ => ⟨rfl, owed⟩,
      fun _ _ l => absurd hl (Nat.not_le.2 l), rest⟩
  · obtain ⟨owed, rest⟩ := own { s with queue := s.queue ++ [QEntry.sync i .queued] } false rfl
    exact ⟨fun n => absurd h n, fun _ y => absurd y hq, fun _ _ l => absurd l (Nat.not_le.2 hl),
      fun _ _ _ => ⟨rfl, owed⟩, rest⟩

/-! ## Entries leaving (R130, R139) -/

theorem owedSeat_iff (s : State) (skip : Option SeatId) (i : SeatId) : s.owedSeat skip i = true ↔
    s.seats[i].state = .active ∧ s.syncs[i].owed = true ∧ QEntry.sync i .queued ∉ s.queue ∧ skip ≠ some i := by
  unfold State.owedSeat
  rw [Bool.and_eq_true, Bool.and_eq_true, Bool.and_eq_true, beq_iff_eq, bne_iff_ne, Bool.not_eq_true', hasQueued_eq_false]
  exact ⟨fun ⟨⟨⟨a, b⟩, c⟩, d⟩ => ⟨a, b, c, d⟩, fun ⟨a, b, c, d⟩ => ⟨⟨⟨a, b⟩, c⟩, d⟩⟩

/-- The two outcomes of owed service (R130). -/
theorem serveOwed_cases {motive : State → Prop} (s : State) (skip : Option SeatId)
    (none : (∀ i, s.owedSeat skip i = false) → motive s)
    (some : ∀ i, s.owedSeat skip i = true → (∀ j, j < i → s.owedSeat skip j = false) → motive (s.requestSync i)) :
    motive (s.serveOwed skip) := by
  unfold State.serveOwed
  split
  next i found =>
    obtain ⟨ok, pre, post, split, before⟩ := List.find?_eq_some_iff_append.1 found
    refine some i ok fun j below => ?_
    have sorted : (pre ++ i :: post).Pairwise (· < ·) := split ▸ List.pairwise_lt_finRange 192
    have hj : j ∈ pre ++ i :: post := split ▸ List.mem_finRange j
    rcases List.mem_append.1 hj with hj | hj
    · simpa using before j hj
    · rw [List.pairwise_append] at sorted
      rcases List.mem_cons.1 hj with rfl | hj
      · exact absurd below (lt_irrefl _)
      · exact absurd ((List.pairwise_cons.1 sorted.2.1).1 j hj) (lt_asymm below)
  next found =>
    refine none fun i => ?_
    have := List.find?_eq_none.1 found i (List.mem_finRange i)
    simpa using this

/-- What owed service and the markers that complete keep, the steps of R130 keep. -/
theorem afterLeave_induction {P : State → Prop} (serve : ∀ s, P s → P (s.serveOwed skip))
    (complete : ∀ s p n rest, s.queue = .marker p n :: rest → P s → P ({ s with queue := rest }.completeMarker p n))
    (fuel : Nat) (h : P s) : P (State.afterLeave skip fuel s) := by
  induction fuel generalizing s with
  | zero => exact serve s h
  | succ fuel ih =>
    unfold State.afterLeave
    split
    next p n rest hq => exact serve _ (ih (complete s p n rest hq h))
    next => exact serve s h

theorem leave_induction {P : State → Prop} {f : QEntry → Bool} (serve : ∀ s, P s → P (s.serveOwed skip))
    (complete : ∀ s p n rest, s.queue = .marker p n :: rest → P s → P ({ s with queue := rest }.completeMarker p n))
    (start : P { s with queue := s.queue.eraseP f }) (stays : P s) : P (s.leave skip f) := by
  unfold State.leave
  split
  · exact afterLeave_induction serve complete _ start
  · exact stays

/-! ## A marker never stands first (R139) -/

/-- The entries do not begin with a marker. -/
def Headed (q : List QEntry) : Prop := ∀ p n rest, q ≠ QEntry.marker p n :: rest

theorem headed_nil : Headed [] := nofun

theorem headed_append_sync (h : Headed q) (i : SeatId) (st : SyncState) : Headed (q ++ [QEntry.sync i st]) := by
  cases q with
  | nil => exact nofun
  | cons x xs =>
    intro p n rest same
    exact h p n xs (by rw [(List.cons.inj same).1])

theorem headed_requestSync (h : Headed s.queue) (i : SeatId) : Headed (s.requestSync i).queue := by
  rcases requestSync_queue s i with same | ⟨-, -, -, joined⟩
  · rw [same]; exact h
  · rw [joined]; exact headed_append_sync h i _

theorem headed_serveOwed (h : Headed s.queue) (skip : Option SeatId) : Headed (s.serveOwed skip).queue :=
  serveOwed_cases (motive := fun t => Headed t.queue) s skip (fun _ => h) fun i _ _ => headed_requestSync h i

/-- As many steps as there are entries leave no marker first. -/
theorem headed_afterLeave (skip : Option SeatId) (fuel : Nat) (enough : s.queue.length ≤ fuel) :
    Headed (State.afterLeave skip fuel s).queue := by
  induction fuel generalizing s with
  | zero =>
    have empty : s.queue = [] := List.length_eq_zero_iff.1 (Nat.le_zero.1 enough)
    exact headed_serveOwed (empty ▸ headed_nil) skip
  | succ fuel ih =>
    unfold State.afterLeave
    split
    next p n rest hq =>
      rw [hq] at enough
      exact headed_serveOwed (ih (Nat.le_of_succ_le_succ enough)) skip
    next other => exact headed_serveOwed (fun p n rest same => other p n rest same) skip

theorem headed_leave (h : Headed s.queue) (skip : Option SeatId) (f : QEntry → Bool) : Headed (s.leave skip f).queue := by
  unfold State.leave
  split
  · exact headed_afterLeave skip _ le_rfl
  · exact h

/-! ## Replaced entries -/

theorem length_replaceFirst (f : QEntry → Bool) (e : QEntry) (q : List QEntry) :
    (replaceFirst f e q).length = q.length := by
  induction q with
  | nil => rfl
  | cons x xs ih =>
    unfold replaceFirst
    split
    · rfl
    · exact congrArg (· + 1) ih

theorem mem_replaceFirst {f : QEntry → Bool} {e : QEntry} (h : x ∈ replaceFirst f e q) : x ∈ q ∨ (x = e ∧ ∃ y ∈ q, f y = true) := by
  induction q with
  | nil => exact .inl h
  | cons y ys ih =>
    unfold replaceFirst at h
    split at h
    next hy =>
      rcases List.mem_cons.1 h with rfl | hx
      · exact .inr ⟨rfl, y, List.mem_cons_self, hy⟩
      · exact .inl (List.mem_cons_of_mem _ hx)
    next =>
      rcases List.mem_cons.1 h with rfl | hx
      · exact .inl List.mem_cons_self
      · refine (ih hx).imp (List.mem_cons_of_mem _) ?_
        exact fun ⟨same, z, hz, fz⟩ => ⟨same, z, List.mem_cons_of_mem _ hz, fz⟩

theorem replaceFirst_of_split {f : QEntry → Bool} {pre post : List QEntry} (e : QEntry) (before : ∀ y ∈ pre, f y = false)
    (here : f x = true) : replaceFirst f e (pre ++ x :: post) = pre ++ e :: post := by
  induction pre with
  | nil => exact if_pos here
  | cons y ys ih =>
    rw [List.cons_append, replaceFirst, if_neg (by rw [before y List.mem_cons_self]; decide),
      ih fun z hz => before z (List.mem_cons_of_mem _ hz), List.cons_append]

theorem headed_replaceFirst (h : Headed q) (f : QEntry → Bool) (i : SeatId) (st : SyncState) :
    Headed (replaceFirst f (.sync i st) q) := by
  cases q with
  | nil => exact nofun
  | cons x xs =>
    unfold replaceFirst
    split
    · exact nofun
    · intro p n rest same
      exact h p n xs (by rw [(List.cons.inj same).1])

/-- The count of a kind of entry as one of the queue is replaced. -/
theorem countP_replaceFirst_le (g f : QEntry → Bool) (e : QEntry) (q : List QEntry) :
    (replaceFirst f e q).countP g ≤ q.countP g + (if g e then 1 else 0) := by
  induction q with
  | nil => exact Nat.zero_le _
  | cons x xs ih =>
    unfold replaceFirst
    split
    · rw [List.countP_cons, List.countP_cons]
      omega
    · rw [List.countP_cons, List.countP_cons]
      omega

theorem countP_replaceFirst_of_same {g f : QEntry → Bool} {e : QEntry} (same : ∀ x, f x = true → g x = g e) (q : List QEntry) :
    (replaceFirst f e q).countP g = q.countP g := by
  induction q with
  | nil => rfl
  | cons x xs ih =>
    unfold replaceFirst
    split
    next hx => rw [List.countP_cons, List.countP_cons, same x hx]
    next => rw [List.countP_cons, List.countP_cons, ih]

/-! ## At most 24 entries (R128) -/

theorem length_requestSync_le (h : s.queue.length ≤ 24) (i : SeatId) : (s.requestSync i).queue.length ≤ 24 := by
  rcases requestSync_queue s i with same | ⟨-, -, room, joined⟩
  · rw [same]; exact h
  · rw [joined, List.length_append]; exact room

theorem length_serveOwed_le (h : s.queue.length ≤ 24) (skip : Option SeatId) : (s.serveOwed skip).queue.length ≤ 24 :=
  serveOwed_cases (motive := fun t => t.queue.length ≤ 24) s skip (fun _ => h) fun i _ _ => length_requestSync_le h i

theorem length_leave_le (h : s.queue.length ≤ 24) (skip : Option SeatId) (f : QEntry → Bool) :
    (s.leave skip f).queue.length ≤ 24 := by
  refine leave_induction (P := fun t => t.queue.length ≤ 24) (fun _ h => length_serveOwed_le h skip) ?_
    ((List.length_eraseP_le).trans h) h
  intro u p n rest hq hu
  rw [hq] at hu
  exact (Nat.le_succ _).trans hu

/-! ## Entries of a port and of a seat (R128) -/

theorem queueSound_iff_of {q q' : State} (hq : q'.queue = q.queue) (hs : ∀ i : SeatId, q'.seats[i].state = q.seats[i].state)
    (h : QueueSound q) : QueueSound q' := by
  obtain ⟨markers, syncs⟩ := h
  refine ⟨fun p => by rw [hq]; exact markers p, fun i => ?_⟩
  rw [hq, hs]
  exact syncs i

theorem countP_le_one_append {f : QEntry → Bool} (none : ∀ x ∈ q, f x = false) (e : QEntry) :
    (q ++ [e]).countP f ≤ 1 := by
  rw [List.countP_append, List.countP_eq_zero.2 fun x hx => by rw [none x hx]; decide, List.countP_singleton]
  split <;> omega

theorem queueSound_requestSync (h : QueueSound s) (i : SeatId) : QueueSound (s.requestSync i) := by
  have seats : (s.requestSync i).seats = s.seats := frame_requestSync i .seats (by decide)
  rcases requestSync_queue s i with same | ⟨active, free, -, joined⟩
  · exact queueSound_iff_of same (fun j => by rw [seats]) h
  · obtain ⟨markers, syncs⟩ := h
    refine ⟨fun p => ?_, fun j => ?_⟩
    · rw [joined, List.countP_append]
      exact markers p
    · obtain ⟨queued, inFlight, inactive⟩ := syncs j
      rw [joined, seats]
      refine ⟨?_, ?_, fun off st hmem => ?_⟩
      · by_cases same : j = i
        · subst same
          refine countP_le_one_append (fun x hx => ?_) _
          by_contra hit
          exact free (isQueuedOf_iff.1 (Bool.not_eq_false _ ▸ hit) ▸ hx)
        · rw [List.countP_append, List.countP_singleton, if_neg]
          · exact queued
          · rw [isQueuedOf_iff]
            exact fun e => same (QEntry.sync.inj e).1.symm
      · rw [List.countP_append, List.countP_singleton, if_neg]
        · exact inFlight
        · rw [isInFlightOf_iff]
          exact fun ⟨f, e⟩ => nomatch (QEntry.sync.inj e).2
      · rcases List.mem_append.1 hmem with hmem | hmem
        · exact inactive off st hmem
        · rw [List.mem_singleton] at hmem
          cases hmem
          exact off active

theorem queueSound_serveOwed (h : QueueSound s) (skip : Option SeatId) : QueueSound (s.serveOwed skip) :=
  serveOwed_cases (motive := QueueSound) s skip (fun _ => h) fun i _ _ => queueSound_requestSync h i

/-- Entries may leave. -/
theorem queueSound_of_sublist (h : QueueSound s) (sub : t.queue.Sublist s.queue)
    (seats : ∀ i : SeatId, t.seats[i].state = s.seats[i].state) : QueueSound t := by
  obtain ⟨markers, syncs⟩ := h
  refine ⟨fun p => (sub.countP_le).trans (markers p), fun i => ?_⟩
  obtain ⟨queued, inFlight, inactive⟩ := syncs i
  exact ⟨sub.countP_le.trans queued, sub.countP_le.trans inFlight,
    fun off st hmem => inactive (seats i ▸ off) st (sub.subset hmem)⟩

theorem queueSound_leave (h : QueueSound s) (skip : Option SeatId) (f : QEntry → Bool) : QueueSound (s.leave skip f) := by
  refine leave_induction (fun _ h => queueSound_serveOwed h skip) (fun u p n rest hq hu => ?_)
    (queueSound_of_sublist h (List.eraseP_sublist) fun _ => rfl) h
  refine queueSound_of_sublist hu ?_ fun _ => rfl
  rw [hq]
  exact List.sublist_cons_self _ _

/-- An IN_FLIGHT SYNC is rewritten, or a QUEUED one of a seat that holds none becomes IN_FLIGHT. -/
theorem queueSound_replace (h : QueueSound s) {f : QEntry → Bool} (i : SeatId) (g : InFlight)
    (own : ∀ x, f x = true → ∃ st, x = .sync i st)
    (fresh : (∀ x, f x = true → x.isInFlightOf i = true) ∨ ∀ g, QEntry.sync i (.inFlight g) ∉ s.queue) :
    QueueSound { s with queue := replaceFirst f (.sync i (.inFlight g)) s.queue } := by
  obtain ⟨markers, syncs⟩ := h
  have flight : (QEntry.sync i (.inFlight g)).isInFlightOf i = true := isInFlightOf_iff.2 ⟨g, rfl⟩
  refine ⟨fun p => ?_, fun j => ?_⟩
  · refine (countP_replaceFirst_of_same (fun x hx => ?_) _).trans_le (markers p)
    obtain ⟨st, rfl⟩ := own x hx
    rfl
  · obtain ⟨queued, inFlight, inactive⟩ := syncs j
    refine ⟨(countP_replaceFirst_le _ _ _ _).trans ?_, ?_, fun off st hmem => ?_⟩
    · rw [if_neg]
      · exact queued
      · rw [isQueuedOf_iff]
        exact fun e => nomatch (QEntry.sync.inj e).2
    · by_cases same : j = i
      · subst same
        rcases fresh with rewritten | none
        · exact (countP_replaceFirst_of_same (fun x hx => (rewritten x hx).trans flight.symm) _).trans_le inFlight
        · refine (countP_replaceFirst_le _ _ _ _).trans ?_
          rw [if_pos flight, List.countP_eq_zero.2]
          intro x hx hit
          obtain ⟨f, rfl⟩ := isInFlightOf_iff.1 hit
          exact none f hx
      · refine (countP_replaceFirst_of_same (fun x hx => ?_) _).trans_le inFlight
        obtain ⟨st, rfl⟩ := own x hx
        have foreign (st : SyncState) : (QEntry.sync i st).isInFlightOf j = false := by
          rw [← Bool.not_eq_true, isInFlightOf_iff]
          exact fun ⟨f, e⟩ => same (QEntry.sync.inj e).1.symm
        rw [foreign, foreign]
    · rcases mem_replaceFirst hmem with hmem | ⟨same, y, hy, hit⟩
      · exact inactive off st hmem
      · cases same
        obtain ⟨st, rfl⟩ := own y hit
        exact inactive off st hy

/-- A seat may leave ACTIVE once it holds no SYNC. -/
theorem queueSound_of_seats (h : QueueSound s) (queue : t.queue = s.queue)
    (seats : ∀ i : SeatId, t.seats[i].state = .active ∨ t.seats[i].state = s.seats[i].state ∨ ∀ st, QEntry.sync i st ∉ s.queue) :
    QueueSound t := by
  obtain ⟨markers, syncs⟩ := h
  refine ⟨fun p => by rw [queue]; exact markers p, fun i => ?_⟩
  obtain ⟨queued, inFlight, inactive⟩ := syncs i
  rw [queue]
  refine ⟨queued, inFlight, fun off => ?_⟩
  rcases seats i with active | same | none
  · exact absurd active off
  · exact inactive (same ▸ off)
  · exact none

/-! ## A marker placed (R138, R139) -/

theorem headed_placeMarker (h : Headed s.queue) (p : PortId) : Headed (s.placeMarker p).queue := by
  unfold State.placeMarker
  dsimp only
  split
  next empty => exact headed_afterLeave none 0 (congrArg List.length (List.isEmpty_iff.1 empty)).le
  next some =>
    cases hq : s.queue with
    | nil => rw [hq] at some; exact absurd rfl some
    | cons x xs =>
      intro q n rest same
      rw [show ((s.modMarkers p _).queue) = s.queue from rfl, hq] at same
      exact h q n xs (by rw [hq, (List.cons.inj same).1])

theorem length_placeMarker_le (room : s.queue.length < 24) (p : PortId) : (s.placeMarker p).queue.length ≤ 24 := by
  unfold State.placeMarker
  dsimp only
  split
  · exact length_serveOwed_le (s := (s.modMarkers p _).completeMarker p _) room.le none
  · exact (List.length_append).trans_le room

theorem queueSound_placeMarker (h : QueueSound s) (room : s.markerCount p < 2) : QueueSound (s.placeMarker p) := by
  unfold State.placeMarker
  dsimp only
  split
  · exact queueSound_serveOwed (s := (s.modMarkers p _).completeMarker p _) (queueSound_iff_of rfl (fun _ => rfl) h) none
  · obtain ⟨markers, syncs⟩ := h
    refine ⟨fun q => ?_, fun i => ?_⟩
    · refine (List.countP_append).trans_le ?_
      show s.queue.countP (·.isMarkerOf q) + _ ≤ 2
      rw [List.countP_singleton]
      by_cases same : q = p
      · subst same
        have : s.queue.countP (·.isMarkerOf q) < 2 := room
        split <;> omega
      · rw [if_neg]
        · exact markers q
        · rw [isMarkerOf_iff]
          exact fun ⟨n, e⟩ => same (QEntry.marker.inj e).1.symm
    · obtain ⟨queued, inFlight, inactive⟩ := syncs i
      refine ⟨(List.countP_append).trans_le queued, (List.countP_append).trans_le inFlight, fun off st hmem => ?_⟩
      rcases List.mem_append.1 hmem with hmem | hmem
      · exact inactive off st hmem
      · exact nomatch List.mem_singleton.1 hmem

/-! ## What the queue holds after entries have left -/

/-- Every entry was there before, or is the QUEUED SYNC of an ACTIVE seat that owed service may choose. -/
def HoldsAtMost (s : State) (skip : Option SeatId) (q : List QEntry) (t : State) : Prop :=
  t.seats = s.seats ∧ ∀ x ∈ t.queue, x ∈ q ∨ ∃ j, x = .sync j .queued ∧ s.seats[j].state = .active ∧ skip ≠ some j

theorem holdsAtMost_serveOwed (h : HoldsAtMost s skip q t) : HoldsAtMost s skip q (t.serveOwed skip) := by
  obtain ⟨seats, mem⟩ := h
  refine serveOwed_cases (motive := HoldsAtMost s skip q) t skip (fun _ => ⟨seats, mem⟩) fun i owed _ => ?_
  obtain ⟨active, -, -, other⟩ := (owedSeat_iff t skip i).1 owed
  refine ⟨(frame_requestSync i .seats (by decide)).trans seats, fun x hx => ?_⟩
  rcases requestSync_queue t i with same | ⟨-, -, -, joined⟩
  · exact mem x (same ▸ hx)
  · rcases List.mem_append.1 (joined ▸ hx) with hx | hx
    · exact mem x hx
    · exact .inr ⟨i, List.mem_singleton.1 hx, seats ▸ active, other⟩

theorem eraseP_of_not_any {f : QEntry → Bool} (h : q.any f = false) : q.eraseP f = q :=
  List.eraseP_of_forall_not fun x hx => by
    rw [Bool.not_eq_true]
    by_contra hit
    rw [List.any_eq_true.2 ⟨x, hx, Bool.not_eq_false _ ▸ hit⟩] at h
    cases h

theorem holdsAtMost_leave (s : State) (skip : Option SeatId) (f : QEntry → Bool) :
    HoldsAtMost s skip (s.queue.eraseP f) (s.leave skip f) := by
  unfold State.leave
  split
  next =>
    refine afterLeave_induction (P := HoldsAtMost s skip (s.queue.eraseP f)) (fun _ h => holdsAtMost_serveOwed h) ?_ _
      ⟨rfl, fun x hx => .inl hx⟩
    rintro u p n rest hq ⟨seats, mem⟩
    exact ⟨seats, fun x hx => mem x (hq ▸ List.mem_cons_of_mem _ hx)⟩
  next idle =>
    rw [eraseP_of_not_any (Bool.not_eq_true _ ▸ idle)]
    exact ⟨rfl, fun x hx => .inl hx⟩

theorem not_mem_eraseP {f : QEntry → Bool} (h : q.countP f ≤ 1) (hx : f x = true) : x ∉ q.eraseP f := by
  intro hmem
  have pos : 0 < (q.eraseP f).countP f := List.countP_pos_iff.2 ⟨x, hmem, hx⟩
  obtain ⟨y, pre, post, before, hy, split, rest⟩ := List.exists_of_eraseP (List.mem_of_mem_eraseP hmem) hx
  rw [split, List.countP_append, List.countP_cons, if_pos hy] at h
  rw [rest, List.countP_append] at pos
  omega

/-- Where the queue is sound, a seat whose SYNCs have left holds none (R137). -/
theorem dropSyncs_none (h : QueueSound s) (i : SeatId) : ∀ st, QEntry.sync i st ∉ (s.dropSyncs i).queue := by
  have first := holdsAtMost_leave s (some i) (·.isInFlightOf i)
  have sound := queueSound_leave h (some i) (·.isInFlightOf i)
  have second := holdsAtMost_leave (s.leave (some i) (·.isInFlightOf i)) (some i) (·.isQueuedOf i)
  intro st hmem
  rcases second.2 _ hmem with kept | ⟨j, same, -, other⟩
  · cases st with
    | queued => exact not_mem_eraseP (sound.2 i).1 (isQueuedOf_iff.2 rfl) kept
    | inFlight f =>
      rcases first.2 _ (List.mem_of_mem_eraseP kept) with older | ⟨j, same, -, -⟩
      · exact not_mem_eraseP (h.2 i).2.1 (isInFlightOf_iff.2 ⟨f, rfl⟩) older
      · exact nomatch (QEntry.sync.inj same).2
  · exact other (congrArg some (QEntry.sync.inj same).1)

end Sys2Proof.Machine.QueueOps
end

section
/-! PROOFS. What the part does between power-ons and restarts, as a chain of single operations, and the properties that every
such chain keeps. The proofs about composite operations (Operations) show once that each is such a chain. -/

namespace Sys2Proof.Machine.Runs

open Sys2Proof Sys2Proof.Machine Sys2Proof.Machine.Laws Sys2Proof.Machine.SlotGrades Sys2Proof.Machine.RosterSoundness
open Sys2Proof.Machine.Agreement Sys2Proof.Machine.QueueOps

variable {e q : Prop} {s t u : State} {i : SeatId} {p : PortId} {src : Source}

/-! ## Chains of operations -/

/-- Nothing that the properties below look at has changed. -/
structure Aside (s t : State) : Prop where
  alerts : t.alerts = s.alerts
  attention : t.attention = s.attention
  queue : t.queue = s.queue
  reminders : t.reminders = s.reminders
  roles : ∀ p : PortId, t.ports[p].role = s.ports[p].role
  states : ∀ i : SeatId, t.seats[i].state = s.seats[i].state

/-- A chain of single operations. Where `e` holds, a condition is raised only while it is not RAISED; where `q` holds, a seat
leaves ACTIVE only while it holds no SYNC. -/
inductive Run (e q : Prop) : State → State → Prop
  | refl (s : State) : Run e q s s
  | trans {s t u : State} : Run e q s t → Run e q t u → Run e q s u
  | aside {s t : State} : Aside s t → Run e q s t
  | seat {s : State} (i : SeatId) (f : SeatRec → SeatRec)
      (h : (f s.seats[i]).state = .active ∨ (f s.seats[i]).state = s.seats[i].state ∨
        (q → ∀ st, QEntry.sync i st ∉ s.queue)) : Run e q s (s.modSeat i f)
  | slot {s : State} (src : Source) (x : Slot) (idle : x.isRaised = false) (h : e → (s.slot src).isRaised = false) :
      Run e q s (s.setSlot src x)
  | raise {s : State} (src : Source) (sev : Severity) (d : FixedDetail) (h : e → (s.slot src).isRaised = false) :
      Run e q s (s.raise src sev d)
  | escalate {s : State} (src : Source) (sev : Severity) : Run e q s (s.escalate src sev)
  | endCondition {s : State} (src : Source) : Run e q s (s.endCondition src)
  | detail {s : State} (src : Source) (d : Entry → Detail) : Run e q s (s.mapLive src fun x => { x with detail := d x })
  | acks {s : State} (a : Entry → Vector Bool 4) :
      Run e q s (s.setRoster (s.alerts.roster.map fun x => { x with acks := a x }))
  | removalTest {s : State} (src : Source) : Run e q s (s.removalTest src)
  | clearSeat {s : State} (i : SeatId) : Run e q s ((clearSeatSlots s i).removeSeatEntries i)
  | setQuiet {s : State} (i : SeatId) : Run e q s (s.setQuiet i)
  | clearQuiet {s : State} (i : SeatId) : Run e q s (s.clearQuiet i)
  | attend {s : State} (f : PortId → Bool) (h : ∀ p : PortId, s.ports[p].role = .off → f p = false) : Run e q s (s.attend f)
  | clearAttention {s : State} (p : PortId) : Run e q s (s.clearAttention p)
  | clearOverflow {s : State} (p : PortId) :
      Run e q s { s with alerts := { s.alerts with overflow := s.alerts.overflow.set p false } }
  | requestSync {s : State} (i : SeatId) : Run e q s (s.requestSync i)
  | leave {s : State} (skip : Option SeatId) (f : QEntry → Bool) : Run e q s (s.leave skip f)
  | replace {s : State} (f : QEntry → Bool) (i : SeatId) (g : InFlight) (own : ∀ x, f x = true → ∃ st, x = .sync i st)
      (fresh : (∀ x, f x = true → x.isInFlightOf i = true) ∨ ∀ g, QEntry.sync i (.inFlight g) ∉ s.queue) :
      Run e q s { s with queue := replaceFirst f (.sync i (.inFlight g)) s.queue }
  | placeMarker {s : State} (p : PortId) (on : s.ports[p].role ≠ .off) (room : s.queue.length < 24) (few : s.markerCount p < 2) :
      Run e q s (s.placeMarker p)
  | reminders {s : State} : Run e q s s.evalReminders
  | reminder {s : State} (p : PortId) (f : Reminder → Reminder) (on : s.ports[p].role ≠ .off) : Run e q s (s.modReminder p f)

theorem aside_of_frame {W : List Block} (h : ChangesOnly W s t)
    (hW : Block.alerts ∉ W ∧ Block.attention ∉ W ∧ Block.queue ∉ W ∧ Block.reminders ∉ W ∧ Block.ports ∉ W ∧ Block.seats ∉ W) :
    Aside s t := by
  obtain ⟨alerts, attention, queue, reminders, ports, seats⟩ := hW
  have hports : t.ports = s.ports := h .ports ports
  have hseats : t.seats = s.seats := h .seats seats
  exact ⟨h .alerts alerts, h .attention attention, h .queue queue, h .reminders reminders, fun p => by rw [hports],
    fun i => by rw [hseats]⟩

/-- A change of other blocks. -/
theorem Run.frame {W : List Block} (h : ChangesOnly W s t)
    (hW : Block.alerts ∉ W ∧ Block.attention ∉ W ∧ Block.queue ∉ W ∧ Block.reminders ∉ W ∧ Block.ports ∉ W ∧ Block.seats ∉ W) :
    Run e q s t := .aside (aside_of_frame h hW)

/-- A change of one port that keeps its role. -/
theorem Run.port (f : PortRec → PortRec) (hf : ∀ r, (f r).role = r.role) : Run e q s (s.modPort p f) :=
  .aside ⟨rfl, rfl, rfl, rfl, fun _ => PowerAndRestart.modPort_role hf _ _ _, fun _ => rfl⟩

theorem Run.foldl {α : Type} {f : State → α → State} (hf : ∀ s x, Run e q s (f s x)) (xs : List α) (s : State) :
    Run e q s (xs.foldl f s) := by
  induction xs generalizing s with
  | nil => exact .refl s
  | cons x xs ih => exact (hf s x).trans (ih _)

theorem Run.ite {c : Prop} [Decidable c] (ht : c → Run e q s t) (hu : ¬c → Run e q s u) : Run e q s (if c then t else u) := by
  split
  next h => exact ht h
  next h => exact hu h

/-! ## Properties of the roster -/

theorem alerts_of_frame {W : List Block} (h : ChangesOnly W s t) (hW : Block.alerts ∉ W) : t.alerts = s.alerts :=
  h .alerts hW

/-- A chain keeps what the operations of chapter 7 keep, if it is a property of roster and counters. -/
theorem Run.roster {P : State → Prop} (k : Steady P)
    (tables : ∀ {s t : State}, t.alerts.roster = s.alerts.roster → t.alerts.nextTag = s.alerts.nextTag →
      t.alerts.rankCounter = s.alerts.rankCounter → P s → P t) (h : Run e q s t) : P s → P t := by
  have same {s t : State} (h : t.alerts = s.alerts) : P s → P t := tables (by rw [h]) (by rw [h]) (by rw [h])
  induction h with
  | refl => exact id
  | trans _ _ ih ih' => exact fun h => ih' (ih h)
  | aside a => exact same a.alerts
  | seat i f _ => exact same rfl
  | slot src x _ _ => exact k.setSlot src x
  | raise src sev d _ => exact k.raise src sev d
  | escalate src sev => exact k.escalate src sev
  | endCondition src => exact k.endCondition src
  | detail src d => exact k.mapLive src (fun _ => rfl) (fun _ => rfl) fun _ => rfl
  | acks a => exact k.map _ (fun _ => rfl) (fun _ => rfl) fun _ => rfl
  | removalTest src => exact k.removalTest src
  | @clearSeat s i =>
    exact fun h => k.removeSeatEntries i (tables (s := s) (t := clearSeatSlots s i) rfl rfl rfl h)
  | setQuiet i => exact k.setQuiet i
  | clearQuiet i => exact k.clearQuiet i
  | attend f _ => exact same rfl
  | clearAttention p => exact same rfl
  | clearOverflow p => exact tables rfl rfl rfl
  | requestSync i => exact same (alerts_of_frame (frame_requestSync i) (by decide))
  | leave skip f => exact same (alerts_of_frame (frame_leave skip f) (by decide))
  | replace => exact same rfl
  | placeMarker p _ _ _ => exact same (alerts_of_frame (frame_placeMarker p) (by decide))
  | reminders => exact same rfl
  | reminder p f _ => exact same rfl

theorem Run.rosterSound (h : Run e q s t) : RosterSound s → RosterSound t :=
  h.roster steady_rosterSound rosterSound_of_tables

theorem Run.few (h : Run e q s t) : s.alerts.roster.length ≤ 48 → t.alerts.roster.length ≤ 48 :=
  h.roster steady_few fun roster _ _ h => roster ▸ h

theorem entriesMatch_of_alerts (same : t.alerts = s.alerts) (h : EntriesMatch s) : EntriesMatch t :=
  entriesMatch_iff.2 ((entriesMatch_iff.1 h).of_alerts same)

/-- A chain that raises only what is not RAISED keeps roster and slots in agreement. -/
theorem Run.entriesMatch (h : Run e q s t) (he : e) : EntriesMatch s → EntriesMatch t := by
  induction h with
  | refl => exact id
  | trans _ _ ih ih' => exact fun h => ih' (ih h)
  | aside a => exact entriesMatch_of_alerts a.alerts
  | seat i f _ => exact entriesMatch_of_alerts rfl
  | slot src x idle free => exact fun h => entriesMatch_setSlot h (free he) idle
  | raise src sev d free => exact fun h => entriesMatch_raise h (free he) sev d
  | escalate src sev => exact fun h => entriesMatch_escalate h src sev
  | endCondition src => exact fun h => entriesMatch_endCondition h src
  | detail src d => exact fun h => entriesMatch_iff.2 ((entriesMatch_iff.1 h).mapLive src fun _ => rfl)
  | acks a => exact fun h => entriesMatch_iff.2 ((entriesMatch_iff.1 h).map fun _ => rfl)
  | removalTest src => exact fun h => entriesMatch_iff.2 ((entriesMatch_iff.1 h).removalTest src)
  | clearSeat i => exact fun h => entriesMatch_clearSeat h i
  | setQuiet i => exact fun h => entriesMatch_setQuiet h i
  | clearQuiet i => exact fun h => entriesMatch_clearQuiet h i
  | attend f _ => exact entriesMatch_of_alerts rfl
  | clearAttention p => exact entriesMatch_of_alerts rfl
  | clearOverflow p =>
    exact fun h => entriesMatch_iff.2 ((entriesMatch_iff.1 h).of_faces rfl (slot_of_tables rfl rfl))
  | requestSync i => exact entriesMatch_of_alerts (alerts_of_frame (frame_requestSync i) (by decide))
  | leave skip f => exact entriesMatch_of_alerts (alerts_of_frame (frame_leave skip f) (by decide))
  | replace => exact entriesMatch_of_alerts rfl
  | placeMarker p _ _ _ => exact entriesMatch_of_alerts (alerts_of_frame (frame_placeMarker p) (by decide))
  | reminders => exact entriesMatch_of_alerts rfl
  | reminder p f _ => exact entriesMatch_of_alerts rfl

/-! ## Properties of the queue -/

/-- A property of the queue that the operations on it keep. -/
structure QueueSteady (P : State → Prop) : Prop where
  same : ∀ {s t : State}, t.queue = s.queue → (∀ i : SeatId, t.seats[i].state = s.seats[i].state) → P s → P t
  seat : ∀ {s : State} (i : SeatId) (f : SeatRec → SeatRec), ((f s.seats[i]).state = .active ∨
    (f s.seats[i]).state = s.seats[i].state ∨ ∀ st, QEntry.sync i st ∉ s.queue) → P s → P (s.modSeat i f)
  requestSync : ∀ {s} (i : SeatId), P s → P (s.requestSync i)
  leave : ∀ {s} (skip : Option SeatId) (f : QEntry → Bool), P s → P (s.leave skip f)
  replace : ∀ {s : State} (f : QEntry → Bool) (i : SeatId) (g : InFlight), (∀ x, f x = true → ∃ st, x = .sync i st) →
    ((∀ x, f x = true → x.isInFlightOf i = true) ∨ ∀ g, QEntry.sync i (.inFlight g) ∉ s.queue) → P s →
    P { s with queue := replaceFirst f (.sync i (.inFlight g)) s.queue }
  placeMarker : ∀ {s : State} (p : PortId), s.queue.length < 24 → s.markerCount p < 2 → P s → P (s.placeMarker p)

theorem setQuiet_states (s : State) (i j : SeatId) : (s.setQuiet i).seats[j].state = s.seats[j].state := by
  show (s.seats.set i { s.seats[i] with quiet := true })[j].state = _
  by_cases same : j = i
  · subst same; rw [get_set_self]
  · rw [get_set_ne _ same]

theorem attempts_seats (cs : List (Source × Raised)) (s : State) :
    (cs.foldl (fun t c => t.attempt c.1) s).seats = s.seats :=
  frame_foldl (W := rosterBlocks) (fun (t : State) (c : Source × Raised) => t.attempt c.1) cs (fun _ _ => frame_attempt _) s
    .seats (by decide)

/-- Of the seats, clearing the quiet flag changes that flag. -/
theorem clearQuiet_seats (s : State) (i : SeatId) :
    (s.clearQuiet i).seats = s.seats.set i { s.seats[i] with quiet := false } := by
  unfold State.clearQuiet
  split
  next =>
    rw [attempts_seats]
    rfl
  next unset =>
    refine ext_get fun j => ?_
    by_cases same : j = i
    · subst same
      rw [get_set_self]
      rw [Bool.not_eq_true] at unset
      rw [← unset]
    · rw [get_set_ne _ same]

theorem clearQuiet_states (s : State) (i j : SeatId) : (s.clearQuiet i).seats[j].state = s.seats[j].state := by
  rw [clearQuiet_seats]
  by_cases same : j = i
  · subst same; rw [get_set_self]
  · rw [get_set_ne _ same]

theorem QueueSteady.frame {P : State → Prop} (k : QueueSteady P) {W : List Block} (h : ChangesOnly W s t)
    (hW : Block.queue ∉ W ∧ Block.seats ∉ W) : P s → P t :=
  k.same (h .queue hW.1) fun i => by rw [show t.seats = s.seats from h .seats hW.2]

/-- A chain keeps the properties of the queue; one that no seat's state bears on, whether or not `q` holds. -/
theorem Run.queued {P : State → Prop} (k : QueueSteady P) (h : Run e q s t)
    (hq : q ∨ ∀ (s : State) i f, P s → P (s.modSeat i f)) : P s → P t := by
  induction h with
  | refl => exact id
  | trans _ _ ih ih' => exact fun h => ih' (ih h)
  | aside a => exact k.same a.queue a.states
  | seat i f free =>
    rcases hq with hq | any
    · exact k.seat i f (free.imp id fun h => h.imp id fun h => h hq)
    · exact any _ i f
  | slot src x _ _ => exact k.same rfl fun _ => rfl
  | raise src sev d _ => exact k.frame (frame_raise src sev d) (by decide)
  | escalate src sev => exact k.frame (frame_escalate src sev) (by decide)
  | endCondition src => exact k.frame (frame_endCondition src) (by decide)
  | detail src d => exact k.same rfl fun _ => rfl
  | acks a => exact k.same rfl fun _ => rfl
  | removalTest src => exact k.frame (frame_removalTest src) (by decide)
  | @clearSeat s i =>
    exact fun h => k.frame (frame_removeSeatEntries i) (by decide)
      (k.same (s := s) (t := clearSeatSlots s i) rfl (fun _ => rfl) h)
  | @setQuiet s i => exact k.same rfl (setQuiet_states s i)
  | @clearQuiet s i => exact k.same (frame_clearQuiet i .queue (by decide)) (clearQuiet_states s i)
  | attend f _ => exact k.same rfl fun _ => rfl
  | clearAttention p => exact k.same rfl fun _ => rfl
  | clearOverflow p => exact k.same rfl fun _ => rfl
  | requestSync i => exact k.requestSync i
  | leave skip f => exact k.leave skip f
  | replace f i g own fresh => exact k.replace f i g own fresh
  | placeMarker p _ room few => exact k.placeMarker p room few
  | reminders => exact k.same rfl fun _ => rfl
  | reminder p f _ => exact k.same rfl fun _ => rfl

theorem queueSteady_headed : QueueSteady fun s => Headed s.queue where
  same hq _ h := hq ▸ h
  seat _ _ _ h := h
  requestSync i h := headed_requestSync h i
  leave skip f h := headed_leave h skip f
  replace f i _ _ _ h := headed_replaceFirst h f i _
  placeMarker p _ _ h := headed_placeMarker h p

theorem queueSteady_length : QueueSteady fun s => s.queue.length ≤ 24 where
  same hq _ h := hq ▸ h
  seat _ _ _ h := h
  requestSync i h := length_requestSync_le h i
  leave skip f h := length_leave_le h skip f
  replace f _ _ _ _ h := (length_replaceFirst f _ _).trans_le h
  placeMarker p room _ _ := length_placeMarker_le room p

theorem queueSteady_sound : QueueSteady QueueSound where
  same hq hs h := queueSound_iff_of hq hs h
  seat {s} i f free h := queueSound_of_seats h rfl fun j => by
    rw [modSeat_seats]
    by_cases same : j = i
    · subst same
      rw [get_set_self]
      exact free
    · rw [get_set_ne _ same]
      exact .inr (.inl rfl)
  requestSync i h := queueSound_requestSync h i
  leave skip f h := queueSound_leave h skip f
  replace f i g own fresh h := queueSound_replace h i g own fresh
  placeMarker p _ few h := queueSound_placeMarker h few

theorem Run.queueSound (h : Run e q s t) (hq : q) : QueueSound s → QueueSound t := h.queued queueSteady_sound (.inl hq)

/-- A chain keeps a marker from standing first (R139). -/
theorem Run.headed (h : Run e q s t) : Headed s.queue → Headed t.queue :=
  h.queued queueSteady_headed (.inr fun _ _ _ h => h)

theorem Run.queueLength (h : Run e q s t) : s.queue.length ≤ 24 → t.queue.length ≤ 24 :=
  h.queued queueSteady_length (.inr fun _ _ _ h => h)

/-! ## OFF ports -/

/-- An OFF port's attention and overflow mark are clear. -/
def OffMarked (s : State) : Prop :=
  ∀ p : PortId, s.ports[p].role = .off → s.attention[p] = false ∧ s.alerts.overflow[p] = false

/-- An OFF port has no attention, no overflow mark, no reminder and no marker. -/
def OffQuiet (s : State) : Prop :=
  OffMarked s ∧ ∀ p : PortId, s.ports[p].role = .off → s.reminders[p].timer = none ∧ s.noMarkerOf p

theorem dueTo_off (off : s.ports[p].role = .off) (src : Source) (sev : Severity) : s.dueTo p src sev = false := by
  unfold State.dueTo
  rw [off]
  rfl

theorem offMarked_of_due (ports : t.ports = s.ports)
    (marks : ∀ p : PortId, s.ports[p].role = .off → t.attention[p] = s.attention[p] ∧ t.alerts.overflow[p] = s.alerts.overflow[p])
    (h : OffMarked s) : OffMarked t := by
  intro p off
  rw [ports] at off
  obtain ⟨attention, overflow⟩ := marks p off
  rw [attention, overflow]
  exact h p off

theorem offMarked_attend (h : OffMarked s) {f : PortId → Bool} (hf : ∀ p : PortId, s.ports[p].role = .off → f p = false) :
    OffMarked (s.attend f) :=
  offMarked_of_due (s := s) rfl (fun p off => ⟨by
    show (Vector.ofFn fun p => f p || s.attention[p])[p] = _
    rw [get_ofFn, hf p off, Bool.false_or], rfl⟩) h

theorem offMarked_markOverflow (h : OffMarked s) (src : Source) (sev : Severity) : OffMarked (s.markOverflow src sev) :=
  offMarked_of_due (s := s) rfl (fun p off => by
    have none := dueTo_off off src sev
    refine ⟨?_, ?_⟩
    · show (Vector.ofFn fun p => (s.dueTo p src sev && !s.alerts.overflow[p]) || s.attention[p])[p] = _
      rw [get_ofFn, none, Bool.false_and, Bool.false_or]
    · show (Vector.ofFn fun p => s.dueTo p src sev || s.alerts.overflow[p])[p] = _
      rw [get_ofFn, none, Bool.false_or]) h

theorem createEntry_attention (s : State) (src : Source) (r : Raised) : (s.createEntry src r).attention =
    Vector.ofFn fun p => s.dueTo p src r.severity || s.attention[p] := rfl

theorem createEntry_overflow (s : State) (src : Source) (r : Raised) :
    (s.createEntry src r).alerts.overflow = s.alerts.overflow := by
  rw [createEntry_alerts, setSlot_overflow]
  exact beforeRank_overflow _

theorem offMarked_createEntry (h : OffMarked s) (src : Source) (r : Raised) : OffMarked (s.createEntry src r) :=
  offMarked_of_due (s := s) rfl (fun p off => by
    rw [createEntry_attention, get_ofFn, dueTo_off off, Bool.false_or, createEntry_overflow]
    exact ⟨rfl, rfl⟩) h

theorem offMarked_displace (h : OffMarked s) (v : Entry) : OffMarked (s.displace v) := by
  refine offMarked_of_due (frame_displace v .ports (by decide)) (fun p off => ?_) h
  rw [displace_attention, (displace_tables s v).2.2.2, get_ofFn, get_ofFn,
    show s.due p v = false from dueTo_off off _ _]
  exact ⟨rfl, rfl⟩

theorem steady_offMarked : Steady OffMarked where
  beside same h := offMarked_of_due same.ports (fun p _ => by rw [same.attention, same.overflow]; exact ⟨rfl, rfl⟩) h
  filter _ h := h
  map _ _ _ _ h := h
  attempt {s} src h := attempt_cases s src (fun _ => h)
    (fun r _ _ _ _ _ => offMarked_createEntry (s := s.dropEntry src) h src r)
    (fun r _ _ _ => offMarked_createEntry h src r)
    (fun r v _ _ _ _ => offMarked_createEntry (offMarked_displace h v) src r)
    (fun r _ _ _ _ => offMarked_markOverflow (offMarked_of_due (s := s) (t := s.setListing src .waiting) rfl
      (fun p _ => ⟨rfl, congrArg (·[p]) (setSlot_overflow _ _ _)⟩) h) src r.severity)
  escalateEntry {s} src sev h := by
    cases found : s.alerts.beforeRank.roster.find? fun e => e.source == src with
    | none => rw [escalateEntry_of_none found]; exact h
    | some e =>
      rw [escalateEntry_of_some found]
      refine offMarked_attend (s := { s with alerts := escalated s src sev e })
        (offMarked_of_due (s := s) rfl (fun p _ => ⟨rfl, ?_⟩) h) fun p off => dueTo_off off _ _
      exact congrArg (·[p]) (beforeRank_overflow s.alerts)

/-- What holds of the OFF ports' reminders and markers, where neither changes. -/
theorem offQuiet_of_roster {W : List Block} (h : ChangesOnly W s t)
    (hW : Block.queue ∉ W ∧ Block.reminders ∉ W ∧ Block.ports ∉ W) (marked : OffMarked s → OffMarked t) :
    OffQuiet s → OffQuiet t := by
  rintro ⟨hm, rest⟩
  obtain ⟨queue, reminders, ports⟩ := hW
  refine ⟨marked hm, fun p off => ?_⟩
  rw [show t.ports = s.ports from h .ports ports] at off
  rw [show t.reminders = s.reminders from h .reminders reminders]
  obtain ⟨timer, markers⟩ := rest p off
  exact ⟨timer, fun n hn => markers n ((show t.queue = s.queue from h .queue queue) ▸ hn)⟩

/-- What holds of OFF ports, where markers may only leave and attention is set only for ports with markers. -/
structure Quieter (s t : State) : Prop where
  ports : t.ports = s.ports
  reminders : t.reminders = s.reminders
  overflow : t.alerts.overflow = s.alerts.overflow
  markers : ∀ p n, QEntry.marker p n ∈ t.queue → QEntry.marker p n ∈ s.queue
  attention : ∀ p : PortId, t.attention[p] = s.attention[p] ∨ ∃ n, QEntry.marker p n ∈ s.queue

theorem Quieter.offQuiet (a : Quieter s t) : OffQuiet s → OffQuiet t := by
  rintro ⟨marked, rest⟩
  refine ⟨fun p off => ?_, fun p off => ?_⟩
  · rw [a.ports] at off
    rw [a.overflow]
    refine ⟨?_, (marked p off).2⟩
    rcases a.attention p with same | ⟨n, hn⟩
    · rw [same]; exact (marked p off).1
    · exact absurd hn ((rest p off).2 n)
  · rw [a.ports] at off
    rw [a.reminders]
    exact ⟨(rest p off).1, fun n hn => (rest p off).2 n (a.markers p n hn)⟩

theorem Quieter.trans (a : Quieter s t) (b : Quieter t u) : Quieter s u where
  ports := b.ports.trans a.ports
  reminders := b.reminders.trans a.reminders
  overflow := b.overflow.trans a.overflow
  markers p n h := a.markers p n (b.markers p n h)
  attention p := by
    rcases b.attention p with same | ⟨n, hn⟩
    · rw [same]; exact a.attention p
    · exact .inr ⟨n, a.markers p n hn⟩

theorem quieter_requestSync (s : State) (i : SeatId) : Quieter s (s.requestSync i) where
  ports := frame_requestSync i .ports (by decide)
  reminders := frame_requestSync i .reminders (by decide)
  overflow := congrArg Alerts.overflow (alerts_of_frame (frame_requestSync i) (by decide))
  markers p n h := by
    rcases requestSync_queue s i with same | ⟨-, -, -, joined⟩
    · exact same ▸ h
    · rw [joined] at h
      exact (List.mem_append.1 h).resolve_right fun h => nomatch List.mem_singleton.1 h
  attention p := .inl (by rw [show (s.requestSync i).attention = s.attention from frame_requestSync i .attention (by decide)])

theorem quieter_leave (s : State) (skip : Option SeatId) (f : QEntry → Bool) : Quieter s (s.leave skip f) := by
  refine leave_induction (P := Quieter s) (fun u h => ?_) (fun u p n rest hq h => ?_) ?_ ?_
  · exact serveOwed_cases (motive := Quieter s) u skip (fun _ => h) fun i _ _ => h.trans (quieter_requestSync u i)
  · refine h.trans ⟨rfl, rfl, rfl, fun r m hm => hq ▸ List.mem_cons_of_mem _ hm, fun r => ?_⟩
    show (Vector.ofFn fun q => (q == p) || u.attention[q])[r] = _ ∨ _
    rw [get_ofFn]
    by_cases same : r = p
    · subst same
      exact .inr ⟨n, hq ▸ List.mem_cons_self⟩
    · exact .inl (by rw [beq_eq_false_iff_ne.2 same, Bool.false_or])
  · exact ⟨rfl, rfl, rfl, fun _ _ h => List.mem_of_mem_eraseP h, fun _ => .inl rfl⟩
  · exact ⟨rfl, rfl, rfl, fun _ _ h => h, fun _ => .inl rfl⟩

theorem quieter_replace (s : State) (f : QEntry → Bool) (i : SeatId) (st : SyncState) :
    Quieter s { s with queue := replaceFirst f (.sync i st) s.queue } where
  ports := rfl
  reminders := rfl
  overflow := rfl
  markers _ _ h := (mem_replaceFirst h).resolve_right fun both => nomatch both.1
  attention _ := .inl rfl

/-- A port that is not OFF may get markers, attention, and a reminder. -/
theorem offQuiet_of_others (h : OffQuiet s) (on : s.ports[p].role ≠ .off) (ports : t.ports = s.ports)
    (rest : ∀ r : PortId, r ≠ p → t.attention[r] = s.attention[r] ∧ t.alerts.overflow[r] = s.alerts.overflow[r] ∧
      t.reminders[r] = s.reminders[r] ∧ ∀ n, QEntry.marker r n ∈ t.queue → QEntry.marker r n ∈ s.queue) : OffQuiet t := by
  have apart : ∀ r : PortId, t.ports[r].role = .off → r ≠ p ∧ s.ports[r].role = .off := fun r off => by
    rw [ports] at off
    exact ⟨fun same => on (same ▸ off), off⟩
  refine ⟨fun r off => ?_, fun r off => ?_⟩ <;> obtain ⟨ne, off⟩ := apart r off <;>
    obtain ⟨attention, overflow, reminder, markers⟩ := rest r ne
  · rw [attention, overflow]
    exact h.1 r off
  · rw [reminder]
    exact ⟨(h.2 r off).1, fun n hn => (h.2 r off).2 n (markers n hn)⟩

theorem offQuiet_placeMarker (h : OffQuiet s) (on : s.ports[p].role ≠ .off) : OffQuiet (s.placeMarker p) := by
  unfold State.placeMarker
  dsimp only
  split
  · refine serveOwed_cases (motive := OffQuiet) ((s.modMarkers p _).completeMarker p _) none (fun _ => ?_) fun i _ _ =>
      (quieter_requestSync _ i).offQuiet ?_
    all_goals
      refine offQuiet_of_others (p := p) h on rfl fun r ne => ⟨?_, rfl, rfl, fun n hn => hn⟩
      show (Vector.ofFn fun q => (q == p) || s.attention[q])[r] = _
      rw [get_ofFn, beq_eq_false_iff_ne.2 ne, Bool.false_or]
  · refine offQuiet_of_others (p := p) h on rfl fun r ne => ⟨rfl, rfl, rfl, fun n hn => ?_⟩
    refine (List.mem_append.1 hn).resolve_right fun hn => ?_
    exact ne (QEntry.marker.inj (List.mem_singleton.1 hn)).1

theorem offQuiet_evalReminders (h : OffQuiet s) : OffQuiet s.evalReminders := by
  refine ⟨h.1, fun p off => ⟨?_, (h.2 p off).2⟩⟩
  show (Vector.ofFn fun p => s.reminders[p].evaluate (s.remindCondition p))[p].timer = none
  have none : s.remindCondition p = false := by
    unfold State.remindCondition
    refine Bool.and_eq_false_imp.2 fun _ => List.any_eq_false.2 fun x _ => ?_
    rw [show s.dueUnacked p x = false by unfold State.dueUnacked State.due; rw [dueTo_off (s := s) off]; rfl]
    exact Bool.false_ne_true
  rw [get_ofFn, none]
  unfold Reminder.evaluate
  rw [(h.2 p off).1]
  exact (h.2 p off).1

theorem offQuiet_of_aside (a : Aside s t) (h : OffQuiet s) : OffQuiet t := by
  have overflow : t.alerts.overflow = s.alerts.overflow := by rw [a.alerts]
  refine ⟨fun p off => ?_, fun p off => ?_⟩ <;> rw [a.roles] at off
  · rw [a.attention, overflow]
    exact h.1 p off
  · rw [a.reminders]
    exact ⟨(h.2 p off).1, fun n hn => (h.2 p off).2 n (a.queue ▸ hn)⟩

/-- A chain keeps OFF ports quiet. -/
theorem Run.offQuiet (h : Run e q s t) : OffQuiet s → OffQuiet t := by
  have k := steady_offMarked
  induction h with
  | refl => exact id
  | trans _ _ ih ih' => exact fun h => ih' (ih h)
  | aside a => exact offQuiet_of_aside a
  | seat i f _ => exact fun h => ⟨h.1, h.2⟩
  | slot src x _ _ => exact offQuiet_of_roster (frame_setSlot src x) (by decide) (k.setSlot src x)
  | raise src sev d _ => exact offQuiet_of_roster (frame_raise src sev d) (by decide) (k.raise src sev d)
  | escalate src sev => exact offQuiet_of_roster (frame_escalate src sev) (by decide) (k.escalate src sev)
  | endCondition src => exact offQuiet_of_roster (frame_endCondition src) (by decide) (k.endCondition src)
  | detail src d => exact fun h => ⟨h.1, h.2⟩
  | acks a => exact fun h => ⟨h.1, h.2⟩
  | removalTest src => exact offQuiet_of_roster (frame_removalTest src) (by decide) (k.removalTest src)
  | @clearSeat s i =>
    exact fun h => offQuiet_of_roster (s := clearSeatSlots s i) (frame_removeSeatEntries i) (by decide)
      (k.removeSeatEntries i) ⟨h.1, h.2⟩
  | setQuiet i => exact offQuiet_of_roster (frame_setQuiet i) (by decide) (k.setQuiet i)
  | clearQuiet i => exact offQuiet_of_roster (frame_clearQuiet i) (by decide) (k.clearQuiet i)
  | attend f off => exact fun h => ⟨offMarked_attend h.1 off, h.2⟩
  | @clearAttention s p =>
    refine fun h => ⟨fun r off => ⟨?_, (h.1 r off).2⟩, h.2⟩
    show (s.attention.set p false)[r] = _
    by_cases same : r = p
    · subst same; exact get_set_self _ _ _
    · exact (get_set_ne _ same _).trans (h.1 r off).1
  | @clearOverflow s p =>
    refine fun h => ⟨fun r off => ⟨(h.1 r off).1, ?_⟩, h.2⟩
    show (s.alerts.overflow.set p false)[r] = _
    by_cases same : r = p
    · subst same; exact get_set_self _ _ _
    · exact (get_set_ne _ same _).trans (h.1 r off).2
  | @requestSync s i => exact (quieter_requestSync s i).offQuiet
  | @leave s skip f => exact (quieter_leave s skip f).offQuiet
  | @replace s f i g _ _ => exact (quieter_replace s f i _).offQuiet
  | placeMarker p on _ _ => exact fun h => offQuiet_placeMarker h on
  | reminders => exact offQuiet_evalReminders
  | reminder p f on =>
    refine fun h => offQuiet_of_others (p := p) h on rfl fun r ne => ⟨rfl, rfl, ?_, fun _ hn => hn⟩
    exact get_set_ne _ ne _

end Sys2Proof.Machine.Runs
end

section
/-! PROOFS. Every operation on a seat or a link, and every settled frame, is a chain of single operations (Runs). -/

namespace Sys2Proof.Machine.Runs

open Sys2Proof Sys2Proof.Machine Sys2Proof.Machine.Laws Sys2Proof.Machine.SlotGrades Sys2Proof.Machine.QueueOps
open Sys2Proof.Machine.AntennaLinks Sys2Proof.Machine.Agreement

variable {e q : Prop} {s t u : State} {i : SeatId} {l : LinkId} {p : PortId} {src : Source}

/-- The last operation of a chain, put before the others: it tells what they lead to. -/
theorem Run.after (last : Run e q t u) (h : Run e q s t) : Run e q s u := h.trans last

/-! ## Records outside the chains -/

theorem run_modMute (i : SeatId) (f : Mute → Mute) : Run e q s (s.modMute i f) := .frame (frame_modMute i f) (by decide)
theorem run_modSignal (i : SeatId) (f : Signal → Signal) : Run e q s (s.modSignal i f) :=
  .frame (frame_modSignal i f) (by decide)
theorem run_modBattery (i : SeatId) (f : Battery → Battery) : Run e q s (s.modBattery i f) :=
  .frame (frame_modBattery i f) (by decide)
theorem run_modSync (i : SeatId) (f : SyncRec → SyncRec) : Run e q s (s.modSync i f) := .frame (frame_modSync i f) (by decide)
theorem run_modLink (l : LinkId) (f : LinkRec → LinkRec) : Run e q s (s.modLink l f) := .frame (frame_modLink l f) (by decide)
theorem run_refresh (src : Source) : Run e q s (s.refresh src) := .detail src fun _ => s.detailOf src

theorem run_evalOutputs : Run e q s s.evalOutputs :=
  Run.trans .reminders (.frame (frame_evalLamps (s := s.evalReminders)) (by decide))

theorem run_endOrCancel (src : Source) : Run e q s (s.endOrCancel src) := by
  unfold State.endOrCancel
  split
  next => exact .endCondition src
  next h => exact .slot src .clear rfl fun _ => by rw [h]; rfl
  next => exact .refl s

theorem run_removalTests (srcs : List Source) : Run e q s (s.removalTests srcs) :=
  Run.foldl (f := State.removalTest) (fun _ _ => .removalTest _) srcs s

/-! ## Downlink queue -/

theorem run_dropSyncs (i : SeatId) : Run e q s (s.dropSyncs i) := (Run.leave _ _).trans (.leave _ _)

theorem run_dropSyncsOwed (i : SeatId) : Run e q s (s.dropSyncsOwed i) := (run_dropSyncs i).trans (run_modSync i _)

theorem run_sendOrder (l : LinkId) (i : SeatId) (f : InFlight) : Run e q s (s.sendOrder l i f) := by
  unfold State.sendOrder
  exact run_modLink l _

theorem run_firstIssue (none : s.inFlight i = none) (l : LinkId) : Run e q s (s.firstIssue l i) := by
  unfold State.firstIssue
  exact (run_sendOrder l i _).after ((run_modSync i _).after
    (.replace _ i _ (fun x hx => ⟨_, isQueuedOf_iff.1 hx⟩) (.inr ((inFlight_eq_none s i).1 none))))

theorem run_rewrite (i : SeatId) (g : InFlight) :
    Run e q s { s with queue := replaceFirst (·.isInFlightOf i) (.sync i (.inFlight g)) s.queue } :=
  .replace _ i g (fun _ hx => ((isInFlightOf_iff.1 hx).elim fun f h => ⟨.inFlight f, h⟩)) (.inl fun _ h => h)

theorem run_reissue (l : LinkId) (i : SeatId) (f : InFlight) : Run e q s (s.reissue l i f) := by
  unfold State.reissue
  exact (run_sendOrder l i _).after (run_rewrite i _)

theorem run_openSlot (l : LinkId) : Run e q s (s.openSlot l) := by
  unfold State.openSlot
  split
  next => exact run_reissue l _ _
  next =>
    split
    next i found =>
      obtain ⟨x, -, hx⟩ := List.exists_of_findSome?_eq_some found
      refine run_firstIssue ?_ l
      unfold State.firstIssueFor at hx
      split at hx
      next j =>
        split at hx
        next both =>
          cases hx
          exact Option.isNone_iff_eq_none.1 (Bool.and_eq_true_iff.1 both).2
        next => cases hx
      next => cases hx
    next => exact .refl s

theorem run_slotExpires (l : LinkId) : Run e q s (s.slotExpires l) := by
  unfold State.slotExpires
  split
  · exact (run_modLink l _).trans (run_openSlot l)
  · exact .refl s

theorem run_readEcho (i : SeatId) (echo : BitVec 4) : Run e q s (s.readEcho i echo) := by
  unfold State.readEcho
  split
  next =>
    refine .ite (fun _ => ?_) fun _ => .refl s
    dsimp only
    exact .ite (fun _ => (Run.leave none _).after (run_modSync i _)) fun _ =>
      (Run.requestSync i).after ((Run.leave none _).after (run_modSync i _))
  next => exact .refl s

theorem run_syncWindowExpires (i : SeatId) : Run e q s (s.syncWindowExpires i) := by
  unfold State.syncWindowExpires
  split
  next f _ =>
    split
    next => exact .ite (fun _ => run_rewrite i _) fun _ => (run_modSync i _).trans (.leave none _)
    next => exact .refl s
  next => exact .refl s

theorem run_dropMarkers (p : PortId) (n : Nat) : Run e q s (s.dropMarkers p n) := by
  induction n generalizing s with
  | zero => exact .refl s
  | succ n ih => exact (Run.leave none _).trans ih

/-! ## Battery Gauge -/

theorem run_endBattery (i : SeatId) : Run e q s (s.endBattery i) := (Run.endCondition _).trans (run_modBattery i _)

theorem run_actOnStreaks (i : SeatId) : Run e q s (s.actOnStreaks i) := by
  have unraised {x : Slot} (h : ∀ r, x = .raised r → False) : x.isRaised = false := not_isRaised_iff.2 fun r hr => h r hr
  unfold State.actOnStreaks
  dsimp only
  refine .ite (fun _ => ?_) fun _ => .ite (fun _ => ?_) fun _ => .refl s
  · split
    next => exact .ite (fun _ => .refl s) fun _ => (Run.escalate _ _).trans (run_modBattery i _)
    next h => exact (Run.raise _ _ _ fun _ => unraised h).trans (run_modBattery i _)
  · split
    next => exact .refl s
    next h => exact (Run.raise _ _ _ fun _ => unraised h).trans (run_modBattery i _)

theorem run_gaugeReads (i : SeatId) (f : SeatFrame) (c : FrameClass) : Run e q s (s.gaugeReads i f c) :=
  (((run_modBattery i _).trans (.ite (fun _ => run_endBattery i) fun _ => .refl _)).trans (run_actOnStreaks i)).trans
    (run_refresh _)

/-! ## Signal Monitor -/

theorem run_weakTest (i : SeatId) (x : Int) : Run e q s (s.weakTest i x) := by
  unfold State.weakTest
  dsimp only
  refine .ite (fun _ => ?_) fun _ => .ite (fun _ => .ite (fun _ => .refl s) fun _ => run_modSignal i _) fun _ =>
    .ite (fun _ => (run_modSignal i _).trans (.endCondition _)) fun _ => run_modSignal i _
  split
  next raises =>
    obtain ⟨idle, -⟩ := Bool.and_eq_true_iff.1 raises
    exact (Run.raise _ _ _ fun _ => by rw [← Bool.not_eq_true']; exact idle).after (run_modSignal i _)
  next => exact run_modSignal i _

theorem run_erraticTest (i : SeatId) : Run e q s (s.erraticTest i) := by
  unfold State.erraticTest
  dsimp only
  refine .ite (fun _ => .ite (fun _ => .endCondition _) fun _ => .refl s) fun idle =>
    .ite (fun _ => .raise _ _ _ fun _ => ?_) fun _ => .refl s
  rw [← Bool.not_eq_true]
  exact idle

theorem run_monitorReads (i : SeatId) (f : SeatFrame) (c : FrameClass) : Run e q s (s.monitorReads i f c) :=
  ((((run_modSignal i _).trans (run_refresh _)).trans (run_weakTest i _)).trans
    ((run_modSignal i _).trans (run_refresh _))).trans (run_erraticTest i)

theorem run_setAttributed (l : LinkId) (f : Nat → Nat) : Run e q s (s.setAttributed l f) :=
  (run_modLink l _).trans (run_refresh _)

theorem run_escalateLink (l : LinkId) : Run e q s (s.escalateLink l) := by
  unfold State.escalateLink
  split
  · exact .ite (fun _ => .refl s) fun _ => .escalate _ _
  · exact .refl s

/-- SIGNAL_LOSS of the seat is not RAISED. -/
def LossFree (s : State) (i : SeatId) : Prop := (s.slot (.seat i .signalLoss)).isRaised = false

theorem run_loseToSignal (h : e → LossFree s i) : Run e q s (s.loseToSignal i) :=
  (run_modSignal i _).trans (.raise _ _ _ h)

theorem run_loseToLink (i : SeatId) (l : LinkId) : Run e q s (s.loseToLink i l) :=
  ((run_modSignal i _).trans (run_setAttributed l _)).trans (run_escalateLink l)

/-- The loss cause is decided from the state of the seat's best link: the step of a loss timer's expiry that follows the
departure (R78). -/
def lossDecided (s : State) (i : SeatId) : State :=
  match s.seats[i].bestLink with
  | some l =>
    match s.links[l].state with
    | .up | .disabled => s.loseToSignal i
    | .down | .silent | .broken => s.loseToLink i l
  | none => s.loseToSignal i

theorem run_lossDecided (h : e → LossFree s i) : Run e q s (lossDecided s i) := by
  unfold lossDecided
  split
  · split
    · exact run_loseToSignal h
    · exact run_loseToSignal h
    · exact run_loseToLink i _
    · exact run_loseToLink i _
    · exact run_loseToLink i _
  · exact run_loseToSignal h

theorem run_captureDuration (i : SeatId) : Run e q s (s.captureDuration i) :=
  .detail _ fun _ => .signalLoss ((s.signal[i].lossStart).getD 0) (some (s.clock - (s.signal[i].lossStart).getD 0))

theorem run_endLoss (i : SeatId) : Run e q s (s.endLoss i) := by
  unfold State.endLoss
  dsimp only
  refine Run.trans ?_ (run_modSignal i _)
  split
  · exact (run_captureDuration i).trans (.endCondition _)
  · exact run_setAttributed _ _
  · exact .refl s

/-- A seat whose loss is a link's has SIGNAL_LOSS not RAISED (R78). -/
def AttributedFree (s : State) (l : LinkId) (i : SeatId) : Prop := s.signal[i].cause = .link l → LossFree s i

theorem run_convertSeat (h : e → AttributedFree s l i) : Run e q s (State.convertSeat l s i) :=
  .ite (fun cause => (run_modSignal i _).trans (run_loseToSignal fun he => h he cause)) fun _ => .refl s

/-- A seat's conversion leaves every other seat's loss. -/
theorem attributedFree_convertSeat {j : SeatId} (ne : j ≠ i) (h : AttributedFree s l j) :
    AttributedFree (State.convertSeat l s i) l j := by
  unfold State.convertSeat
  split
  next =>
    intro cause
    rw [loseToSignal_signal, modSignal_signal, get_set_ne _ ne, get_set_ne _ ne] at cause
    have grades := (setsGrade_loseToSignal (s.modSignal i fun g => { g with grace := none }) i).2 (.seat j .signalLoss)
      fun same => ne (Source.seat.inj same).1
    exact (isRaised_of_grade grades).trans (h cause)
  next => exact h

theorem run_convertEach {is : List SeatId} (nd : is.Nodup) (h : e → ∀ i ∈ is, AttributedFree s l i) :
    Run e q s (is.foldl (State.convertSeat l) s) := by
  induction is generalizing s with
  | nil => exact .refl s
  | cons i is ih =>
    obtain ⟨fresh, nd⟩ := List.nodup_cons.1 nd
    refine (run_convertSeat fun he => h he i List.mem_cons_self).trans (ih nd fun he j hj => ?_)
    exact attributedFree_convertSeat (fun same => fresh (same ▸ hj)) (h he j (List.mem_cons_of_mem _ hj))

theorem run_convertSeats (h : e → ∀ i, AttributedFree s l i) : Run e q s (s.convertSeats l) :=
  (run_convertEach (List.nodup_finRange 192) fun he i _ => h he i).trans (run_setAttributed l _)

theorem run_graceExpires (h : e → ∀ l, AttributedFree s l i) : Run e q s (s.graceExpires i) := by
  unfold State.graceExpires
  split
  · dsimp only
    split
    next l cause =>
      refine ((run_modSignal i _).trans (run_setAttributed l _)).trans (run_loseToSignal fun he => ?_)
      exact (isRaised_of_grade (keepsGrades_refresh _ _)).trans (h he l cause)
    next => exact run_modSignal i _
    next => exact run_modSignal i _
  · exact .refl s

/-! ## Mute and Floor Supervisor -/

theorem run_derive (i : SeatId) : Run e q s (s.derive i) :=
  .ite (fun _ => .refl s) fun _ => (run_modMute i _).trans (.requestSync i)

theorem run_dropFloorMuted (i : SeatId) : Run e q s (s.dropFloorMuted i) := (run_endOrCancel _).trans (run_modMute i _)

theorem run_dropOpenNoFloor (i : SeatId) : Run e q s (s.dropOpenNoFloor i) := (run_endOrCancel _).trans (run_modMute i _)

theorem run_raiseOpenNoFloor (h : e → (s.slot (.seat i .openNoFloor)).isRaised = false) (a : AudioState) :
    Run e q s (s.raiseOpenNoFloor i a) :=
  .ite (fun _ => ((Run.raise _ _ _ h).trans (run_modMute i _)).trans (run_dropFloorMuted i)) fun _ => .raise _ _ _ h

theorem run_countToggle (i : SeatId) : Run e q s (s.countToggle i) := by
  unfold State.countToggle
  dsimp only
  refine .ite (fun _ => ?_) fun _ => run_modMute i _
  split
  next clear => exact (Run.slot _ _ rfl fun _ => by rw [clear]; rfl).after (run_modMute i _)
  next => exact run_modMute i _

theorem run_voiceFrame (i : SeatId) (a : AudioState) : Run e q s (s.voiceFrame i a) := by
  unfold State.voiceFrame
  dsimp only
  split
  next h => exact .ite (fun _ => (Run.slot _ _ rfl fun _ => by rw [h]; rfl).trans (run_modMute i _)) fun _ => .refl s
  next h => exact .ite (fun _ => .refl s) fun _ => (Run.slot _ _ rfl fun _ => by rw [h]; rfl).trans (run_modMute i _)
  next => exact .ite (fun _ => run_modMute i _) fun _ => .refl s

theorem run_openFrame (i : SeatId) (a : AudioState) : Run e q s (s.openFrame i a) := by
  unfold State.openFrame
  dsimp only
  split
  next h =>
    refine .ite (fun _ => .ite (fun _ => ?_) fun _ => run_raiseOpenNoFloor (fun _ => by rw [h]; rfl) a) fun _ => .refl s
    exact (Run.slot _ _ rfl fun _ => by rw [h]; rfl).trans (run_modMute i _)
  next => exact .ite (fun _ => run_dropOpenNoFloor i) fun _ => .refl s
  next => exact .ite (fun _ => run_dropOpenNoFloor i) fun _ => .refl s

theorem run_floorFrame (i : SeatId) (a : AudioState) : Run e q s (s.floorFrame i a) := by
  unfold State.floorFrame
  dsimp only
  split
  next h => exact .ite (fun _ => (Run.slot _ _ rfl fun _ => by rw [h]; rfl).trans (run_modMute i _)) fun _ => .refl s
  next => exact .ite (fun _ => run_dropFloorMuted i) fun _ => .refl s
  next => exact .ite (fun _ => run_dropFloorMuted i) fun _ => .refl s

theorem run_chatterTest (i : SeatId) (a : AudioState) : Run e q s (s.chatterTest i a) :=
  .ite (fun both => .raise _ _ _ fun _ => by rw [← Bool.not_eq_true']; exact both.2) fun _ => .refl s

theorem run_supervisorReads (i : SeatId) (f : SeatFrame) (c : FrameClass) : Run e q s (s.supervisorReads i f c) := by
  have frame (t : State) : Run e q t (((t.voiceFrame i f.audio).openFrame i f.audio).floorFrame i f.audio) :=
    ((run_voiceFrame i _).trans (run_openFrame i _)).trans (run_floorFrame i _)
  unfold State.supervisorReads
  dsimp only
  refine .ite (fun _ => ?_) fun _ => ?_
  · exact (Run.trans (.ite (fun _ => run_countToggle i) fun _ => .refl s) (frame _)).trans (run_chatterTest i _)
  · exact Run.trans (.ite (fun _ => run_countToggle i) fun _ => .refl s) (frame _)

theorem run_voiceQualifyExpires (h : e → s.mute[i].voiceQualify.isSome = true →
    (s.slot (.seat i .voiceInMute)).isRaised = false) : Run e q s (s.voiceQualifyExpires i) := by
  unfold State.voiceQualifyExpires
  split
  next running =>
    exact ((run_modMute i _).trans (.raise _ _ _ fun he => h he (by rw [running]; rfl))).trans (run_derive i)
  next => exact .refl s

theorem run_voiceEndExpires (i : SeatId) : Run e q s (s.voiceEndExpires i) := by
  unfold State.voiceEndExpires
  split
  · exact ((run_modMute i _).trans (.endCondition _)).trans (run_derive i)
  · exact .refl s

theorem run_openGraceExpires (h : e → s.mute[i].openGrace.isSome = true →
    (s.slot (.seat i .openNoFloor)).isRaised = false) : Run e q s (s.openGraceExpires i) := by
  unfold State.openGraceExpires
  split
  next running =>
    refine ((run_modMute i _).trans (run_raiseOpenNoFloor (fun he => ?_) _)).trans (run_derive i)
    exact h he (by rw [running]; rfl)
  next => exact .refl s

theorem run_floorMutedQualifyExpires (h : e → s.mute[i].floorMutedQualify.isSome = true →
    (s.slot (.seat i .floorMuted)).isRaised = false) : Run e q s (s.floorMutedQualifyExpires i) := by
  unfold State.floorMutedQualifyExpires
  split
  next running =>
    exact ((run_modMute i _).trans (.raise _ _ _ fun he => h he (by rw [running]; rfl))).trans (run_derive i)
  next => exact .refl s

theorem run_chatterWindowExpires (i : SeatId) : Run e q s (s.chatterWindowExpires i) := by
  unfold State.chatterWindowExpires
  dsimp only
  split
  · exact .ite (fun _ => run_modMute i _) fun _ => (run_endOrCancel _).trans (run_modMute i _)
  · exact .refl s

theorem run_giveFloor (i : SeatId) : Run e q s (s.giveFloor i) := .frame (frame_giveFloor i) (by decide)

theorem run_takeFloor (i : SeatId) : Run e q s (s.takeFloor i) := .frame (frame_takeFloor i) (by decide)

theorem run_escalateFrom (src : Source) (low high : Severity) : Run e q s (s.escalateFrom src low high) :=
  .ite (fun _ => .escalate _ _) fun _ => .refl s

theorem run_grantFloor (i : SeatId) : Run e q s (s.grantFloor i) := by
  unfold State.grantFloor
  dsimp only
  refine (run_derive i).after ((run_dropOpenNoFloor i).after ((run_escalateFrom _ _ _).after ?_))
  exact .ite (fun _ => (run_escalateFrom _ _ _).after (run_giveFloor i)) fun _ => run_giveFloor i

theorem run_revokeFloor (i : SeatId) : Run e q s (s.revokeFloor i) :=
  ((run_takeFloor i).trans (run_dropFloorMuted i)).trans (run_derive i)

theorem run_holdConsole (i : SeatId) : Run e q s (s.holdConsole i) :=
  ((run_modMute i _).trans (run_dropFloorMuted i)).trans (run_derive i)

theorem run_freeHold (i : SeatId) : Run e q s (s.freeHold i) := (run_modMute i _).trans (run_derive i)

theorem run_swapSeat (i : SeatId) (level : Nat) : Run e q s (s.swapSeat i level) :=
  ((run_modBattery i _).trans (run_endBattery i)).trans (run_derive i)

/-! ## Seat Table -/

theorem run_attendDesks : Run e q s s.attendDesks := .attend _ fun p off => by rw [off]; rfl

theorem run_strangerFrame (f : Settled) : Run e q s (s.strangerFrame f) := by
  unfold State.strangerFrame
  dsimp only
  refine .ite (fun _ => .frame (frame_setStrangers _) (by decide)) fun _ => ?_
  exact (Run.frame (frame_setStrangers _) (by decide)).trans run_attendDesks

theorem run_departKinds (ks : List SeatKind) (i : SeatId) :
    Run e q s (ks.foldl (fun t k => t.endOrCancel (.seat i k)) s) :=
  Run.foldl (f := fun t k => t.endOrCancel (.seat i k)) (fun _ _ => run_endOrCancel _) ks s

/-- The departure steps but the last one. -/
def departing (s : State) (i : SeatId) : State :=
  ((((departingKinds.foldl (fun t k => t.endOrCancel (.seat i k)) (s.modSignal i fun g => { g with lossTimer := none })).modMute
    i Mute.stopTimers).modSignal i fun g => { g with weakStreak := 0 }).clearQuiet i)

theorem depart_eq (s : State) (i : SeatId) : s.depart i = (departing s i).dropSyncsOwed i := rfl

theorem run_departing (i : SeatId) : Run e q s (departing s i) :=
  ((((run_modSignal i _).trans (run_departKinds _ i)).trans (run_modMute i _)).trans (run_modSignal i _)).trans (.clearQuiet i)

/-- The endings of a departure leave other conditions their grades. -/
theorem grade_departKinds {o : Source} (ks : List SeatKind) (ne : ∀ k ∈ ks, o ≠ .seat i k) :
    grade ((ks.foldl (fun t k => t.endOrCancel (.seat i k)) s).slot o) = grade (s.slot o) := by
  induction ks generalizing s with
  | nil => rfl
  | cons k ks ih =>
    rw [List.foldl_cons, ih fun k hk => ne k (List.mem_cons_of_mem _ hk)]
    exact (setsGrade_endOrCancel s (.seat i k)).2 o (ne k List.mem_cons_self)

/-- The endings with what a departure does to the seat's sections and quiet flag. -/
theorem grade_departWith {o : Source} (ks : List SeatKind) (ne : ∀ k ∈ ks, o ≠ .seat i k) (f : Mute → Mute)
    (g : Signal → Signal) : grade (((((ks.foldl (fun t k => t.endOrCancel (.seat i k)) s).modMute i f).modSignal i
      g).clearQuiet i).slot o) = grade (s.slot o) := by
  have ended := grade_departKinds (s := s) ks ne
  generalize ks.foldl (fun t k => t.endOrCancel (.seat i k)) s = u at ended ⊢
  exact (keepsGrades_clearQuiet i o).trans ended

theorem keepsGrades_dropSyncsOwed (i : SeatId) : KeepsGrades s (s.dropSyncsOwed i) :=
  keepsGrades_of_frame (frame_dropSyncsOwed i) (by decide)

theorem grade_depart {o : Source} (ne : ∀ k ∈ departingKinds, o ≠ .seat i k) :
    grade ((s.depart i).slot o) = grade (s.slot o) := by
  rw [depart_eq, keepsGrades_dropSyncsOwed i o]
  exact grade_departWith (s := s.modSignal i fun g => { g with lossTimer := none }) departingKinds ne Mute.stopTimers _

theorem run_depart (i : SeatId) : Run e q s (s.depart i) := (run_departing i).trans (run_dropSyncsOwed i)

theorem dropSyncsOwed_none (h : QueueSound s) (i : SeatId) : ∀ st, QEntry.sync i st ∉ (s.dropSyncsOwed i).queue :=
  dropSyncs_none h i

/-- A seat that has departed holds no SYNC (R137). -/
theorem depart_none (h : QueueSound s) (i : SeatId) : ∀ st, QEntry.sync i st ∉ (s.depart i).queue :=
  dropSyncsOwed_none ((run_departing (e := True) (q := True) i).queueSound trivial h) i

/-- A seat changes its state to ACTIVE, or while it holds no SYNC. -/
theorem run_setSeatState (x : SeatState) (h : x = .active ∨ (q → ∀ st, QEntry.sync i st ∉ s.queue)) :
    Run e q s (s.setSeatState i x) := .seat i _ (h.imp id .inr)

theorem run_departIfActive (i : SeatId) : Run e q s (s.departIfActive i) := .ite (fun _ => run_depart i) fun _ => .refl s

theorem departIfActive_none (h : QueueSound s) (i : SeatId) : ∀ st, QEntry.sync i st ∉ (s.departIfActive i).queue := by
  unfold State.departIfActive
  split
  next => exact depart_none h i
  next inactive => exact (h.2 i).2.2 inactive

theorem run_endLossIfLost (i : SeatId) : Run e q s (s.endLossIfLost i) := .ite (fun _ => run_endLoss i) fun _ => .refl s

theorem run_acceptFields (i : SeatId) (f : SeatFrame) : Run e q s (s.acceptFields i f) := .seat i _ (.inr (.inl rfl))

theorem run_takeAudio (i : SeatId) (f : SeatFrame) : Run e q s (s.takeAudio i f) := .seat i _ (.inr (.inl rfl))

theorem run_forgetConfirmed (i : SeatId) : Run e q s (s.forgetConfirmed i) := run_modSync i _

theorem run_startLossTimer (i : SeatId) : Run e q s (s.startLossTimer i) := run_modSignal i _

/-- The seat as it is refused, before FORMAT_REFUSED is raised (R17). -/
def refusing (s : State) (i : SeatId) : State :=
  ((((s.departIfActive i).dropSyncsOwed i).forgetConfirmed i).setSeatState i .refused).clearQuiet i

theorem run_refuse (hq : q → QueueSound s) (i : SeatId) (f : SeatFrame) : Run e q s (s.refuse i f) := by
  unfold State.refuse
  dsimp only
  have departed : Run e q s (s.departIfActive i) := run_departIfActive i
  have none (h : q) : ∀ st, QEntry.sync i st ∉ (((s.departIfActive i).dropSyncsOwed i).forgetConfirmed i).queue :=
    dropSyncsOwed_none (departed.queueSound h (hq h)) i
  have refused : Run e q s (refusing s i) := (Run.clearQuiet i).after ((run_setSeatState .refused (.inr none)).after
    ((run_forgetConfirmed i).after ((run_dropSyncsOwed i).after departed)))
  refine .ite (fun _ => refused) fun idle => (Run.raise _ _ _ fun _ => ?_).after refused
  rw [← Bool.not_eq_true]
  exact idle

/-- The seat as an appearance inside the format window leaves it, but for the loss timer (R18). -/
def appearing (s : State) (i : SeatId) (f : SeatFrame) : State :=
  (((((((if f.target = .standby then s.departIfActive i else s).setSeatState i f.target).modSignal i fun g =>
    { g with history := [], weakStreak := 0, strength := some (10 * f.strength) }).dropSyncsOwed i).forgetConfirmed
      i).endCondition (.seat i .formatRefused)).clearQuiet i)

theorem run_appear (hq : q → QueueSound s) (i : SeatId) (f : SeatFrame) : Run e q s (s.appear i f) := by
  have stated : Run e q s ((if f.target = .standby then s.departIfActive i else s).setSeatState i f.target) := by
    split
    next => exact (run_departIfActive i).trans (run_setSeatState _ (.inr fun h => departIfActive_none (hq h) i))
    next other =>
      refine run_setSeatState _ (.inl ?_)
      unfold SeatFrame.target at other ⊢
      split at other
      · exact absurd rfl other
      · exact if_neg ‹_›
  unfold State.appear
  dsimp only
  have known : Run e q s (appearing s i f) := (Run.clearQuiet i).after ((Run.endCondition _).after
    ((run_forgetConfirmed i).after ((run_dropSyncsOwed i).after ((run_modSignal i _).after stated))))
  exact .ite (fun _ => (run_startLossTimer i).after known) fun _ => known

theorem run_normalFrame (hq : q → QueueSound s) (i : SeatId) (f : SeatFrame) : Run e q s (s.normalFrame i f) := by
  unfold State.normalFrame
  split
  next =>
    refine .ite (fun _ => (run_depart i).trans (run_setSeatState _ (.inr fun h => depart_none (hq h) i))) fun _ => ?_
    exact run_modSignal i _
  next =>
    refine .ite (fun _ => .refl s) fun _ => ?_
    exact ((run_setSeatState _ (.inl rfl)).trans (run_modSignal i _)).trans (run_modSync i _)
  next lost =>
    refine .ite (fun _ => run_setSeatState _ (.inr fun h => ((hq h).2 i).2.2 (by rw [lost]; decide))) fun _ => ?_
    exact (run_setSeatState _ (.inl rfl)).trans (run_modSignal i _)
  all_goals exact .refl s

theorem run_seatStep (hq : q → QueueSound s) (i : SeatId) (f : SeatFrame) (c : FrameClass) :
    Run e q s (s.seatStep i f c) := by
  have ended : Run e q s (s.endLossIfLost i) := run_endLossIfLost i
  have sound : q → QueueSound (s.endLossIfLost i) := fun h => ended.queueSound h (hq h)
  refine ended.trans (.ite (fun _ => .ite (fun _ => ?_) fun _ => ?_) fun _ => ?_)
  · exact run_appear sound i f
  · exact run_refuse sound i f
  · exact run_normalFrame sound i f

theorem run_evaluators (i : SeatId) (f : SeatFrame) (c : FrameClass) : Run e q s (s.evaluators i f c) := by
  unfold State.evaluators
  split
  · exact ((run_gaugeReads i f c).trans (run_monitorReads i f c)).trans (run_supervisorReads i f c)
  · exact run_gaugeReads i f c
  all_goals exact .refl s

theorem run_indicator (i : SeatId) : Run e q s (s.indicator i) :=
  .ite (fun _ => (run_derive i).trans (.requestSync i)) fun _ => run_derive i

theorem run_accept (hq : q → QueueSound s) (i : SeatId) (f : SeatFrame) (c : FrameClass) : Run e q s (s.accept i f c) := by
  have read : Run e q s (if c.isAppearance then s.acceptFields i f else (s.acceptFields i f).readEcho i f.echo) :=
    .ite (fun _ => run_acceptFields i f) fun _ => (run_acceptFields i f).trans (run_readEcho i _)
  exact (((read.trans (run_seatStep (fun h => read.queueSound h (hq h)) i f c)).trans (run_evaluators i f c)).trans
    (run_takeAudio i f)).trans (run_indicator i)

theorem run_seatFrame (hq : q → QueueSound s) (i : SeatId) (f : SeatFrame) : Run e q s (s.seatFrame i f) := by
  unfold State.seatFrame
  dsimp only
  split
  · exact .refl s
  · exact .refl s
  · exact .refl s
  · exact run_accept hq i f _
  · exact run_accept hq i f _

theorem run_settledFrame (hq : q → QueueSound s) (f : Settled) : Run e q s (s.settledFrame f) := by
  unfold State.settledFrame
  refine .ite (fun _ => .refl s) fun _ => ?_
  split
  · exact run_seatFrame hq _ _
  · exact run_strangerFrame f

theorem run_lossTimerExpires (hq : q → QueueSound s) (h : e → s.signal[i].lossTimer.isSome = true → LossFree s i) :
    Run e q s (s.lossTimerExpires i) := by
  unfold State.lossTimerExpires
  split
  next running =>
    have stamped : Run e q s (s.modSignal i fun g => { g with lossStart := some s.clock }) := run_modSignal i _
    have none (h : q) := depart_none (stamped.queueSound h (hq h)) i
    have free (he : e) : LossFree ((s.modSignal i fun g => { g with lossStart := some s.clock }).depart i) i :=
      (isRaised_of_grade (grade_depart fun k hk same => by
        rw [(Source.seat.inj same).2.symm] at hk
        exact absurd hk (by decide))).trans (h he (by rw [running]; rfl))
    refine (stamped.trans (run_depart i)).trans ?_
    dsimp only
    generalize (s.modSignal i fun g => { g with lossStart := some s.clock }).depart i = u at none free
    show Run e q u ((lossDecided (u.setSeatState i .lost) i).derive i)
    exact (run_derive i).after ((run_lossDecided (s := u.setSeatState i .lost) free).after
      (run_setSeatState .lost (.inr none)))
  next => exact .refl s

theorem run_bindSeat (hq : q → QueueSound s) (free : s.bound i = false) (r : RadioId) : Run e q s (s.bindSeat i r) := by
  refine (Run.seat i (fun x => { x with radio := some r, state := .awaiting }) (.inr (.inr fun h => (hq h |>.2 i).2.2 ?_))).trans
    (.frame (frame_setStrangers _) (by decide))
  have vacant : s.seats[i].state = .vacant := by
    by_contra other
    rw [(PowerAndRestart.bound_iff s i).2 other] at free
    cases free
  rw [vacant]
  decide

theorem run_releaseAttribution (i : SeatId) : Run e q s (s.releaseAttribution i) := by
  unfold State.releaseAttribution
  split
  · exact run_setAttributed _ _
  all_goals exact .refl s

/-- UNBIND before the seat's record is emptied (R6). -/
def unbinding (s : State) (i : SeatId) : State :=
  (((((clearSeatSlots s i).removeSeatEntries i).releaseAttribution i).modSignal i fun g =>
    { g with lossTimer := none, grace := none, cause := .none }).releaseFloor i).modMute i fun _ => Mute.fresh

theorem unbindSeat_eq (s : State) (i : SeatId) :
    s.unbindSeat i = ((unbinding s i).dropSyncs i).freshSeat i SeatRec.vacant := rfl

theorem run_unbinding (i : SeatId) : Run e q s (unbinding s i) :=
  ((((Run.clearSeat i).trans (run_releaseAttribution i)).trans (run_modSignal i _)).trans
    (.frame (frame_releaseFloor i) (by decide))).trans (run_modMute i _)

theorem run_unbindSeat (hq : q → QueueSound s) (i : SeatId) : Run e q s (s.unbindSeat i) := by
  rw [unbindSeat_eq]
  refine ((run_unbinding i).trans (run_dropSyncs i)).trans ?_
  refine (((Run.seat i (fun _ => SeatRec.vacant) (.inr (.inr fun h => ?_))).trans (run_modBattery i _)).trans
    (run_modSignal i _)).trans ((run_modMute i _).trans (run_modSync i _))
  exact dropSyncs_none ((run_unbinding (e := e) (q := q) i).queueSound h (hq h)) i

/-! ## Merge Unit -/

theorem run_settle (hq : q → QueueSound s) (o : OpenFrame) : Run e q s (s.settle o) := by
  have taken : Run e q s { s with openFrames := s.openFrames.filter fun x => x.key != o.key } :=
    .frame (frame_setOpenFrames _) (by decide)
  exact taken.trans (run_settledFrame (fun h => taken.queueSound h (hq h)) _)

theorem run_testComplete (hq : q → QueueSound s) (k : FrameKey) : Run e q s (s.testComplete k) := by
  unfold State.testComplete
  split
  · exact .ite (fun _ => run_settle hq _) fun _ => .refl s
  · exact .refl s

theorem run_forceOldest (hq : q → QueueSound s) : Run e q s s.forceOldest := by
  unfold State.forceOldest
  split
  · exact .ite (fun _ => run_settle hq _) fun _ => .refl s
  · exact .refl s

theorem run_copyArrives (hq : q → QueueSound s) (m : MicPayload) (l : LinkId) (x : Int) :
    Run e q s (s.copyArrives m l x) := by
  unfold State.copyArrives
  dsimp only
  split
  next =>
    have joined : Run e q s { s with openFrames := s.openFrames.map fun (o : OpenFrame) =>
        if o.key = (MicPayload.key m) then o.join l x else o } := .frame (frame_setOpenFrames _) (by decide)
    exact joined.trans (run_testComplete (fun h => joined.queueSound h (hq h)) _)
  next =>
    have forced : Run e q s s.forceOldest := run_forceOldest hq
    have opened : Run e q s { s.forceOldest with
        openFrames := s.forceOldest.openFrames ++ [newOpenFrame m l x s.forceOldest.params.mergeWindow] } :=
      forced.trans (.frame (frame_setOpenFrames _) (by decide))
    exact opened.trans (run_testComplete (fun h => opened.queueSound h (hq h)) _)

theorem run_windowExpires (hq : q → QueueSound s) (k : FrameKey) : Run e q s (s.windowExpires k) := by
  unfold State.windowExpires
  split
  · exact run_settle hq _
  · exact .refl s

/-! ## Antenna links -/

theorem run_endLinkCondition (l : LinkId) : Run e q s (s.endLinkCondition l) := (run_refresh _).trans (.endCondition _)

theorem run_goodFrame (l : LinkId) : Run e q s (s.goodFrame l) :=
  .ite (fun _ => run_modLink l _) fun _ =>
    ((run_modLink l _).trans (run_endLinkCondition l)).trans (.frame (frame_startGraces l) (by decide))

/-- RECEIVER_LINK of the link is not RAISED. -/
def LinkFree (s : State) (l : LinkId) : Prop := (s.slot (.link l)).isRaised = false

theorem run_raiseLinkCondition (h : e → LinkFree s l) : Run e q s (s.raiseLinkCondition l) :=
  .ite (fun _ => (Run.raise _ _ _ h).trans (run_escalateLink l)) fun _ => .raise _ _ _ h

theorem run_silenceExpires (h : e → s.links[l].silence.isSome = true → LinkFree s l) : Run e q s (s.silenceExpires l) := by
  unfold State.silenceExpires
  split
  next running => exact (run_modLink l _).trans (run_raiseLinkCondition fun he => h he (by rw [running]; rfl))
  next => exact .refl s

theorem run_detectBreak (h : e → s.links[l].state = .up → LinkFree s l) : Run e q s (s.detectBreak l) :=
  .ite (fun up => (run_modLink l _).trans (run_raiseLinkCondition fun he => h he up)) fun _ =>
    (run_modLink l _).trans (run_refresh _)

theorem run_endBreak (l : LinkId) : Run e q s (s.endBreak l) := by
  unfold State.endBreak
  dsimp only
  split
  · exact (run_refresh (.link l)).after ((run_modLink l _).after (run_modLink l _))
  · exact run_modLink l _

theorem attributedFree_endLinkCondition {m : LinkId} (h : AttributedFree s l i) :
    AttributedFree (s.endLinkCondition m) l i := by
  intro cause
  rw [frame_endLinkCondition m .signal (by decide)] at cause
  have grades := grade_endCondition_ne (s := s.refresh (.link m)) (src := .link m) (o := .seat i .signalLoss) nofun
  exact (isRaised_of_grade grades).trans ((isRaised_of_grade (keepsGrades_refresh _ _)).trans (h cause))

theorem run_disableLink (h : e → ∀ i, AttributedFree s l i) : Run e q s (s.disableLink l) := by
  unfold State.disableLink
  refine (run_modLink l _).after (Run.after (run_convertSeats fun he i => ?_)
    ((run_endLinkCondition l).after (run_modLink l _)))
  exact attributedFree_endLinkCondition (h he i)

theorem run_writeEnable (h : e → ∀ i, AttributedFree s l i) (on : Bool) : Run e q s (s.writeEnable l on) := by
  unfold State.writeEnable
  split
  · exact run_disableLink h
  · exact run_modLink l _
  · exact .refl s

end Sys2Proof.Machine.Runs
end

section
/-! PROOFS. Every request, and every command but power-on, a restart and a reminder's expiry, is a chain of single operations
(Runs). -/

namespace Sys2Proof.Machine.Runs

open Sys2Proof Sys2Proof.Machine Sys2Proof.Machine.Laws Sys2Proof.Machine.SlotGrades Sys2Proof.Machine.QueueOps
open Sys2Proof.Machine.EventFrames Sys2Proof.Machine.PowerAndRestart

variable {e q : Prop} {s t u : State} {i : SeatId} {l : LinkId} {p : PortId} {src : Source}

/-! ## Seat ranges -/

theorem run_overSeats {rule : State → SeatId → SeatAnswer} (h : ∀ s i, Run e q s (rule s i).after) (seats : List SeatId) :
    Run e q s (s.overSeats rule seats).2 := by
  unfold State.overSeats
  suffices H : ∀ acc : Nat × State, Run e q acc.2
      (seats.foldl (fun acc i => let a := rule acc.2 i; (acc.1 + flag a.changed, a.after)) acc).2 from H (0, s)
  induction seats with
  | nil => exact fun acc => .refl acc.2
  | cons i seats ih =>
    intro acc
    rw [List.foldl_cons]
    exact (h acc.2 i).trans (ih (acc.1 + flag (rule acc.2 i).changed, (rule acc.2 i).after))

/-- A request on a seat or a range leaves the state, acts on the range, or acts on one seat. -/
theorem seatOrRange_cases {motive : State → Prop} (s : State) (rule : State → SeatId → SeatAnswer) (ts : TagState) (n : Nat)
    (stays : motive s) (range : ∀ is, motive (s.overSeats rule is).2) (seat : ∀ i, motive (rule s i).after) :
    motive (s.seatOrRange rule ts n).2 := by
  unfold State.seatOrRange
  split
  · split
    · exact range _
    · exact stays
    · exact stays
  · split
    · dsimp only
      split
      · exact seat _
      · exact stays
    · exact stays

theorem run_seatOrRange {rule : State → SeatId → SeatAnswer} (h : ∀ s i, Run e q s (rule s i).after) (ts : TagState)
    (n : Nat) : Run e q s (s.seatOrRange rule ts n).2 :=
  seatOrRange_cases (motive := Run e q s) s rule ts n (.refl s) (fun is => run_overSeats h is) (h s)

theorem run_withOutputs {x : Reply × State} (h : Run e q s x.2) : Run e q s (withOutputs x).2 := by
  unfold withOutputs
  split
  · exact h.trans run_evalOutputs
  · exact h

theorem withOutputs_done (result : List Byte) (t : State) :
    withOutputs (.done result, t) = (.done result, t.evalOutputs) := rfl

theorem run_quietRule (i : SeatId) : Run e q s (s.quietRule i).after := by
  unfold State.quietRule
  split
  · split
    · exact .refl s
    · exact .setQuiet i
  all_goals exact .refl s

theorem run_unquietRule (i : SeatId) : Run e q s (s.unquietRule i).after := by
  unfold State.unquietRule
  split
  · exact .clearQuiet i
  · exact .refl s

theorem run_holdRule (i : SeatId) : Run e q s (s.holdRule i).after := by
  unfold State.holdRule
  split
  · split
    · exact run_holdConsole i
    · exact run_holdConsole i
    · exact .refl s
  · exact .refl s

theorem run_freeRule (i : SeatId) : Run e q s (s.freeRule i).after := by
  unfold State.freeRule
  split
  · split
    · exact .refl s
    · exact run_freeHold i
    · exact run_freeHold i
  · exact .refl s

theorem run_swapRule (i : SeatId) : Run e q s (s.swapRule i).after := by
  unfold State.swapRule
  split
  · split
    · exact run_swapSeat i _
    · exact .refl s
  · exact .refl s

theorem run_revokeRule (i : SeatId) : Run e q s (s.revokeRule i).after := by
  unfold State.revokeRule
  split
  · split
    · exact run_revokeFloor i
    · exact .refl s
  · exact .refl s

/-! ## Requests -/

theorem run_grantRequest (n : Nat) : Run e q s (s.grantRequest n).2 := by
  unfold State.grantRequest
  split
  · split
    · exact .refl s
    · split
      · exact .refl s
      · split
        · exact .refl s
        · rw [withOutputs_done]
          exact (run_grantFloor _).trans run_evalOutputs
  · exact .refl s

theorem run_bindRequest (hq : q → QueueSound s) (n : Nat) (r : RadioId) : Run e q s (s.bindRequest n r).2 := by
  unfold State.bindRequest
  split
  · split
    · exact .refl s
    · split
      · exact .refl s
      next free =>
        split
        · exact .refl s
        · exact run_bindSeat hq (Bool.not_eq_true _ ▸ free) r
  · exact .refl s

theorem run_unbindRequest (hq : q → QueueSound s) (n : Nat) : Run e q s (s.unbindRequest n).2 := by
  unfold State.unbindRequest
  split
  · split
    · rw [withOutputs_done]
      exact (run_unbindSeat hq _).trans run_evalOutputs
    · exact .refl s
  · exact .refl s

theorem run_acknowledgeInTurn (p : PortId) (scopes : List (Entry → Bool)) :
    Run e q s (s.acknowledgeInTurn p scopes).2 := by
  have acked : (fun x : Entry => if scopes.any fun scope => scope x then { x with acks := x.acks.set p true } else x) =
      fun x => { x with acks := if scopes.any fun scope => scope x then x.acks.set p true else x.acks } := by
    funext x
    split <;> rfl
  unfold State.acknowledgeInTurn
  dsimp only
  rw [acked]
  exact run_evalOutputs.after ((run_removalTests _).after (.acks _))

theorem run_ackRequest (p : PortId) (ts : TagState) (scope : Byte) (v : Nat) : Run e q s (s.ackRequest p ts scope v).2 := by
  unfold State.ackRequest State.ackTag State.ackSeat
  repeat' split
  all_goals first | exact .refl s | exact run_acknowledgeInTurn p _

theorem run_storeView (p : PortId) (v : View) : Run e q s (s.storeView p v) := by
  unfold State.storeView
  dsimp only
  refine run_evalOutputs.after ((run_removalTests _).after (Run.after (.attend _ fun r off => ?_) (.port _ fun _ => rfl)))
  refine Bool.and_eq_false_imp.2 fun same => List.any_eq_false.2 fun x _ => ?_
  rw [beq_iff_eq] at same
  subst same
  rw [show State.dueUnacked _ r x = false by unfold State.dueUnacked State.due; rw [dueTo_off off]; rfl]
  exact Bool.false_ne_true

theorem run_setViewRequest (p : PortId) (n b l : Nat) (v : Byte) (k : BitVec 16) :
    Run e q s (s.setViewRequest p n b l v k).2 := by
  unfold State.setViewRequest
  repeat' split
  all_goals first | exact .refl s | exact run_storeView _ _

theorem run_storeParam (h : e → ∀ l i, AttributedFree s l i) (x : Param) (v : Int) : Run e q s (s.storeParam x v) := by
  unfold State.storeParam
  split
  · exact run_writeEnable (fun he i => h he _ i) _
  · exact run_modLink _ _
  · exact .frame (W := [.params]) (fun b hb => by cases b <;> first | exact absurd (by decide) hb | rfl) (by decide)

theorem run_setParamRequest (h : e → ∀ l i, AttributedFree s l i) (n : Nat) (v : Int) :
    Run e q s (s.setParamRequest n v).2 := by
  unfold State.setParamRequest
  split
  · exact (run_storeParam h _ _).trans run_evalOutputs
  · exact .refl s

theorem run_markRequest (on : s.ports[p].role ≠ .off) : Run e q s (s.markRequest p).2 := by
  unfold State.markRequest
  split
  next => exact .refl s
  next room =>
    split
    next => exact .refl s
    next few => exact .placeMarker p on (Nat.not_le.1 room) (Nat.not_le.1 few)

theorem run_setRemindRequest (on : s.ports[p].role ≠ .off) (n : Nat) : Run e q s (s.setRemindRequest p n).2 := by
  unfold State.setRemindRequest
  dsimp only
  refine Run.after (.reminder p _ ?_) (.reminder p _ on)
  exact on

theorem run_setTag (g : TagState) : Run e q s (s.setTag p g) := .port _ fun _ => rfl

theorem run_tagFirst (n : Nat) : Run e q s (s.tagFirst p n).2 := by
  unfold State.tagFirst
  split
  · exact run_setTag _
  · exact .refl s

theorem run_tagLast (ts : TagState) (n : Nat) : Run e q s (s.tagLast p ts n).2 := by
  unfold State.tagLast
  repeat' split
  all_goals first | exact .refl s | exact run_setTag _

theorem run_setMaskRequest (b : Byte) : Run e q s (s.setMaskRequest p b).2 := by
  unfold State.setMaskRequest
  split
  · dsimp only
    exact .port _ fun _ => rfl
  · split
    · dsimp only
      exact .port _ fun _ => rfl
    · exact .refl s

/-- A request's action is a chain. -/
theorem run_perform (h : e → ∀ l i, AttributedFree s l i) (hq : q → QueueSound s) (on : s.ports[p].role ≠ .off)
    (ts : TagState) (args : List Byte) (r : Request) : Run e q s (s.perform p ts args r).2 := by
  have silent {W : List Block} {t : State} (same : ChangesOnly W s t) (hW : W = []) : Run e q s t :=
    .frame same (by rw [hW]; decide)
  cases r with
  | summary => exact .clearAttention p
  | readRoster => exact silent (frame_readRosterRequest _ _ _) rfl
  | readSeat => exact silent (frame_readSeatRequest _) rfl
  | readLink => exact silent (frame_readLinkRequest _) rfl
  | readStrangers => exact .refl s
  | readParam => exact silent (frame_readParamRequest _) rfl
  | ack => exact run_ackRequest _ _ _ _
  | setView => exact run_setViewRequest _ _ _ _ _ _
  | setRemind => exact run_setRemindRequest on _
  | setMask => exact run_setMaskRequest _
  | clearOverflow => exact .clearOverflow p
  | mark => exact run_markRequest on
  | tagFirst => exact run_tagFirst _
  | tagLast => exact run_tagLast _ _
  | quiet => exact run_seatOrRange (fun _ => run_quietRule) _ _
  | unquiet => exact run_withOutputs (run_seatOrRange (fun _ => run_unquietRule) _ _)
  | hold => exact run_withOutputs (run_seatOrRange (fun _ => run_holdRule) _ _)
  | free => exact run_seatOrRange (fun _ => run_freeRule) _ _
  | swap => exact run_withOutputs (run_seatOrRange (fun _ => run_swapRule) _ _)
  | grant => exact run_grantRequest _
  | revoke => exact run_withOutputs (run_seatOrRange (fun _ => run_revokeRule) _ _)
  | revokeAll => exact run_withOutputs (run_overSeats (fun _ => run_revokeRule) _)
  | bind => exact run_bindRequest hq _ _
  | unbind => exact run_unbindRequest hq _
  | setParam => exact run_setParamRequest h _ _
  | setLamp => exact .frame (frame_setLampRequest _) (by decide)
  | restart => exact .refl s

/-! ## Console ports -/

theorem run_respond (code : Byte) (r : Reply) : Run e q s (s.respond p code r) := .port _ fun _ => rfl

/-- A request that passes the checks of R150 comes from a port that is not OFF. -/
theorem role_ne_off_of_precheck {r : Request} {args : List Byte} (h : s.precheck p r args = none) :
    s.ports[p].role ≠ .off := by
  unfold State.precheck at h
  split at h
  · cases h
  · split at h
    · cases h
    next permitted =>
      refine role_ne_off_of_permits (r := r) ?_
      simpa using permitted

theorem run_takeRequest (h : e → ∀ l i, AttributedFree s l i) (hq : q → QueueSound s) (r : Request) (args : List Byte) :
    Run e q s (s.takeRequest p r args) := by
  unfold State.takeRequest
  dsimp only
  split
  · exact (run_respond _ _).after (run_setTag _)
  next ok =>
    have tagged : Run e q s (s.setTag p .none) := run_setTag _
    have on : (s.setTag p .none).ports[p].role ≠ .off := by
      rw [setTag_role]
      exact role_ne_off_of_precheck ok
    exact (run_respond _ _).after ((run_perform (s := s.setTag p .none) (fun he l i => h he l i)
      (fun h => tagged.queueSound h (hq h)) on _ _ r).after tagged)

theorem run_take (h : e → ∀ l i, AttributedFree s l i) (hq : q → QueueSound s) (a : Arrival) : Run e q s (s.take p a) := by
  unfold State.take
  split
  · exact run_respond _ _
  · split
    · exact run_takeRequest h hq _ _
    · unfold State.takeUnknown
      exact (run_respond _ _).after (run_setTag _)

theorem run_arrive (h : e → ∀ l i, AttributedFree s l i) (hq : q → QueueSound s) (a : Arrival) :
    Run e q s (s.arrive p a) := by
  unfold State.arrive
  dsimp only
  split
  · exact .refl s
  · split
    · exact run_take h hq a
    · split
      · exact .port _ fun _ => rfl
      · exact .port _ fun _ => rfl

theorem run_dropResponse : Run e q s (s.dropResponse p) := .port _ fun _ => rfl

/-- A response that begins no restart is over. -/
theorem run_responseEnds (h : e → ∀ l i, AttributedFree s l i) (hq : q → QueueSound s)
    (ordinary : s.ports[p].restarting = false) : Run e q s (s.responseEnds p) := by
  unfold State.responseEnds
  rw [ordinary]
  split
  · contradiction
  · split
    · unfold State.takeWaiting
      split
      · have emptied : Run e q s ((s.dropResponse p).modPort p fun q => { q with waiting := none }) :=
          Run.after (.port _ fun _ => rfl) run_dropResponse
        exact (run_take (s := (s.dropResponse p).modPort p fun q => { q with waiting := none })
          (fun he l i => h he l i) (fun h => emptied.queueSound h (hq h)) _).after emptied
      · exact run_dropResponse
    · exact .refl s

/-- What a port break resets before a restart that may follow (R146). -/
def broken (s : State) (p : PortId) : State :=
  ((s.modPort p PortRec.reset).clearAttention p).dropMarkers p s.queue.length

theorem run_broken : Run e q s (broken s p) :=
  (run_dropMarkers p _).after (Run.after (.clearAttention p) (.port _ fun _ => rfl))

theorem portBreaks_eq (s : State) (p : PortId) : s.portBreaks p =
    if s.ports[p].deaf then s else if s.ports[p].restarting then (broken s p).beginRestart else broken s p := rfl

theorem run_portBreakEnds : Run e q s (s.portBreakEnds p) := .ite (fun _ => .port _ fun _ => rfl) fun _ => .refl s

theorem run_consoleTimeout (h : e → ∀ l i, AttributedFree s l i) (hq : q → QueueSound s) : Run e q s (s.consoleTimeout p) := by
  unfold State.consoleTimeout
  split
  · exact .refl s
  · have hunting : Run e q s (s.modPort p fun q => { q with rx := .hunting }) := .port _ fun _ => rfl
    exact (run_arrive (s := s.modPort p fun q => { q with rx := .hunting }) (fun he l i => h he l i)
      (fun h => hunting.queueSound h (hq h)) _).after hunting

/-! ## Commands -/

theorem run_event {c : Prop} [Decidable c] (h : c → Run e q s t) : Run e q s (if c then t.evalOutputs else s) :=
  .ite (fun hc => (h hc).trans run_evalOutputs) fun _ => .refl s

theorem attributedFree_of (h : ConditionsMatch s) (l : LinkId) (i : SeatId) : AttributedFree s l i := by
  intro cause
  obtain ⟨-, -, -, -, raised, -⟩ := h.1 i
  by_contra contra
  obtain ⟨-, signal⟩ := raised (Bool.not_eq_false _ ▸ contra)
  rw [cause] at signal
  cases signal

theorem linkFree_of_up (h : ConditionsMatch s) (up : s.links[l].state = .up) : LinkFree s l := (h.2 l).2.1 up

theorem linkFree_of_silence (h : ConditionsMatch s) (running : s.links[l].silence.isSome = true) : LinkFree s l :=
  linkFree_of_up h ((h.2 l).1 running)

/-- While the loss timer runs SIGNAL_LOSS is not RAISED (R80). -/
theorem lossFree_of_timer (h : ConditionsMatch s) (running : s.signal[i].lossTimer.isSome = true) : LossFree s i := by
  obtain ⟨-, -, -, active, raised, -⟩ := h.1 i
  by_contra contra
  have lost := (raised (Bool.not_eq_false _ ▸ contra)).1
  rw [active running] at lost
  cases lost

theorem not_isRaised_of_qualifying {x : Slot} (h : x = .qualifying) : x.isRaised = false := by rw [h]; rfl

/-- The commands that are no chain: power-on, a restart, a reminder's expiry. -/
inductive Special (s : State) : State → Prop
  | powerOn (straps : Vector Strap 4) : Special s (s.powerOn straps)
  | restarts {u : State} (h : Run True True s u) (h' : Run False False s u) : Special s u.beginRestart
  | reminder (p : PortId) (h : s.reminders[p].timer.isSome = true) : Special s (s.reminderExpires p)

/-- A command is a chain, or one of the three kinds that are none. -/
theorem run_exec (c : Instr) (s : State) (h : e → ConditionsMatch s) (hq : q → QueueSound s) :
    ∃ t, exec c s = .next t ∧ (Special s t ∨ Run e q s t) := by
  have free : e → ∀ l i, AttributedFree s l i := fun he => attributedFree_of (h he)
  induction c using command_cases with
  | request r p args => exact ⟨_, exec_row r p args s, .inr (run_arrive free hq _)⟩
  | powerOn straps => exact ⟨_, rfl, .inl (.powerOn straps)⟩
  | initialisationComplete => exact ⟨_, rfl, .inr (.frame frame_becomeReady (by decide))⟩
  | chamberClockTick => exact ⟨_, rfl, .inr (.frame frame_tick (by decide))⟩
  | restartBegin p =>
    refine ⟨_, rfl, ?_⟩
    unfold State.restartBegins
    split
    · exact .inl (.restarts run_dropResponse run_dropResponse)
    · exact .inr (.refl s)
  | copy l payload raw =>
    refine ⟨_, rfl, .inr (run_event fun _ => ?_)⟩
    have good : Run e q s (s.goodFrame l) := run_goodFrame l
    exact good.trans (run_copyArrives (fun h => good.queueSound h (hq h)) _ _ _)
  | status l identity =>
    exact ⟨_, rfl, .inr (run_event fun _ => (run_modLink l _).after (run_goodFrame l))⟩
  | uplinkBadFrame l => exact ⟨_, rfl, .inr (.ite (fun _ => run_modLink l _) fun _ => .refl s)⟩
  | uplinkInterByteTimeout l => exact ⟨_, rfl, .inr (.ite (fun _ => run_modLink l _) fun _ => .refl s)⟩
  | breakDetected l => exact ⟨_, rfl, .inr (run_event fun _ => run_detectBreak fun he up => linkFree_of_up (h he) up)⟩
  | breakEnd l => exact ⟨_, rfl, .inr (run_endBreak l)⟩
  | silenceTimerExpiry l =>
    exact ⟨_, rfl, .inr (run_event fun _ => run_silenceExpires fun he on => linkFree_of_silence (h he) on)⟩
  | downlinkSlot l => exact ⟨_, rfl, .inr (run_slotExpires l)⟩
  | mergeWindowExpiry key => exact ⟨_, rfl, .inr (run_event fun _ => run_windowExpires hq key)⟩
  | orderFrameEnd l => exact ⟨_, rfl, .inr (run_modLink l _)⟩
  | strangerAgingExpiry radio => exact ⟨_, rfl, .inr (.frame (frame_setStrangers _) (by decide))⟩
  | lossTimerExpiry i =>
    exact ⟨_, rfl, .inr (run_event fun _ => run_lossTimerExpires hq fun he on => lossFree_of_timer (h he) on)⟩
  | recoveryGraceExpiry i =>
    exact ⟨_, rfl, .inr (run_event fun _ => run_graceExpires fun he l => free he l i)⟩
  | voiceQualifyExpiry i =>
    exact ⟨_, rfl, .inr (run_event fun _ => run_voiceQualifyExpires fun he on =>
      not_isRaised_of_qualifying (((h he).1 i).1 on).1)⟩
  | voiceEndExpiry i => exact ⟨_, rfl, .inr (run_event fun _ => run_voiceEndExpires i)⟩
  | openGraceExpiry i =>
    exact ⟨_, rfl, .inr (run_event fun _ => run_openGraceExpires fun he on =>
      not_isRaised_of_qualifying (((h he).1 i).2.1 on).1)⟩
  | floorMutedQualifyExpiry i =>
    exact ⟨_, rfl, .inr (run_event fun _ => run_floorMutedQualifyExpires fun he on =>
      not_isRaised_of_qualifying (((h he).1 i).2.2.1 on).1)⟩
  | chatterWindowExpiry i => exact ⟨_, rfl, .inr (run_event fun _ => run_chatterWindowExpires i)⟩
  | syncWindowExpiry i => exact ⟨_, rfl, .inr (run_syncWindowExpires i)⟩
  | reminderTimerExpiry p =>
    refine ⟨_, rfl, ?_⟩
    split
    next on => exact .inl (.reminder p on)
    next => exact .inr (.refl s)
  | lampOnTimeEnd m => exact ⟨_, rfl, .inr (.frame (frame_modLamp m _) (by decide))⟩
  | lampPeriodEnd m => exact ⟨_, rfl, .inr (.frame (frame_modLamp m _) (by decide))⟩
  | consoleInterByteTimeout p => exact ⟨_, rfl, .inr (run_consoleTimeout free hq)⟩
  | frameError p code => exact ⟨_, rfl, .inr (run_arrive free hq _)⟩
  | arrivalWaiting p a => exact ⟨_, rfl, .inr (run_arrive free hq a)⟩
  | unknownRequest p code args => exact ⟨_, rfl, .inr (run_arrive free hq _)⟩
  | responseEnd p =>
    refine ⟨_, rfl, ?_⟩
    cases restarting : s.ports[p].restarting with
    | true =>
      rw [show s.responseEnds p = (s.dropResponse p).beginRestart by unfold State.responseEnds; rw [restarting]; rfl]
      exact .inl (.restarts run_dropResponse run_dropResponse)
    | false => exact .inr (run_responseEnds free hq restarting)
  | portBreak p =>
    refine ⟨_, rfl, ?_⟩
    rw [portBreaks_eq]
    split
    · exact .inr (.refl s)
    · split
      · exact .inl (.restarts run_broken run_broken)
      · exact .inr run_broken
  | portBreakEnd p => exact ⟨_, rfl, .inr run_portBreakEnds⟩

/-! ## Line events -/

theorem run_post (c : Instr) : Run e q s (s.post c) :=
  .frame (W := [.pending]) (fun b hb => by cases b <;> first | exact absurd (by decide) hb | rfl) (by decide)

theorem run_linkEvent (x : LineEvent) : Run e q s (s.linkEvent l x) := by
  unfold State.linkEvent
  split
  · refine .ite (fun _ => ?_) fun _ => .refl s
    unfold State.linkByte
    split
    · exact run_modLink l _
    · exact (run_post _).after (run_modLink l _)
    · exact (run_post _).after (run_modLink l _)
  · refine .ite (fun _ => ?_) fun _ => .refl s
    exact .ite (fun _ => .refl s) fun _ => (run_post _).after (run_modLink l _)
  · exact run_modLink l _
  · exact .ite (fun _ => run_post _) fun _ => run_modLink l _

theorem run_postArrival (a : Arrival) : Run e q s (s.postArrival p a) := by
  unfold State.postArrival
  exact (run_post _).after (.port _ fun _ => rfl)

theorem run_portEvent (x : LineEvent) : Run e q s (s.portEvent p x) := by
  unfold State.portEvent
  split
  · refine .ite (fun _ => .refl s) fun _ => ?_
    unfold State.portByte
    split
    · exact .port _ fun _ => rfl
    · exact run_postArrival _
    · exact run_postArrival _
  · refine .ite (fun _ => .refl s) fun _ => ?_
    exact .ite (fun _ => .refl s) fun _ => run_postArrival _
  · exact .port _ fun _ => rfl
  · exact .ite (fun _ => run_post _) fun _ => .port _ fun _ => rfl

theorem run_receive (x : LineInput) : Run e q s (s.receive x) := by
  cases x with
  | uplink l x => exact run_linkEvent x
  | console p x => exact run_portEvent x

/-! ## Steps -/

/-- A command or line event leaves its list. -/
def taking (s : State) (cs : List Instr) (xs : List LineInput) : State := { s with pending := cs, rxInput := xs }

theorem aside_taking (cs : List Instr) (xs : List LineInput) : Aside s (taking s cs xs) :=
  ⟨rfl, rfl, rfl, rfl, fun _ => rfl, fun _ => rfl⟩

/-- A step is a command, a line event, or nothing. -/
theorem step_cases {motive : State → Prop} (h : step s = .next t)
    (command : ∀ c rest, exec c (taking s rest s.rxInput) = .next t → motive t)
    (line : ∀ x rest, motive ((taking s s.pending rest).receive x)) (idle : motive s) : motive t := by
  cases hp : s.pending with
  | cons c rest => exact command c rest (SimpleCommands.step_of_pending hp ▸ h)
  | nil =>
    cases hr : s.rxInput with
    | cons x rest =>
      rw [SimpleCommands.step_of_line hp hr] at h
      cases h
      exact line x rest
    | nil =>
      rw [SimpleCommands.step_idle hp hr] at h
      cases h
      exact idle

/-- What a step keeps: what chains keep, power-on and restarts establish, and a reminder's expiry keeps. -/
theorem step_keeps {P : State → Prop} (next : step s = .next t) (start : P s)
    (h : ∀ cs xs, e → ConditionsMatch (taking s cs xs)) (hq : ∀ cs xs, q → QueueSound (taking s cs xs))
    (run : ∀ {s t}, Run e q s t → P s → P t)
    (special : ∀ {u v}, Aside s u → Special u v → P u → P v) : P t := by
  have taken (cs : List Instr) (xs : List LineInput) : P (taking s cs xs) := run (.aside (aside_taking cs xs)) start
  refine step_cases next (fun c rest heq => ?_) (fun x rest => ?_) start
  · obtain ⟨u, hu, kind⟩ := run_exec (e := e) (q := q) c (taking s rest s.rxInput) (h _ _) (hq _ _)
    rw [hu] at heq
    cases heq
    rcases kind with kind | kind
    · exact special (aside_taking _ _) kind (taken _ _)
    · exact run kind (taken _ _)
  · exact run (run_receive x) (taken _ _)

end Sys2Proof.Machine.Runs
end

section
/-! PROOFS. What every step keeps: the roster in order with distinct tags, and markers behind and the queue sound. Chains keep
both (Runs); power-on and a restart begin with an empty roster and an empty queue. -/

namespace Sys2Proof.Machine.Invariants

open Sys2Proof Sys2Proof.Machine Sys2Proof.Machine.Laws Sys2Proof.Machine.RosterSoundness
open Sys2Proof.Machine.QueueOps Sys2Proof.Machine.EventFrames Sys2Proof.Machine.PowerAndRestart Sys2Proof.Machine.Runs

variable {s t u v : State} {p : PortId}

/-! ## Roster -/

theorem rosterSound_initial (h : t.alerts = Alerts.initial) : RosterSound t := by
  rw [rosterSound_iff, h]
  exact ⟨by decide, .nil, by decide, nofun, .nil, .nil, nofun, by decide, by decide⟩

theorem rosterSound_special (h : Special u v) (sound : RosterSound u) : RosterSound v := by
  cases h with
  | powerOn straps => exact rosterSound_initial rfl
  | restarts _ _ => exact rosterSound_initial rfl
  | reminder p _ => exact rosterSound_of_tables rfl rfl rfl sound

/-- Settles O58: every chain keeps the roster sound. -/
theorem stepKeepsRoster : Obligations.StepKeepsRoster := fun _ _ sound next =>
  step_keeps (e := False) (q := False) next sound (fun _ _ => False.elim) (fun _ _ => False.elim)
    (fun run => run.rosterSound) fun _ => rosterSound_special

/-! ## Queue -/

theorem headed_special (h : Special u v) (headed : Headed u.queue) : Headed v.queue := by
  cases h with
  | powerOn straps => exact headed_nil
  | restarts _ _ => exact headed_nil
  | reminder p _ => exact headed

theorem queueSound_of_empty (h : t.queue = []) : QueueSound t := by
  refine ⟨fun p => ?_, fun i => ⟨?_, ?_, fun _ st => ?_⟩⟩ <;> rw [h]
  · exact Nat.zero_le 2
  · exact Nat.zero_le 1
  · exact Nat.zero_le 1
  · exact List.not_mem_nil

theorem queueSound_special (h : Special u v) (sound : QueueSound u) : QueueSound v := by
  cases h with
  | powerOn straps => exact queueSound_of_empty rfl
  | restarts _ _ => exact queueSound_of_empty rfl
  | reminder p _ => exact queueSound_iff_of rfl (fun _ => rfl) sound

/-- Settles O59: chains keep a marker from standing first, and the queue sound. -/
theorem stepKeepsMarkersBehind : Obligations.StepKeepsMarkersBehind := by
  refine ⟨fun s t headed next => ?_, fun s t sound next => ?_⟩
  · exact step_keeps (e := False) (q := False) (P := MarkerNeverFirst) next headed (fun _ _ => False.elim)
      (fun _ _ => False.elim) (fun run => run.headed) fun _ => headed_special
  · exact step_keeps (e := False) (q := True) next sound (fun _ _ => False.elim)
      (fun cs xs _ => queueSound_iff_of (q := s) rfl (fun _ => rfl) sound) (fun run => run.queueSound trivial)
      fun _ => queueSound_special

/-! ## The queue of OFF ports -/

theorem offQuiet_of_fresh (alerts : t.alerts = Alerts.initial) (attention : t.attention = noPorts) (queue : t.queue = [])
    (reminders : ∀ p : PortId, t.reminders[p].timer = none) : OffQuiet t := by
  refine ⟨fun p _ => ⟨?_, ?_⟩, fun p _ => ⟨reminders p, fun n => ?_⟩⟩
  · rw [attention]; exact get_replicate _ p
  · rw [alerts]; exact get_replicate _ p
  · rw [queue]; exact List.not_mem_nil

theorem offQuiet_special (h : Special u v) (quiet : OffQuiet u) : OffQuiet v := by
  cases h with
  | powerOn straps => exact offQuiet_of_fresh rfl rfl rfl fun p => congrArg Reminder.timer (get_replicate _ p)
  | @restarts w _ _ =>
    refine offQuiet_of_fresh rfl rfl rfl fun p => ?_
    rw [beginRestart_reminder]
    exact (evaluate_false _).2.1
  | reminder p running =>
    have on : u.ports[p].role ≠ .off := fun off => by
      rw [(quiet.2 p off).1] at running
      cases running
    have attended : Run False False u (u.attend fun q => q == p) := .attend _ fun q off =>
      beq_eq_false_iff_ne.2 fun same => on (same ▸ off)
    exact ((Run.reminder (s := u.attend fun q => q == p) p Reminder.expire on).after attended).offQuiet quiet

end Sys2Proof.Machine.Invariants
end

section
/-! PROOFS. What commands and line events do to the console ports, and that OFF ports stay silent. -/

namespace Sys2Proof.Machine.Invariants

open Sys2Proof Sys2Proof.Machine Sys2Proof.Machine.Laws Sys2Proof.Machine.SimpleCommands Sys2Proof.Machine.EventFrames
open Sys2Proof.Machine.PowerAndRestart Sys2Proof.Machine.Runs

variable {s t u : State} {p : PortId}

/-! ## Line events -/

/-- What a line event may do to the ports: to write what their receive lines hold. -/
def LinesOnly (v w : Vector PortRec 4) : Prop :=
  ∀ q : PortId, ∃ (a : Assembly) (h : Bool) (b : Timer), w[q] = { v[q] with rx := a, lineActive := h, breakTimer := b }

theorem linesOnly_refl (v : Vector PortRec 4) : LinesOnly v v := fun q => ⟨v[q].rx, v[q].lineActive, v[q].breakTimer, rfl⟩

theorem linesOnly_of_ports (h : t.ports = s.ports) : LinesOnly s.ports t.ports := by
  rw [h]; exact linesOnly_refl _

theorem linesOnly_modPort {f : PortRec → PortRec}
    (hf : ∀ r, ∃ (a : Assembly) (h : Bool) (b : Timer), f r = { r with rx := a, lineActive := h, breakTimer := b })
    (s : State) (p : PortId) : LinesOnly s.ports (s.modPort p f).ports := by
  intro q
  rw [modPort_ports]
  by_cases same : q = p
  · rw [same, get_set_self]; exact hf _
  · rw [get_set_ne _ same]; exact linesOnly_refl _ q

theorem linesOnly_setPortRx (s : State) (p : PortId) (a : Assembly) : LinesOnly s.ports (s.setPortRx p a).ports :=
  linesOnly_modPort (f := fun q => { q with rx := a }) (fun r => ⟨a, r.lineActive, r.breakTimer, rfl⟩) s p

theorem receive_ports (x : LineInput) : LinesOnly s.ports (s.receive x).ports := by
  cases x with
  | uplink l x =>
    refine linesOnly_of_ports ?_
    cases x with
    | byte b =>
      show (if s.linkHears l then s.linkByte l b else s).ports = _
      split
      · unfold State.linkByte
        split <;> rfl
      · rfl
    | framingError b =>
      show (if s.linkHears l then s.linkFramingError l else s).ports = _
      split
      · unfold State.linkFramingError
        split <;> rfl
      · rfl
    | active => rfl
    | idle =>
      show (s.linkIdle l).ports = _
      unfold State.linkIdle
      split <;> rfl
  | console p x =>
    cases x with
    | byte b =>
      show LinesOnly _ (if s.ports[p].deaf then s else s.portByte p b).ports
      split
      · exact linesOnly_refl _
      · unfold State.portByte
        split <;> exact linesOnly_setPortRx s p _
    | framingError b =>
      show LinesOnly _ (if s.ports[p].deaf then s else s.portFramingError p).ports
      split
      · exact linesOnly_refl _
      · unfold State.portFramingError
        split
        · exact linesOnly_refl _
        · exact linesOnly_setPortRx s p _
    | active => exact linesOnly_modPort (fun r => ⟨r.rx, true, if r.deaf then none else some Config.portBreakMs, rfl⟩) s p
    | idle =>
      show LinesOnly _ (s.portIdle p).ports
      unfold State.portIdle
      split
      · exact linesOnly_refl _
      · exact linesOnly_modPort (f := fun q => { q with lineActive := false, breakTimer := none })
          (fun r => ⟨r.rx, false, none, rfl⟩) s p

/-- A line event changes ports, links and the pending commands at most. -/
theorem frame_receive (x : LineInput) : ChangesOnly [.links, .ports, .pending] s (s.receive x) := by
  have rx (l : LinkId) (a : Assembly) (c : Instr) : ChangesOnly [.links, .ports, .pending] s ((s.setLinkRx l a).post c) := by
    intro b h; cases b <;> first | rfl | exact absurd (by decide) h
  have link (l : LinkId) (f : LinkRec → LinkRec) : ChangesOnly [.links, .ports, .pending] s (s.modLink l f) :=
    frame_mono (frame_modLink l f) (by decide)
  have port (p : PortId) (f : PortRec → PortRec) : ChangesOnly [.links, .ports, .pending] s (s.modPort p f) :=
    frame_mono (frame_modPort p f) (by decide)
  have post (c : Instr) : ChangesOnly [.links, .ports, .pending] s (s.post c) := by
    intro b h; cases b <;> first | rfl | exact absurd (by decide) h
  have arrival (p : PortId) (a : Arrival) : ChangesOnly [.links, .ports, .pending] s (s.postArrival p a) := by
    intro b h; cases b <;> first | rfl | exact absurd (by decide) h
  cases x with
  | uplink l x =>
    cases x with
    | byte b =>
      refine frame_ite ?_ frame_refl
      unfold State.linkByte
      split
      · exact link l _
      · exact rx l _ _
      · exact rx l _ _
    | framingError b => exact frame_ite (frame_ite frame_refl (rx l _ _)) frame_refl
    | active => exact link l _
    | idle => exact frame_ite (post _) (link l _)
  | console p x =>
    cases x with
    | byte b =>
      refine frame_ite frame_refl ?_
      unfold State.portByte
      split
      · exact port p _
      · exact arrival p _
      · exact arrival p _
    | framingError b => exact frame_ite frame_refl (frame_ite frame_refl (arrival p _))
    | active => exact port p _
    | idle => exact frame_ite (post _) (port p _)

/-! ## Commands -/

/-- The commands that act on the ports. -/
inductive PortCommand (s : State) : State → Prop
  | powerOn (straps : Vector Strap 4) : PortCommand s (s.powerOn straps)
  | restartBegin (p : PortId) : PortCommand s (s.restartBegins p)
  | arrival (p : PortId) (a : Arrival) : PortCommand s (s.arrive p a)
  | timeout (p : PortId) : PortCommand s (s.consoleTimeout p)
  | responseEnd (p : PortId) : PortCommand s (s.responseEnds p)
  | portBreak (p : PortId) : PortCommand s (s.portBreaks p)
  | portBreakEnd (p : PortId) : PortCommand s (s.portBreakEnds p)

/-- A command acts on the ports, or leaves them as they are. -/
theorem exec_ports (c : Instr) (s : State) : ∃ t, exec c s = .next t ∧ (PortCommand s t ∨ t.ports = s.ports) := by
  have kept {W : List Block} {t : State} (h : ChangesOnly W s t) (hW : Block.ports ∉ W) :
      PortCommand s t ∨ t.ports = s.ports := .inr (h .ports hW)
  have event {W : List Block} {t : State} {c : Prop} [Decidable c] (h : ChangesOnly W s t) (hW : Block.ports ∉ W) :
      PortCommand s (if c then t.evalOutputs else s) ∨ (if c then t.evalOutputs else s).ports = s.ports := by
    split
    · exact .inr ((frame_evalOutputs (s := t) .ports (by decide)).trans (h .ports hW))
    · exact .inr rfl
  induction c using command_cases with
  | request r p args => exact ⟨_, exec_row r p args s, .inl (.arrival p _)⟩
  | powerOn straps => exact ⟨_, rfl, .inl (.powerOn straps)⟩
  | initialisationComplete => exact ⟨_, rfl, kept frame_becomeReady (by decide)⟩
  | chamberClockTick => exact ⟨_, rfl, kept frame_tick (by decide)⟩
  | restartBegin p => exact ⟨_, rfl, .inl (.restartBegin p)⟩
  | copy l payload raw => exact ⟨_, rfl, event (frame_copyFrame l payload raw) (by decide)⟩
  | status l identity => exact ⟨_, rfl, event (frame_statusFrame l identity) (by decide)⟩
  | uplinkBadFrame l => exact ⟨_, rfl, kept (frame_ite (frame_modLink l _) frame_refl) (by decide)⟩
  | uplinkInterByteTimeout l => exact ⟨_, rfl, kept (frame_ite (frame_modLink l _) frame_refl) (by decide)⟩
  | breakDetected l => exact ⟨_, rfl, event (frame_detectBreak l) (by decide)⟩
  | breakEnd l => exact ⟨_, rfl, kept (frame_endBreak l) (by decide)⟩
  | silenceTimerExpiry l => exact ⟨_, rfl, event (frame_silenceExpires l) (by decide)⟩
  | downlinkSlot l => exact ⟨_, rfl, kept (frame_slotExpires l) (by decide)⟩
  | mergeWindowExpiry key => exact ⟨_, rfl, event (frame_windowExpires key) (by decide)⟩
  | orderFrameEnd l => exact ⟨_, rfl, kept (frame_modLink l _) (by decide)⟩
  | strangerAgingExpiry radio => exact ⟨_, rfl, kept (frame_setStrangers _) (by decide)⟩
  | lossTimerExpiry i => exact ⟨_, rfl, event (frame_lossTimerExpires i) (by decide)⟩
  | recoveryGraceExpiry i => exact ⟨_, rfl, event (frame_graceExpires i) (by decide)⟩
  | voiceQualifyExpiry i => exact ⟨_, rfl, event (frame_voiceQualifyExpires i) (by decide)⟩
  | voiceEndExpiry i => exact ⟨_, rfl, event (frame_voiceEndExpires i) (by decide)⟩
  | openGraceExpiry i => exact ⟨_, rfl, event (frame_openGraceExpires i) (by decide)⟩
  | floorMutedQualifyExpiry i => exact ⟨_, rfl, event (frame_floorMutedQualifyExpires i) (by decide)⟩
  | chatterWindowExpiry i => exact ⟨_, rfl, event (frame_chatterWindowExpires i) (by decide)⟩
  | syncWindowExpiry i => exact ⟨_, rfl, kept (frame_syncWindowExpires i) (by decide)⟩
  | reminderTimerExpiry p => exact ⟨_, rfl, kept (frame_ite frame_reminderExpires frame_refl) (by decide)⟩
  | lampOnTimeEnd m => exact ⟨_, rfl, kept (frame_modLamp m _) (by decide)⟩
  | lampPeriodEnd m => exact ⟨_, rfl, kept (frame_modLamp m _) (by decide)⟩
  | consoleInterByteTimeout p => exact ⟨_, rfl, .inl (.timeout p)⟩
  | frameError p code => exact ⟨_, rfl, .inl (.arrival p _)⟩
  | arrivalWaiting p a => exact ⟨_, rfl, .inl (.arrival p a)⟩
  | unknownRequest p code args => exact ⟨_, rfl, .inl (.arrival p _)⟩
  | responseEnd p => exact ⟨_, rfl, .inl (.responseEnd p)⟩
  | portBreak p => exact ⟨_, rfl, .inl (.portBreak p)⟩
  | portBreakEnd p => exact ⟨_, rfl, .inl (.portBreakEnd p)⟩

/-! ## OFF ports -/

/-- An OFF port sends nothing and waits for nothing. -/
def OffIdle (v : Vector PortRec 4) : Prop :=
  ∀ p : PortId, v[p].role = .off → v[p].response = none ∧ v[p].waiting = none

theorem offIdle_of_kept {v w : Vector PortRec 4} (h : OffIdle v)
    (same : ∀ q : PortId, w[q].role = v[q].role ∧ w[q].response = v[q].response ∧ w[q].waiting = v[q].waiting) :
    OffIdle w := by
  intro q off
  obtain ⟨role, response, waiting⟩ := same q
  rw [response, waiting]
  exact h q (role ▸ off)

theorem offIdle_settingsOnly {v w : Vector PortRec 4} (h : OffIdle v) (k : SettingsOnly v w) : OffIdle w :=
  offIdle_of_kept h fun q => by
    obtain ⟨g, x, m, same⟩ := k q
    rw [same]
    exact ⟨rfl, rfl, rfl⟩

theorem offIdle_linesOnly {v w : Vector PortRec 4} (h : OffIdle v) (k : LinesOnly v w) : OffIdle w :=
  offIdle_of_kept h fun q => by
    obtain ⟨a, l, b, same⟩ := k q
    rw [same]
    exact ⟨rfl, rfl, rfl⟩

/-- A port takes another record, silent if it is OFF. -/
theorem offIdle_modPort (h : OffIdle s.ports) {f : PortRec → PortRec}
    (hf : (f s.ports[p]).role = .off → (f s.ports[p]).response = none ∧ (f s.ports[p]).waiting = none) :
    OffIdle (s.modPort p f).ports := by
  intro q off
  rw [modPort_ports] at off ⊢
  by_cases same : q = p
  · subst same
    rw [get_set_self] at off ⊢
    exact hf off
  · rw [get_set_ne _ same] at off ⊢
    exact h q off

theorem offIdle_respond (h : OffIdle s.ports) (on : s.ports[p].role ≠ .off) (code : Byte) (r : Reply) :
    OffIdle (s.respond p code r).ports := offIdle_modPort h fun off => absurd off on

theorem offIdle_take (h : OffIdle s.ports) (on : s.ports[p].role ≠ .off) (a : Arrival) : OffIdle (s.take p a).ports := by
  have tagged : OffIdle (s.setTag p .none).ports := offIdle_settingsOnly h (settingsOnly_setTag s p .none)
  have on' : (s.setTag p .none).ports[p].role ≠ .off := by rw [setTag_role]; exact on
  cases a with
  | badFrame code => exact offIdle_respond h on _ _
  | request code args =>
    show OffIdle (match requestOfCode code with
      | some r => s.takeRequest p r args
      | none => s.takeUnknown p code).ports
    split
    next r _ =>
      unfold State.takeRequest
      dsimp only
      split
      · exact offIdle_respond tagged on' _ _
      · have acted := perform_ports (s.setTag p .none) p s.ports[p].tag args r
        refine offIdle_respond (offIdle_settingsOnly tagged acted) ?_ _ _
        rw [role_of_settingsOnly acted]
        exact on'
    · exact offIdle_respond tagged on' _ _

theorem role_of_hears (h : ¬s.ports[p].deaf = true) : s.ports[p].role ≠ .off := fun off => by
  rw [PortRec.deaf, off] at h
  exact h rfl

theorem offIdle_arrive (h : OffIdle s.ports) (a : Arrival) : OffIdle (s.arrive p a).ports := by
  unfold State.arrive
  dsimp only
  split
  · exact h
  next hears =>
    have on := role_of_hears hears
    split
    · exact offIdle_take h on a
    · split
      · exact offIdle_modPort h fun off => absurd off on
      · exact offIdle_modPort h fun off => absurd off on

theorem offIdle_dropResponse (h : OffIdle s.ports) : OffIdle (s.dropResponse p).ports :=
  offIdle_modPort h fun off => ⟨rfl, (h p off).2⟩

theorem offIdle_beginRestart (h : OffIdle s.ports) : OffIdle s.beginRestart.ports := by
  intro q off
  rw [beginRestart_role] at off
  rw [beginRestart_port]
  refine ⟨?_, rfl⟩
  show s.ports[q].response.map Response.withoutRestart = none
  rw [(h q off).1]
  rfl

theorem offIdle_takeWaiting (h : OffIdle s.ports) : OffIdle (s.takeWaiting p).ports := by
  unfold State.takeWaiting
  split
  next a waits =>
    have on : s.ports[p].role ≠ .off := fun off => by
      rw [(h p off).2] at waits
      cases waits
    have emptied : OffIdle (s.modPort p fun q => { q with waiting := none }).ports :=
      offIdle_modPort h fun off => ⟨(h p off).1, rfl⟩
    refine offIdle_take emptied ?_ a
    rw [modPort_ports, get_set_self]
    exact on
  next => exact h

theorem offIdle_portCommand (h : PortCommand s t) (idle : OffIdle s.ports) : OffIdle t.ports := by
  cases h with
  | powerOn straps =>
    intro q _
    rw [AttentionLine.powerOn_port]
    exact ⟨rfl, rfl⟩
  | restartBegin p =>
    unfold State.restartBegins
    split
    · exact offIdle_beginRestart (offIdle_dropResponse idle)
    · exact idle
  | arrival p a => exact offIdle_arrive idle a
  | timeout p =>
    unfold State.consoleTimeout
    split
    · exact idle
    · exact offIdle_arrive (s := s.setPortRx p .hunting) (offIdle_linesOnly idle (linesOnly_setPortRx s p .hunting)) _
  | responseEnd p =>
    unfold State.responseEnds
    split
    · exact offIdle_beginRestart (offIdle_dropResponse idle)
    · split
      · exact offIdle_takeWaiting (offIdle_dropResponse idle)
      · exact idle
  | portBreak p =>
    rw [portBreaks_eq]
    have reset : OffIdle (broken s p).ports := by
      rw [show (broken s p).ports = (s.modPort p PortRec.reset).ports from
        frame_dropMarkers (s := (s.modPort p PortRec.reset).clearAttention p) p _ .ports (by decide)]
      exact offIdle_modPort idle fun _ => ⟨rfl, rfl⟩
    split
    · exact idle
    · split
      · exact offIdle_beginRestart reset
      · exact reset
  | portBreakEnd p =>
    unfold State.portBreakEnds
    split
    · exact offIdle_modPort idle fun off => idle p off
    · exact idle

theorem step_keeps_offIdle (idle : OffIdle s.ports) (next : step s = .next t) : OffIdle t.ports := by
  refine step_cases (motive := fun t => OffIdle t.ports) next (fun c rest heq => ?_) (fun x rest => ?_) idle
  · obtain ⟨u, hu, kind⟩ := exec_ports c (taking s rest s.rxInput)
    rw [hu] at heq
    cases heq
    rcases kind with kind | same
    · exact offIdle_portCommand kind idle
    · rw [same]
      exact idle
  · exact offIdle_linesOnly idle (receive_ports (s := taking s s.pending rest) x)

theorem offPorts_iff : OffPorts s ↔ OffIdle s.ports ∧ OffQuiet s := by
  constructor
  · intro h
    refine ⟨fun p off => ?_, fun p off => ?_, fun p off => ?_⟩ <;>
      obtain ⟨response, waiting, attention, overflow, timer, marker⟩ := h p off
    · exact ⟨response, waiting⟩
    · exact ⟨attention, overflow⟩
    · exact ⟨timer, marker⟩
  · rintro ⟨idle, marked, rest⟩ p off
    obtain ⟨response, waiting⟩ := idle p off
    obtain ⟨attention, overflow⟩ := marked p off
    obtain ⟨timer, marker⟩ := rest p off
    exact ⟨response, waiting, attention, overflow, timer, marker⟩

theorem step_keeps_offPorts (h : OffPorts s) (next : step s = .next t) : OffPorts t := by
  obtain ⟨idle, quiet⟩ := offPorts_iff.1 h
  refine offPorts_iff.2 ⟨step_keeps_offIdle idle next, ?_⟩
  exact step_keeps (e := False) (q := False) next quiet (fun _ _ => False.elim) (fun _ _ => False.elim)
    (fun run => run.offQuiet) fun _ => offQuiet_special

end Sys2Proof.Machine.Invariants
end

section
/-! PROOFS. Reminder timers run and lamps are demanded exactly as roster, views and settings say (R162, R166): the events that
change what they look at evaluate them at their close, the others leave all of it. -/

namespace Sys2Proof.Machine.Invariants

open Sys2Proof Sys2Proof.Machine Sys2Proof.Machine.Laws Sys2Proof.Machine.SimpleCommands Sys2Proof.Machine.EventFrames
open Sys2Proof.Machine.PowerAndRestart Sys2Proof.Machine.Runs Sys2Proof.Machine.ReminderStaging
open Sys2Proof.Machine.LampSetting Sys2Proof.Machine.AttentionLine

variable {s t u : State} {p : PortId} {i : SeatId} {l : LinkId}

/-! ## What reminders and lamps look at -/

/-- What reminders and lamps see of an entry. -/
def shown (e : Entry) : Source × Severity × Vector Bool 4 := (e.source, e.severity, e.acks)

/-- Nothing that reminders and lamps look at has changed. -/
structure Looks (s t : State) : Prop where
  roster : t.alerts.roster.map shown = s.alerts.roster.map shown
  ports : ∀ q : PortId, t.ports[q].role = s.ports[q].role ∧ t.ports[q].view = s.ports[q].view

/-- The port has an unacknowledged entry due whose origin, kind and severity these are. -/
def duesUnacked (s : State) (p : PortId) (x : Source × Severity × Vector Bool 4) : Bool :=
  s.dueTo p x.1 x.2.1 && !x.2.2[p]

theorem dueTo_looks (h : Looks s t) (p : PortId) (src : Source) (sev : Severity) : t.dueTo p src sev = s.dueTo p src sev := by
  obtain ⟨role, view⟩ := h.ports p
  rw [State.dueTo, State.dueTo, role, view]

theorem duesUnacked_looks (h : Looks s t) (p : PortId) : duesUnacked t p = duesUnacked s p := by
  funext x
  rw [duesUnacked, duesUnacked, dueTo_looks h]

theorem pressing_looks (h : Looks s t) (p : PortId) : pressing t p = pressing s p := by
  have seen (u : State) : pressing u p =
      (u.alerts.roster.map shown).any fun x => duesUnacked u p x && decide (2 ≤ x.2.1.num) := by
    rw [List.any_map]
    rfl
  rw [seen, seen, h.roster, duesUnacked_looks h]

/-- The entry that is seen so matches the lamp's selector. -/
def selects (s : State) (m : Lamp) (x : Source × Severity × Vector Bool 4) : Bool :=
  decide (m.lowest.num ≤ x.2.1.num) &&
    match m.scope with
    | .any => true
    | .unackedBy p => duesUnacked s p x

theorem lampDemand_looks (h : Looks s t) (m : Lamp) : t.lampDemand m = s.lampDemand m := by
  have seen (u : State) : (u.alerts.roster.any fun e => u.lampMatches m e) = (u.alerts.roster.map shown).any (selects u m) := by
    rw [List.any_map]
    rfl
  have same : selects t m = selects s m := by
    funext x
    rw [selects, selects]
    cases m.scope with
    | any => rfl
    | unackedBy p => simp only [duesUnacked_looks h]
  rw [State.lampDemand, State.lampDemand]
  cases m.mode with
  | off => rfl
  | on => rfl
  | function => simp only [seen, same, h.roster]

theorem looks_of_frame {W : List Block} (h : ChangesOnly W s t) (hW : Block.alerts ∉ W ∧ Block.ports ∉ W) : Looks s t := by
  obtain ⟨alerts, ports⟩ := hW
  exact ⟨by rw [show t.alerts = s.alerts from h .alerts alerts], fun q => by
    rw [show t.ports = s.ports from h .ports ports]
    exact ⟨rfl, rfl⟩⟩

theorem looks_modPort {f : PortRec → PortRec} (hf : ∀ r, (f r).role = r.role ∧ (f r).view = r.view) :
    Looks s (s.modPort p f) := by
  refine ⟨rfl, fun q => ?_⟩
  rw [modPort_ports]
  by_cases same : q = p
  · rw [same, get_set_self]; exact hf _
  · rw [get_set_ne _ same]; exact ⟨rfl, rfl⟩

theorem looks_mapLive (src : Source) (d : Detail) : Looks s (s.mapLive src fun x => { x with detail := d }) := by
  refine ⟨?_, fun _ => ⟨rfl, rfl⟩⟩
  show (s.alerts.roster.map _).map shown = _
  rw [List.map_map]
  refine List.map_congr_left fun x _ => ?_
  show shown (if _ then _ else _) = _
  split <;> rfl

/-! ## Evaluation at the close of an event -/

/-- A lamp that follows its demand is demanded as before it was told. -/
theorem lampDemand_follow (s : State) (m : Lamp) (clock : Stamp) (d : Bool) :
    s.lampDemand (m.follow clock d) = s.lampDemand m := by
  cases d <;> rfl

theorem demanded_follow (m : Lamp) (clock : Stamp) (d : Bool) : (m.follow clock d).demanded = d := by cases d <;> rfl

/-- An evaluation starts or stops a timer so that it runs exactly while the condition holds. -/
theorem evaluate_follows {m : Reminder} (armed : m.timer.isSome = true → m.active ≠ 0) (c : Bool) :
    (m.evaluate (m.active != 0 && c)).timer.isSome = ((m.evaluate (m.active != 0 && c)).active != 0 && c) := by
  obtain ⟨staged, active, timer⟩ := m
  cases timer with
  | none => cases h : (active != 0 && c) <;> exact h.symm
  | some n =>
    have on : (active != 0) = true := bne_iff_ne.2 (armed rfl)
    cases c with
    | true => simp only [on, Bool.and_true, Reminder.evaluate]; rfl
    | false => rw [Bool.and_false]; exact (Bool.and_false _).symm

/-- A running reminder timer has an active period. -/
def Armed (s : State) : Prop := ∀ p : PortId, s.reminders[p].timer.isSome = true → s.reminders[p].active ≠ 0

theorem armed_of_follows (h : OutputsFollow s) : Armed s := fun p running => by
  rw [h.1 p, remindCondition_eq, Bool.and_eq_true] at running
  exact bne_iff_ne.1 running.1

theorem looks_evalOutputs : Looks s s.evalOutputs := ⟨rfl, fun _ => ⟨rfl, rfl⟩⟩

theorem outputsFollow_evalOutputs (h : Armed s) : OutputsFollow s.evalOutputs := by
  refine ⟨fun p => ?_, fun m => ?_⟩
  · rw [remindCondition_eq, pressing_looks looks_evalOutputs, evalOutputs_reminder]
    exact evaluate_follows (h p) _
  · rw [lampDemand_looks looks_evalOutputs, evalOutputs_lamp, lampDemand_follow]
    exact demanded_follow _ _ _

theorem outputsFollow_evaluated (h : OutputsFollow s) (same : t.reminders = s.reminders) : OutputsFollow t.evalOutputs :=
  outputsFollow_evalOutputs fun p => by
    rw [same]
    exact armed_of_follows h p

/-- Reminders and lamps follow where neither they nor what they look at has changed. -/
theorem outputsFollow_of_looks (h : OutputsFollow s) (looks : Looks s t) (reminders : t.reminders = s.reminders)
    (lamps : t.lamps = s.lamps) : OutputsFollow t := by
  refine ⟨fun p => ?_, fun m => ?_⟩
  · rw [remindCondition_eq, pressing_looks looks, reminders]
    exact h.1 p
  · rw [lampDemand_looks looks, lamps]
    exact h.2 m

theorem outputsFollow_frame {W : List Block} (h : OutputsFollow s) (frame : ChangesOnly W s t)
    (hW : Block.alerts ∉ W ∧ Block.ports ∉ W ∧ Block.reminders ∉ W ∧ Block.lamps ∉ W) : OutputsFollow t := by
  obtain ⟨alerts, ports, reminders, lamps⟩ := hW
  exact outputsFollow_of_looks h (looks_of_frame frame ⟨alerts, ports⟩) (frame .reminders reminders) (frame .lamps lamps)

theorem outputsFollow_modPort (h : OutputsFollow s) {f : PortRec → PortRec}
    (hf : ∀ r, (f r).role = r.role ∧ (f r).view = r.view) : OutputsFollow (s.modPort p f) :=
  outputsFollow_of_looks h (looks_modPort hf) rfl rfl

/-- One lamp takes other values, and is demanded as they say. -/
theorem outputsFollow_modLamp (h : OutputsFollow s) {m : LampId} {f : Lamp → Lamp}
    (hf : (f s.lamps[m]).demanded = s.lampDemand (f s.lamps[m])) : OutputsFollow (s.modLamp m f) := by
  have looks : Looks s (s.modLamp m f) := ⟨rfl, fun _ => ⟨rfl, rfl⟩⟩
  refine ⟨h.1, fun k => ?_⟩
  rw [lampDemand_looks looks, modLamp_lamps]
  by_cases same : k = m
  · rw [same, get_set_self]; exact hf
  · rw [get_set_ne _ same]; exact h.2 k

/-- One reminder takes another record, whose timer runs as its condition says. -/
theorem outputsFollow_modReminder (h : OutputsFollow s) {f : Reminder → Reminder}
    (hf : (f s.reminders[p]).timer.isSome = ((f s.reminders[p]).active != 0 && pressing s p)) :
    OutputsFollow (s.modReminder p f) := by
  refine ⟨fun q => ?_, h.2⟩
  rw [remindCondition_eq, pressing_modReminder, modReminder_reminders]
  by_cases same : q = p
  · rw [same, get_set_self]; exact hf
  · rw [get_set_ne _ same]; exact h.1 q

/-! ## Requests -/

/-- A range keeps what the rule keeps. -/
theorem overSeats_keeps {P : State → Prop} {rule : State → SeatId → SeatAnswer} (h : ∀ s i, P s → P (rule s i).after)
    (seats : List SeatId) (hs : P s) : P (s.overSeats rule seats).2 := by
  unfold State.overSeats
  suffices H : ∀ acc : Nat × State, P acc.2 →
      P (seats.foldl (fun acc i => let a := rule acc.2 i; (acc.1 + flag a.changed, a.after)) acc).2 from H (0, s) hs
  induction seats with
  | nil => exact fun _ h => h
  | cons i seats ih => exact fun acc hacc => ih (acc.1 + flag (rule acc.2 i).changed, (rule acc.2 i).after) (h _ _ hacc)

/-- A request on a seat or a range is answered DONE, or leaves the state. -/
theorem seatOrRange_done (s : State) (rule : State → SeatId → SeatAnswer) (ts : TagState) (n : Nat) :
    (s.seatOrRange rule ts n).1.completion = .done ∨ (s.seatOrRange rule ts n).2 = s := by
  unfold State.seatOrRange
  split
  · split
    · exact .inl rfl
    · exact .inr rfl
    · exact .inr rfl
  · split
    · dsimp only
      split
      · exact .inl rfl
      · exact .inr rfl
    · exact .inr rfl

/-- A request whose outputs are evaluated where it is answered DONE, and which leaves the state elsewhere. -/
theorem outputsFollow_withOutputs (h : OutputsFollow s) {W : List Block} {x : Reply × State} (frame : ChangesOnly W s x.2)
    (hW : Block.reminders ∉ W) (done : x.1.completion = .done ∨ x.2 = s) : OutputsFollow (withOutputs x).2 := by
  unfold withOutputs
  split
  · exact outputsFollow_evaluated h (frame .reminders hW)
  next no =>
    rw [done.resolve_left no]
    exact h

theorem outputsFollow_grantRequest (h : OutputsFollow s) (n : Nat) : OutputsFollow (s.grantRequest n).2 := by
  have granted (i : SeatId) : OutputsFollow (withOutputs (.done [], s.grantFloor i)).2 := by
    rw [withOutputs_done]
    exact outputsFollow_evaluated h (frame_grantFloor i .reminders (by decide))
  unfold State.grantRequest
  split
  · split
    · exact h
    · split
      · exact h
      · split
        · exact h
        · exact granted _
  · exact h

theorem outputsFollow_unbindRequest (h : OutputsFollow s) (n : Nat) : OutputsFollow (s.unbindRequest n).2 := by
  have unbound (i : SeatId) : OutputsFollow (withOutputs (.done [], s.unbindSeat i)).2 := by
    rw [withOutputs_done]
    exact outputsFollow_evaluated h (frame_unbindSeat i .reminders (by decide))
  unfold State.unbindRequest
  split
  · split
    · exact unbound _
    · exact h
  · exact h

theorem acknowledgeInTurn_eq (s : State) (p : PortId) (scopes : List (Entry → Bool)) :
    ∃ r srcs, (s.acknowledgeInTurn p scopes).2 = ((s.setRoster r).removalTests srcs).evalOutputs := ⟨_, _, rfl⟩

theorem outputsFollow_ackRequest (h : OutputsFollow s) (p : PortId) (ts : TagState) (scope : Byte) (v : Nat) :
    OutputsFollow (s.ackRequest p ts scope v).2 := by
  have taken (scopes : List (Entry → Bool)) : OutputsFollow (s.acknowledgeInTurn p scopes).2 := by
    obtain ⟨r, srcs, same⟩ := acknowledgeInTurn_eq s p scopes
    rw [same]
    exact outputsFollow_evaluated h (frame_removalTests (s := s.setRoster r) srcs .reminders (by decide))
  unfold State.ackRequest State.ackTag State.ackSeat
  repeat' split
  all_goals first | exact h | exact taken _

theorem outputsFollow_setViewRequest (h : OutputsFollow s) (n b l : Nat) (v : Byte) (k : BitVec 16) :
    OutputsFollow (s.setViewRequest p n b l v k).2 := by
  have stored (q : PortId) (x : View) : OutputsFollow (s.storeView q x) :=
    outputsFollow_evaluated h
      (frame_removalTests (s := (s.modPort q fun r => { r with view := x }).attendNewlyDue s q) _ .reminders (by decide))
  unfold State.setViewRequest
  repeat' split
  all_goals first | exact h | exact stored _ _

theorem outputsFollow_setRemindRequest (h : OutputsFollow s) (p : PortId) (n : Nat) :
    OutputsFollow (s.setRemindRequest p n).2 := by
  have staged : (s.setRemindRequest p n).2 =
      s.modReminder p fun m => (m.stage (min n 255)).evaluate ((m.stage (min n 255)).active != 0 && pressing s p) := by
    have condition : (s.modReminder p (Reminder.stage · (min n 255))).remindCondition p =
        ((s.reminders[p].stage (min n 255)).active != 0 && pressing s p) := by
      rw [remindCondition_eq, pressing_modReminder, modReminder_reminders, get_set_self]
    simp only [State.setRemindRequest, condition]
    simp only [State.modReminder, get_set_self, set_set_self]
  rw [staged]
  refine outputsFollow_modReminder h (evaluate_follows (fun running => ?_) _)
  have armed := armed_of_follows h p
  unfold Reminder.stage at running ⊢
  split at running
  next stopped =>
    rw [stopped] at running
    cases running
  next n' on =>
    exact armed running

theorem outputsFollow_setLampRequest (h : OutputsFollow s) (args : List Byte) : OutputsFollow (s.setLampRequest args).2 := by
  unfold State.setLampRequest
  split
  · refine outputsFollow_modLamp h ?_
    rw [demanded_follow, lampDemand_follow]
  · exact h

theorem outputsFollow_setParamRequest (h : OutputsFollow s) (n : Nat) (v : Int) : OutputsFollow (s.setParamRequest n v).2 := by
  unfold State.setParamRequest
  split
  · exact outputsFollow_evaluated h (frame_storeParam _ _ .reminders (by decide))
  · exact h

theorem looks_setQuiet (s : State) (i : SeatId) : Looks s (s.setQuiet i) := ⟨rfl, fun _ => ⟨rfl, rfl⟩⟩

theorem outputsFollow_quietRule (s : State) (i : SeatId) (h : OutputsFollow s) : OutputsFollow (s.quietRule i).after := by
  unfold State.quietRule
  split
  · split
    · exact h
    · exact outputsFollow_of_looks h (looks_setQuiet s i) rfl rfl
  all_goals exact h

theorem outputsFollow_markRequest (h : OutputsFollow s) : OutputsFollow (s.markRequest p).2 :=
  outputsFollow_frame h (frame_markRequest p) (by decide)

/-- The action of a request keeps reminders and lamps as roster, views and settings say. -/
theorem outputsFollow_perform (h : OutputsFollow s) (ts : TagState) (args : List Byte) (r : Request) :
    OutputsFollow (s.perform p ts args r).2 := by
  have ranged {W : List Block} (rule : State → SeatId → SeatAnswer) (n : Nat)
      (frame : ∀ s i, ChangesOnly W s (rule s i).after) (hW : Block.reminders ∉ W) :
      OutputsFollow (withOutputs (s.seatOrRange rule ts n)).2 :=
    outputsFollow_withOutputs h (frame_seatOrRange rule ts n frame) hW (seatOrRange_done s rule ts n)
  have silent {t : State} (same : ChangesOnly [] s t) : OutputsFollow t := outputsFollow_frame h same (by decide)
  cases r with
  | summary => exact outputsFollow_frame h (frame_clearAttention p) (by decide)
  | readRoster => exact silent (frame_readRosterRequest _ _ _)
  | readSeat => exact silent (frame_readSeatRequest _)
  | readLink => exact silent (frame_readLinkRequest _)
  | readStrangers => exact h
  | readParam => exact silent (frame_readParamRequest _)
  | ack => exact outputsFollow_ackRequest h _ _ _ _
  | setView => exact outputsFollow_setViewRequest h _ _ _ _ _
  | setRemind => exact outputsFollow_setRemindRequest h _ _
  | setMask =>
    show OutputsFollow (s.setMaskRequest p _).2
    unfold State.setMaskRequest
    repeat' split
    · exact outputsFollow_modPort h fun _ => ⟨rfl, rfl⟩
    · exact outputsFollow_modPort h fun _ => ⟨rfl, rfl⟩
    · exact h
  | clearOverflow => exact outputsFollow_of_looks h ⟨rfl, fun _ => ⟨rfl, rfl⟩⟩ rfl rfl
  | mark => exact outputsFollow_markRequest h
  | tagFirst =>
    show OutputsFollow (s.tagFirst p _).2
    unfold State.tagFirst
    split
    · exact outputsFollow_modPort h fun _ => ⟨rfl, rfl⟩
    · exact h
  | tagLast =>
    show OutputsFollow (s.tagLast p ts _).2
    unfold State.tagLast
    repeat' split
    all_goals first | exact h | exact outputsFollow_modPort h fun _ => ⟨rfl, rfl⟩
  | quiet =>
    exact seatOrRange_cases (motive := OutputsFollow) s State.quietRule ts _ h
      (fun _ => overSeats_keeps outputsFollow_quietRule _ h) fun i => outputsFollow_quietRule s i h
  | unquiet => exact ranged _ _ (fun _ _ => frame_unquietRule _) (by decide)
  | hold => exact ranged _ _ (fun _ _ => frame_holdRule _) (by decide)
  | free => exact outputsFollow_frame h (frame_seatOrRange _ _ _ fun _ _ => frame_freeRule _) (by decide)
  | swap => exact ranged _ _ (fun _ _ => frame_swapRule _) (by decide)
  | grant => exact outputsFollow_grantRequest h _
  | revoke => exact ranged _ _ (fun _ _ => frame_revokeRule _) (by decide)
  | revokeAll =>
    have revoked := frame_overSeats (s := s) State.revokeRule (allSeats.filter fun i => s.mute[i].floor)
      fun _ _ => frame_revokeRule _
    exact outputsFollow_evaluated h (revoked .reminders (by decide))
  | bind => exact outputsFollow_frame h (frame_bindRequest _ _) (by decide)
  | unbind => exact outputsFollow_unbindRequest h _
  | setParam => exact outputsFollow_setParamRequest h _ _
  | setLamp => exact outputsFollow_setLampRequest h _
  | restart => exact h

/-! ## Commands -/

theorem outputsFollow_respond (h : OutputsFollow s) (code : Byte) (r : Reply) : OutputsFollow (s.respond p code r) :=
  outputsFollow_modPort h fun _ => ⟨rfl, rfl⟩

theorem outputsFollow_take (h : OutputsFollow s) (a : Arrival) : OutputsFollow (s.take p a) := by
  have tagged : OutputsFollow (s.setTag p .none) := outputsFollow_modPort h fun _ => ⟨rfl, rfl⟩
  cases a with
  | badFrame code => exact outputsFollow_respond h _ _
  | request code args =>
    unfold State.take
    dsimp only
    split
    · unfold State.takeRequest
      dsimp only
      split
      · exact outputsFollow_respond tagged _ _
      · exact outputsFollow_respond (outputsFollow_perform tagged _ _ _) _ _
    · exact outputsFollow_respond tagged _ _

theorem outputsFollow_arrive (h : OutputsFollow s) (a : Arrival) : OutputsFollow (s.arrive p a) := by
  unfold State.arrive
  dsimp only
  split
  · exact h
  · split
    · exact outputsFollow_take h a
    · split
      · exact outputsFollow_modPort h fun _ => ⟨rfl, rfl⟩
      · exact outputsFollow_modPort h fun _ => ⟨rfl, rfl⟩

theorem outputsFollow_beginRestart (h : OutputsFollow s) : OutputsFollow s.beginRestart := by
  rw [beginRestart_eq]
  exact outputsFollow_evaluated h rfl

theorem outputsFollow_dropResponse (h : OutputsFollow s) : OutputsFollow (s.dropResponse p) :=
  outputsFollow_modPort h fun _ => ⟨rfl, rfl⟩

theorem outputsFollow_portCommand (h : PortCommand s t) (follows : OutputsFollow s) : OutputsFollow t := by
  cases h with
  | powerOn straps =>
    refine ⟨fun p => ?_, fun m => ?_⟩
    · rw [remindCondition_of_empty rfl]
      exact congrArg (fun m : Reminder => m.timer.isSome) (get_replicate _ p)
    · rw [show (s.powerOn straps).lamps[m] = Lamp.initial from get_replicate _ m]
      rfl
  | restartBegin p =>
    unfold State.restartBegins
    split
    · exact outputsFollow_beginRestart (outputsFollow_dropResponse follows)
    · exact follows
  | arrival p a => exact outputsFollow_arrive follows a
  | timeout p =>
    unfold State.consoleTimeout
    split
    · exact follows
    · exact outputsFollow_arrive (s := s.setPortRx p .hunting) (outputsFollow_modPort follows fun _ => ⟨rfl, rfl⟩) _
  | responseEnd p =>
    unfold State.responseEnds
    have dropped := outputsFollow_dropResponse (p := p) follows
    split
    · exact outputsFollow_beginRestart dropped
    · split
      · unfold State.takeWaiting
        split
        · exact outputsFollow_take (s := (s.dropResponse p).modPort p fun q => { q with waiting := none })
            (outputsFollow_modPort dropped fun _ => ⟨rfl, rfl⟩) _
        · exact dropped
      · exact follows
  | portBreak p =>
    rw [portBreaks_eq]
    have reset : OutputsFollow (broken s p) := by
      have own : OutputsFollow (s.modPort p PortRec.reset) := outputsFollow_modPort follows fun _ => ⟨rfl, rfl⟩
      have cleared : OutputsFollow ((s.modPort p PortRec.reset).clearAttention p) :=
        outputsFollow_frame own (frame_clearAttention p) (by decide)
      exact outputsFollow_frame cleared (frame_dropMarkers p s.queue.length) (by decide)
    split
    · exact follows
    · split
      · exact outputsFollow_beginRestart reset
      · exact reset
  | portBreakEnd p =>
    unfold State.portBreakEnds
    split
    · exact outputsFollow_modPort follows fun _ => ⟨rfl, rfl⟩
    · exact follows

theorem outputsFollow_endBreak (h : OutputsFollow s) (l : LinkId) : OutputsFollow (s.endBreak l) := by
  have linked (f : LinkRec → LinkRec) (s : State) (h : OutputsFollow s) : OutputsFollow (s.modLink l f) :=
    outputsFollow_frame h (frame_modLink l f) (by decide)
  unfold State.endBreak
  dsimp only
  split
  · exact outputsFollow_of_looks (linked _ _ (linked _ _ h)) (looks_mapLive _ _) rfl rfl
  · exact linked _ _ h

theorem outputsFollow_reminderExpires (h : OutputsFollow s) (running : s.reminders[p].timer.isSome = true) :
    OutputsFollow (s.reminderExpires p) := by
  have attended : OutputsFollow (s.attend fun q => q == p) := outputsFollow_frame h (frame_attend _) (by decide)
  refine outputsFollow_modReminder attended ?_
  have pressed : pressing (s.attend fun q => q == p) p = true := by
    rw [h.1 p, remindCondition_eq, Bool.and_eq_true] at running
    exact running.2
  rw [pressed, Bool.and_true]
  show (if s.reminders[p].staged = 0 then none else some (10 * s.reminders[p].staged)).isSome = (s.reminders[p].staged != 0)
  by_cases zero : s.reminders[p].staged = 0
  · rw [zero]; rfl
  · rw [if_neg zero, bne_iff_ne.2 zero]; rfl

/-- A running lamp cycle's parts run out: demand, mode and selector stay. -/
theorem lampDemand_of_settings {m m' : Lamp} (mode : m'.mode = m.mode) (lowest : m'.lowest = m.lowest)
    (scope : m'.scope = m.scope) (s : State) : s.lampDemand m' = s.lampDemand m := by
  rw [State.lampDemand, State.lampDemand, mode]
  cases m.mode with
  | off => rfl
  | on => rfl
  | function => simp only [State.lampMatches, lowest, scope]

theorem endLit_settings (m : Lamp) : m.endLit.mode = m.mode ∧ m.endLit.lowest = m.lowest ∧ m.endLit.scope = m.scope ∧
    m.endLit.demanded = m.demanded := by
  unfold Lamp.endLit
  split <;> exact ⟨rfl, rfl, rfl, rfl⟩

theorem endPeriod_settings (m : Lamp) (clock : Stamp) : (m.endPeriod clock).mode = m.mode ∧
    (m.endPeriod clock).lowest = m.lowest ∧ (m.endPeriod clock).scope = m.scope ∧
    (m.endPeriod clock).demanded = m.demanded := by
  unfold Lamp.endPeriod
  split <;> exact ⟨rfl, rfl, rfl, rfl⟩

theorem outputsFollow_exec (c : Instr) (s : State) (h : OutputsFollow s) : ∃ t, exec c s = .next t ∧ OutputsFollow t := by
  have event {W : List Block} {t : State} {c : Prop} [Decidable c] (frame : ChangesOnly W s t)
      (hW : Block.reminders ∉ W) : OutputsFollow (if c then t.evalOutputs else s) := by
    split
    · exact outputsFollow_evaluated h (frame .reminders hW)
    · exact h
  have lamp (m : LampId) (f : Lamp → Lamp) (hf : ∀ x, (f x).mode = x.mode ∧ (f x).lowest = x.lowest ∧
      (f x).scope = x.scope ∧ (f x).demanded = x.demanded) : OutputsFollow (s.modLamp m f) := by
    obtain ⟨mode, lowest, scope, demanded⟩ := hf s.lamps[m]
    refine outputsFollow_modLamp h ?_
    rw [demanded, lampDemand_of_settings mode lowest scope]
    exact h.2 m
  induction c using command_cases with
  | request r p args => exact ⟨_, exec_row r p args s, outputsFollow_portCommand (.arrival p _) h⟩
  | powerOn straps => exact ⟨_, rfl, outputsFollow_portCommand (.powerOn straps) h⟩
  | initialisationComplete => exact ⟨_, rfl, outputsFollow_frame h frame_becomeReady (by decide)⟩
  | chamberClockTick => exact ⟨_, rfl, outputsFollow_frame h frame_tick (by decide)⟩
  | restartBegin p => exact ⟨_, rfl, outputsFollow_portCommand (.restartBegin p) h⟩
  | copy l payload raw => exact ⟨_, rfl, event (frame_copyFrame l payload raw) (by decide)⟩
  | status l identity => exact ⟨_, rfl, event (frame_statusFrame l identity) (by decide)⟩
  | uplinkBadFrame l => exact ⟨_, rfl, outputsFollow_frame h (frame_ite (frame_modLink l _) frame_refl) (by decide)⟩
  | uplinkInterByteTimeout l => exact ⟨_, rfl, outputsFollow_frame h (frame_ite (frame_modLink l _) frame_refl) (by decide)⟩
  | breakDetected l => exact ⟨_, rfl, event (frame_detectBreak l) (by decide)⟩
  | breakEnd l => exact ⟨_, rfl, outputsFollow_endBreak h l⟩
  | silenceTimerExpiry l => exact ⟨_, rfl, event (frame_silenceExpires l) (by decide)⟩
  | downlinkSlot l => exact ⟨_, rfl, outputsFollow_frame h (frame_slotExpires l) (by decide)⟩
  | mergeWindowExpiry key => exact ⟨_, rfl, event (frame_windowExpires key) (by decide)⟩
  | orderFrameEnd l => exact ⟨_, rfl, outputsFollow_frame h (frame_modLink l _) (by decide)⟩
  | strangerAgingExpiry radio => exact ⟨_, rfl, outputsFollow_frame h (frame_setStrangers _) (by decide)⟩
  | lossTimerExpiry i => exact ⟨_, rfl, event (frame_lossTimerExpires i) (by decide)⟩
  | recoveryGraceExpiry i => exact ⟨_, rfl, event (frame_graceExpires i) (by decide)⟩
  | voiceQualifyExpiry i => exact ⟨_, rfl, event (frame_voiceQualifyExpires i) (by decide)⟩
  | voiceEndExpiry i => exact ⟨_, rfl, event (frame_voiceEndExpires i) (by decide)⟩
  | openGraceExpiry i => exact ⟨_, rfl, event (frame_openGraceExpires i) (by decide)⟩
  | floorMutedQualifyExpiry i => exact ⟨_, rfl, event (frame_floorMutedQualifyExpires i) (by decide)⟩
  | chatterWindowExpiry i => exact ⟨_, rfl, event (frame_chatterWindowExpires i) (by decide)⟩
  | syncWindowExpiry i => exact ⟨_, rfl, outputsFollow_frame h (frame_syncWindowExpires i) (by decide)⟩
  | reminderTimerExpiry p =>
    refine ⟨_, rfl, ?_⟩
    split
    next on => exact outputsFollow_reminderExpires h on
    next => exact h
  | lampOnTimeEnd m => exact ⟨_, rfl, lamp m _ endLit_settings⟩
  | lampPeriodEnd m => exact ⟨_, rfl, lamp m _ fun x => endPeriod_settings x s.clock⟩
  | consoleInterByteTimeout p => exact ⟨_, rfl, outputsFollow_portCommand (.timeout p) h⟩
  | frameError p code => exact ⟨_, rfl, outputsFollow_portCommand (.arrival p _) h⟩
  | arrivalWaiting p a => exact ⟨_, rfl, outputsFollow_portCommand (.arrival p a) h⟩
  | unknownRequest p code args => exact ⟨_, rfl, outputsFollow_portCommand (.arrival p _) h⟩
  | responseEnd p => exact ⟨_, rfl, outputsFollow_portCommand (.responseEnd p) h⟩
  | portBreak p => exact ⟨_, rfl, outputsFollow_portCommand (.portBreak p) h⟩
  | portBreakEnd p => exact ⟨_, rfl, outputsFollow_portCommand (.portBreakEnd p) h⟩

theorem outputsFollow_receive (h : OutputsFollow s) (x : LineInput) : OutputsFollow (s.receive x) := by
  have frame := frame_receive (s := s) x
  have roster : (s.receive x).alerts = s.alerts := frame .alerts (by decide)
  refine outputsFollow_of_looks h ⟨by rw [roster], fun q => ?_⟩ (frame .reminders (by decide)) (frame .lamps (by decide))
  obtain ⟨_, _, _, same⟩ := receive_ports (s := s) x q
  rw [same]
  exact ⟨rfl, rfl⟩

theorem step_keeps_outputsFollow (h : OutputsFollow s) (next : step s = .next t) : OutputsFollow t := by
  have taken (cs : List Instr) (xs : List LineInput) : OutputsFollow (taking s cs xs) :=
    outputsFollow_of_looks h ⟨rfl, fun _ => ⟨rfl, rfl⟩⟩ rfl rfl
  refine step_cases (motive := OutputsFollow) next (fun c rest heq => ?_) (fun x rest => ?_) h
  · obtain ⟨u, hu, follows⟩ := outputsFollow_exec c (taking s rest s.rxInput) (taken _ _)
    rw [hu] at heq
    cases heq
    exact follows
  · exact outputsFollow_receive (taken _ _) x

/-- Settles O60: OFF ports stay silent, and reminders and lamps follow. -/
theorem stepKeepsOffPorts : Obligations.StepKeepsOffPorts :=
  ⟨fun _ _ h next => step_keeps_offPorts h next, fun _ _ h next => step_keeps_outputsFollow h next⟩

end Sys2Proof.Machine.Invariants
end

section
/-! PROOFS. What an operation on one seat leaves of everything else: the other seats' records and slots, the links but for
their attributed counts and their conditions' severity, and of the seat itself the radio ID and the floor flag. -/

namespace Sys2Proof.Machine.SeatWork

open Sys2Proof Sys2Proof.Machine Sys2Proof.Machine.Laws Sys2Proof.Machine.SlotGrades Sys2Proof.Machine.Runs
open Sys2Proof.Machine.AntennaLinks

variable {s t u : State} {i : SeatId} {l : LinkId}

/-- Only the seat `i` has changed, and of it neither radio ID nor floor flag, with what follows for links and queue. -/
structure AtSeat (i : SeatId) (s t : State) : Prop where
  frame : ChangesOnly acceptBlocks s t
  seats : SameBut i s.seats t.seats
  battery : SameBut i s.battery t.battery
  signal : SameBut i s.signal t.signal
  mute : SameBut i s.mute t.mute
  radio : t.seats[i].radio = s.seats[i].radio
  floor : t.mute[i].floor = s.mute[i].floor
  links : ∀ l : LinkId, ∃ n, t.links[l] = { s.links[l] with attributed := n }
  others : ∀ j k, j ≠ i → grade (t.slot (.seat j k)) = grade (s.slot (.seat j k))
  conditions : ∀ l : LinkId, (t.slot (.link l)).isRaised = (s.slot (.link l)).isRaised

theorem sameBut_refl {α : Type} {n : Nat} {i : Fin n} (v : Vector α n) : SameBut i v v := fun _ _ => rfl

theorem sameBut_of_eq {α : Type} {n : Nat} {i : Fin n} {v w : Vector α n} (h : w = v) : SameBut i v w := fun _ _ => by
  rw [h]

theorem sameBut_trans {α : Type} {n : Nat} {i : Fin n} {v w x : Vector α n} (h : SameBut i v w) (k : SameBut i w x) :
    SameBut i v x := fun j ne => (k j ne).trans (h j ne)

/-- Other blocks and other seats' slots. -/
theorem AtSeat.of_grades {W : List Block} (h : ChangesOnly W s t) (hW : ∀ b ∈ W, b ∈ [.alerts, .attention, .queue, .syncs, .markers])
    (others : ∀ j k, j ≠ i → grade (t.slot (.seat j k)) = grade (s.slot (.seat j k)))
    (conditions : ∀ l : LinkId, (t.slot (.link l)).isRaised = (s.slot (.link l)).isRaised) : AtSeat i s t := by
  have out (b : Block) (hb : b ∉ [Block.alerts, .attention, .queue, .syncs, .markers]) : b.Same s t := h b fun k => hb (hW b k)
  have seats : t.seats = s.seats := out .seats (by decide)
  have mute : t.mute = s.mute := out .mute (by decide)
  have links : t.links = s.links := out .links (by decide)
  exact {
    frame := frame_mono h fun b hb => by
      have := hW b hb
      revert this
      cases b <;> decide
    seats := sameBut_of_eq seats
    battery := sameBut_of_eq (out .battery (by decide))
    signal := sameBut_of_eq (out .signal (by decide))
    mute := sameBut_of_eq mute
    radio := by rw [seats]
    floor := by rw [mute]
    links := fun l => ⟨s.links[l].attributed, by rw [links]⟩
    others := others
    conditions := conditions }

theorem AtSeat.refl (s : State) : AtSeat i s s :=
  .of_grades (W := []) frame_refl nofun (fun _ _ _ => rfl) fun _ => rfl

theorem AtSeat.trans (h : AtSeat i s t) (k : AtSeat i t u) : AtSeat i s u where
  frame := frame_trans h.frame k.frame
  seats := sameBut_trans h.seats k.seats
  battery := sameBut_trans h.battery k.battery
  signal := sameBut_trans h.signal k.signal
  mute := sameBut_trans h.mute k.mute
  radio := k.radio.trans h.radio
  floor := k.floor.trans h.floor
  links l := by
    obtain ⟨n, hn⟩ := h.links l
    obtain ⟨m, hm⟩ := k.links l
    exact ⟨m, by rw [hm, hn]⟩
  others j c ne := (k.others j c ne).trans (h.others j c ne)
  conditions l := (k.conditions l).trans (h.conditions l)

theorem AtSeat.after (last : AtSeat i t u) (h : AtSeat i s t) : AtSeat i s u := h.trans last

theorem AtSeat.ite {c : Prop} [Decidable c] (ht : c → AtSeat i s t) (hu : ¬c → AtSeat i s u) : AtSeat i s (if c then t else u) := by
  split
  next h => exact ht h
  next h => exact hu h

/-- A change of roster, attention, queue and markers that keeps every grade. -/
theorem AtSeat.keeps {W : List Block} (h : ChangesOnly W s t) (k : KeepsGrades s t)
    (hW : ∀ b ∈ W, b ∈ [.alerts, .attention, .queue, .syncs, .markers]) : AtSeat i s t :=
  .of_grades h hW (fun j c _ => k (.seat j c)) fun l => isRaised_of_grade (k (.link l))

theorem AtSeat.queue {W : List Block} (h : ChangesOnly W s t)
    (hW : ∀ b ∈ W, b ∈ [.attention, .queue, .syncs, .markers]) : AtSeat i s t :=
  .keeps h (keepsGrades_of_frame h fun k => absurd (hW _ k) (by decide)) fun b hb => List.mem_cons_of_mem _ (hW b hb)

/-- One condition of the seat takes another grade. -/
theorem AtSeat.sets {W : List Block} {k : SeatKind} {g : Grade} (h : ChangesOnly W s t) (set : SetsGrade (.seat i k) g s t)
    (hW : ∀ b ∈ W, b ∈ [.alerts, .attention, .queue, .syncs, .markers]) : AtSeat i s t :=
  .of_grades h hW (fun _ _ ne => set.2 _ fun same => ne (Source.seat.inj same).1) fun _ => isRaised_of_grade (set.2 _ nofun)

theorem atSeat_modSeat (f : SeatRec → SeatRec) (hf : ∀ q, (f q).radio = q.radio) : AtSeat i s (s.modSeat i f) where
  frame := frame_mono (frame_modSeat i f) (by decide)
  seats := fun j ne => get_set_ne _ ne _
  battery := sameBut_refl _
  signal := sameBut_refl _
  mute := sameBut_refl _
  radio := by rw [modSeat_seats, get_set_self, hf]
  floor := rfl
  links l := ⟨_, rfl⟩
  others _ _ _ := rfl
  conditions _ := rfl

theorem atSeat_modBattery (f : Battery → Battery) : AtSeat i s (s.modBattery i f) where
  frame := frame_mono (frame_modBattery i f) (by decide)
  seats := sameBut_refl _
  battery := fun j ne => get_set_ne _ ne _
  signal := sameBut_refl _
  mute := sameBut_refl _
  radio := rfl
  floor := rfl
  links l := ⟨_, rfl⟩
  others _ _ _ := rfl
  conditions _ := rfl

theorem atSeat_modSignal (f : Signal → Signal) : AtSeat i s (s.modSignal i f) where
  frame := frame_mono (frame_modSignal i f) (by decide)
  seats := sameBut_refl _
  battery := sameBut_refl _
  signal := fun j ne => get_set_ne _ ne _
  mute := sameBut_refl _
  radio := rfl
  floor := rfl
  links l := ⟨_, rfl⟩
  others _ _ _ := rfl
  conditions _ := rfl

theorem atSeat_modMute (f : Mute → Mute) (hf : ∀ m, (f m).floor = m.floor) : AtSeat i s (s.modMute i f) where
  frame := frame_mono (frame_modMute i f) (by decide)
  seats := sameBut_refl _
  battery := sameBut_refl _
  signal := sameBut_refl _
  mute := fun j ne => get_set_ne _ ne _
  radio := rfl
  floor := by rw [modMute_mute, get_set_self, hf]
  links l := ⟨_, rfl⟩
  others _ _ _ := rfl
  conditions _ := rfl

theorem atSeat_modSync (f : SyncRec → SyncRec) : AtSeat i s (s.modSync i f) := .queue (frame_modSync i f) (by decide)

theorem atSeat_refresh (src : Source) : AtSeat i s (s.refresh src) :=
  .keeps (frame_refresh src) (keepsGrades_refresh src) (by decide)

theorem atSeat_requestSync : AtSeat i s (s.requestSync i) := .queue (frame_requestSync i) (by decide)

theorem atSeat_setSlot (k : SeatKind) (x : Slot) : AtSeat i s (s.setSlot (.seat i k) x) :=
  .sets (frame_setSlot _ _) (setsGrade_setSlot _ _ _) (by decide)

theorem atSeat_raise (k : SeatKind) (sev : Severity) (d : FixedDetail) : AtSeat i s (s.raise (.seat i k) sev d) :=
  .sets (frame_raise _ _ _) (setsGrade_raise _ _ _ _) (by decide)

theorem atSeat_endCondition (k : SeatKind) : AtSeat i s (s.endCondition (.seat i k)) := by
  cases h : (s.slot (.seat i k)).isRaised with
  | true => exact .sets (frame_endCondition _) (setsGrade_endCondition h) (by decide)
  | false => rw [endCondition_of_not_raised h]; exact .refl s

theorem atSeat_endOrCancel (k : SeatKind) : AtSeat i s (s.endOrCancel (.seat i k)) :=
  .sets (frame_endOrCancel _) (setsGrade_endOrCancel _ _) (by decide)

theorem atSeat_escalate (k : SeatKind) (sev : Severity) : AtSeat i s (s.escalate (.seat i k) sev) := by
  cases h : (s.slot (.seat i k)).isRaised with
  | true => exact .sets (frame_escalate _ _) (setsGrade_escalate h sev) (by decide)
  | false => rw [escalate_of_not_raised h]; exact .refl s

theorem atSeat_escalateFrom (k : SeatKind) (low high : Severity) : AtSeat i s (s.escalateFrom (.seat i k) low high) :=
  .ite (fun _ => atSeat_escalate k high) fun _ => .refl s

theorem atSeat_setQuiet : AtSeat i s (s.setQuiet i) :=
  (AtSeat.keeps (s := s.modSeat i fun q => { q with quiet := true }) (t := s.setQuiet i) (W := [.alerts])
    (fun b hb => by cases b <;> first | rfl | exact absurd (by decide) hb) (keepsGrades_relabel i _ _) (by decide)).after
    (atSeat_modSeat _ fun _ => rfl)

theorem atSeat_clearQuiet : AtSeat i s (s.clearQuiet i) where
  frame := frame_mono (frame_clearQuiet i) (by decide)
  seats := fun j ne => by rw [clearQuiet_seats, get_set_ne _ ne]
  battery := sameBut_of_eq (frame_clearQuiet i .battery (by decide))
  signal := sameBut_of_eq (frame_clearQuiet i .signal (by decide))
  mute := sameBut_of_eq (frame_clearQuiet i .mute (by decide))
  radio := by rw [clearQuiet_seats, get_set_self]
  floor := by rw [show (s.clearQuiet i).mute = s.mute from frame_clearQuiet i .mute (by decide)]
  links l := ⟨s.links[l].attributed, by rw [show (s.clearQuiet i).links = s.links from frame_clearQuiet i .links (by decide)]⟩
  others j k _ := keepsGrades_clearQuiet i (.seat j k)
  conditions l := isRaised_of_grade (keepsGrades_clearQuiet i (.link l))

/-! ## Battery Gauge and Signal Monitor -/

theorem atSeat_endBattery : AtSeat i s (s.endBattery i) := (atSeat_endCondition _).trans (atSeat_modBattery _)

theorem atSeat_actOnStreaks : AtSeat i s (s.actOnStreaks i) := by
  unfold State.actOnStreaks
  dsimp only
  refine .ite (fun _ => ?_) fun _ => .ite (fun _ => ?_) fun _ => .refl s
  · split
    · exact .ite (fun _ => .refl s) fun _ => (atSeat_escalate _ _).trans (atSeat_modBattery _)
    · exact (atSeat_raise _ _ _).trans (atSeat_modBattery _)
  · split
    · exact .refl s
    · exact (atSeat_raise _ _ _).trans (atSeat_modBattery _)

theorem atSeat_gaugeReads (f : SeatFrame) (c : FrameClass) : AtSeat i s (s.gaugeReads i f c) :=
  (((atSeat_modBattery _).trans (.ite (fun _ => atSeat_endBattery) fun _ => .refl _)).trans atSeat_actOnStreaks).trans
    (atSeat_refresh _)

theorem atSeat_weakTest (x : Int) : AtSeat i s (s.weakTest i x) := by
  unfold State.weakTest
  dsimp only
  exact .ite (fun _ => .ite (fun _ => (atSeat_modSignal _).trans (atSeat_raise _ _ _)) fun _ => atSeat_modSignal _) fun _ =>
    .ite (fun _ => .ite (fun _ => .refl s) fun _ => atSeat_modSignal _) fun _ =>
      .ite (fun _ => (atSeat_modSignal _).trans (atSeat_endCondition _)) fun _ => atSeat_modSignal _

theorem atSeat_erraticTest : AtSeat i s (s.erraticTest i) :=
  .ite (fun _ => .ite (fun _ => atSeat_endCondition _) fun _ => .refl s) fun _ =>
    .ite (fun _ => atSeat_raise _ _ _) fun _ => .refl s

theorem atSeat_monitorReads (f : SeatFrame) (c : FrameClass) : AtSeat i s (s.monitorReads i f c) :=
  ((((atSeat_modSignal _).trans (atSeat_refresh _)).trans (atSeat_weakTest _)).trans
    ((atSeat_modSignal _).trans (atSeat_refresh _))).trans atSeat_erraticTest

/-! ## Loss -/

theorem atSeat_setAttributed (l : LinkId) (f : Nat → Nat) : AtSeat i s (s.setAttributed l f) := by
  have frame := frame_setAttributed_links (s := s) l f
  have seats : (s.setAttributed l f).seats = s.seats := frame .seats (by decide)
  have mute : (s.setAttributed l f).mute = s.mute := frame .mute (by decide)
  exact {
    frame := frame_mono frame (by decide)
    seats := sameBut_of_eq seats
    battery := sameBut_of_eq (frame .battery (by decide))
    signal := sameBut_of_eq (frame .signal (by decide))
    mute := sameBut_of_eq mute
    radio := by rw [seats]
    floor := by rw [mute]
    links := fun m => by
      rw [setAttributed_links]
      by_cases same : m = l
      · subst same
        exact ⟨f s.links[m].attributed, get_set_self _ _ _⟩
      · exact ⟨s.links[m].attributed, get_set_ne _ same _⟩
    others := fun j k _ => keepsGrades_refresh (s := s.modLink l _) (.link l) (.seat j k)
    conditions := fun m => isRaised_of_grade (keepsGrades_refresh (s := s.modLink l _) (.link l) (.link m)) }

theorem atSeat_escalateLink (l : LinkId) : AtSeat i s (s.escalateLink l) := by
  cases h : (s.slot (.link l)).isRaised with
  | false => rw [escalateLink_of_not_raised h]; exact .refl s
  | true =>
    obtain ⟨raised, others⟩ := setsGrade_escalateLink h
    refine .of_grades (frame_escalateLink l) (by decide) (fun j k _ => others _ nofun) fun m => ?_
    by_cases same : m = l
    · subst same
      rw [h]
      exact isRaised_of_grade_raised raised
    · exact isRaised_of_grade (others _ fun e => same (Source.link.inj e))

theorem atSeat_loseToSignal : AtSeat i s (s.loseToSignal i) := (atSeat_modSignal _).trans (atSeat_raise _ _ _)

theorem atSeat_loseToLink (l : LinkId) : AtSeat i s (s.loseToLink i l) :=
  ((atSeat_modSignal _).trans (atSeat_setAttributed l _)).trans (atSeat_escalateLink l)

theorem atSeat_lossDecided : AtSeat i s (lossDecided s i) := by
  unfold lossDecided
  split
  · split
    · exact atSeat_loseToSignal
    · exact atSeat_loseToSignal
    · exact atSeat_loseToLink _
    · exact atSeat_loseToLink _
    · exact atSeat_loseToLink _
  · exact atSeat_loseToSignal

theorem frame_captureDuration_alerts (i : SeatId) : ChangesOnly [.alerts] s (s.captureDuration i) :=
  frame_mapLive_alerts _ _

theorem keepsGrades_captureDuration (i : SeatId) : KeepsGrades s (s.captureDuration i) :=
  keepsGrades_of_slots fun _ => slot_setRoster _ _ _

theorem atSeat_captureDuration : AtSeat i s (s.captureDuration i) :=
  .keeps (frame_captureDuration_alerts i) (keepsGrades_captureDuration i) (by decide)

theorem atSeat_endLoss : AtSeat i s (s.endLoss i) := by
  unfold State.endLoss
  dsimp only
  refine AtSeat.trans ?_ (atSeat_modSignal _)
  split
  · exact atSeat_captureDuration.trans (atSeat_endCondition _)
  · exact atSeat_setAttributed _ _
  · exact .refl s

theorem atSeat_convertSeat : AtSeat i s (State.convertSeat l s i) :=
  .ite (fun _ => (atSeat_modSignal _).trans atSeat_loseToSignal) fun _ => .refl s

theorem atSeat_graceExpires : AtSeat i s (s.graceExpires i) := by
  unfold State.graceExpires
  split
  · dsimp only
    split
    · exact ((atSeat_modSignal _).trans (atSeat_setAttributed _ _)).trans atSeat_loseToSignal
    · exact atSeat_modSignal _
    · exact atSeat_modSignal _
  · exact .refl s

/-! ## Mute and Floor Supervisor -/

theorem atSeat_derive : AtSeat i s (s.derive i) :=
  .ite (fun _ => .refl s) fun _ => atSeat_requestSync.after (atSeat_modMute _ fun _ => rfl)

theorem atSeat_dropFloorMuted : AtSeat i s (s.dropFloorMuted i) :=
  (atSeat_endOrCancel _).trans (atSeat_modMute _ fun _ => rfl)

theorem atSeat_dropOpenNoFloor : AtSeat i s (s.dropOpenNoFloor i) :=
  (atSeat_endOrCancel _).trans (atSeat_modMute _ fun _ => rfl)

theorem atSeat_raiseOpenNoFloor (a : AudioState) : AtSeat i s (s.raiseOpenNoFloor i a) :=
  .ite (fun _ => atSeat_dropFloorMuted.after ((atSeat_raise _ _ _).trans (atSeat_modMute _ fun _ => rfl))) fun _ =>
    atSeat_raise _ _ _

theorem atSeat_countToggle : AtSeat i s (s.countToggle i) := by
  unfold State.countToggle
  dsimp only
  exact .ite (fun _ => .ite (fun _ => (atSeat_setSlot _ _).after (atSeat_modMute _ fun _ => rfl)) fun _ =>
    atSeat_modMute _ fun _ => rfl) fun _ => atSeat_modMute _ fun _ => rfl

theorem atSeat_voiceFrame (a : AudioState) : AtSeat i s (s.voiceFrame i a) := by
  unfold State.voiceFrame
  dsimp only
  split
  · exact .ite (fun _ => (atSeat_setSlot _ _).trans (atSeat_modMute _ fun _ => rfl)) fun _ => .refl s
  · exact .ite (fun _ => .refl s) fun _ => (atSeat_setSlot _ _).trans (atSeat_modMute _ fun _ => rfl)
  · exact .ite (fun _ => atSeat_modMute _ fun _ => rfl) fun _ => .refl s

theorem atSeat_openFrame (a : AudioState) : AtSeat i s (s.openFrame i a) := by
  unfold State.openFrame
  dsimp only
  split
  · exact .ite (fun _ => .ite (fun _ => (atSeat_setSlot _ _).trans (atSeat_modMute _ fun _ => rfl)) fun _ =>
      atSeat_raiseOpenNoFloor a) fun _ => .refl s
  · exact .ite (fun _ => atSeat_dropOpenNoFloor) fun _ => .refl s
  · exact .ite (fun _ => atSeat_dropOpenNoFloor) fun _ => .refl s

theorem atSeat_floorFrame (a : AudioState) : AtSeat i s (s.floorFrame i a) := by
  unfold State.floorFrame
  dsimp only
  split
  · exact .ite (fun _ => (atSeat_setSlot _ _).trans (atSeat_modMute _ fun _ => rfl)) fun _ => .refl s
  · exact .ite (fun _ => atSeat_dropFloorMuted) fun _ => .refl s
  · exact .ite (fun _ => atSeat_dropFloorMuted) fun _ => .refl s

theorem atSeat_chatterTest (a : AudioState) : AtSeat i s (s.chatterTest i a) :=
  .ite (fun _ => atSeat_raise _ _ _) fun _ => .refl s

theorem atSeat_supervisorReads (f : SeatFrame) (c : FrameClass) : AtSeat i s (s.supervisorReads i f c) := by
  have frame (t : State) : AtSeat i t (((t.voiceFrame i f.audio).openFrame i f.audio).floorFrame i f.audio) :=
    ((atSeat_voiceFrame _).trans (atSeat_openFrame _)).trans (atSeat_floorFrame _)
  have counted : AtSeat i s (if isToggle c s.mute[i].hold s.seats[i].lastAudio f.audio then s.countToggle i else s) :=
    .ite (fun _ => atSeat_countToggle) fun _ => .refl s
  exact .ite (fun _ => (atSeat_chatterTest _).after ((frame _).after counted)) fun _ => (frame _).after counted

theorem atSeat_voiceQualifyExpires : AtSeat i s (s.voiceQualifyExpires i) := by
  unfold State.voiceQualifyExpires
  split
  · exact atSeat_derive.after ((atSeat_raise _ _ _).after (atSeat_modMute _ fun _ => rfl))
  · exact .refl s

theorem atSeat_voiceEndExpires : AtSeat i s (s.voiceEndExpires i) := by
  unfold State.voiceEndExpires
  split
  · exact atSeat_derive.after ((atSeat_endCondition _).after (atSeat_modMute _ fun _ => rfl))
  · exact .refl s

theorem atSeat_openGraceExpires : AtSeat i s (s.openGraceExpires i) := by
  unfold State.openGraceExpires
  split
  · exact atSeat_derive.after ((atSeat_raiseOpenNoFloor _).after (atSeat_modMute _ fun _ => rfl))
  · exact .refl s

theorem atSeat_floorMutedQualifyExpires : AtSeat i s (s.floorMutedQualifyExpires i) := by
  unfold State.floorMutedQualifyExpires
  split
  · exact atSeat_derive.after ((atSeat_raise _ _ _).after (atSeat_modMute _ fun _ => rfl))
  · exact .refl s

theorem atSeat_chatterWindowExpires : AtSeat i s (s.chatterWindowExpires i) := by
  unfold State.chatterWindowExpires
  dsimp only
  split
  · exact .ite (fun _ => atSeat_modMute _ fun _ => rfl) fun _ => (atSeat_endOrCancel _).trans (atSeat_modMute _ fun _ => rfl)
  · exact .refl s

theorem atSeat_holdConsole : AtSeat i s (s.holdConsole i) :=
  atSeat_derive.after (atSeat_dropFloorMuted.after (atSeat_modMute _ fun _ => rfl))

theorem atSeat_freeHold : AtSeat i s (s.freeHold i) := atSeat_derive.after (atSeat_modMute _ fun _ => rfl)

theorem atSeat_swapSeat (level : Nat) : AtSeat i s (s.swapSeat i level) :=
  ((atSeat_modBattery _).trans atSeat_endBattery).trans atSeat_derive

/-! ## Seat Table -/

theorem atSeat_dropSyncsOwed : AtSeat i s (s.dropSyncsOwed i) := .queue (frame_dropSyncsOwed i) (by decide)

theorem atSeat_departKinds (ks : List SeatKind) : AtSeat i s (ks.foldl (fun t k => t.endOrCancel (.seat i k)) s) := by
  induction ks generalizing s with
  | nil => exact .refl s
  | cons k ks ih => exact (atSeat_endOrCancel k).trans ih

theorem atSeat_depart : AtSeat i s (s.depart i) := by
  rw [depart_eq]
  refine atSeat_dropSyncsOwed.after (atSeat_clearQuiet.after ((atSeat_modSignal _).after ?_))
  exact (atSeat_modMute Mute.stopTimers fun _ => rfl).after ((atSeat_departKinds departingKinds).after (atSeat_modSignal _))

theorem atSeat_setSeatState (x : SeatState) : AtSeat i s (s.setSeatState i x) := atSeat_modSeat _ fun _ => rfl

theorem atSeat_departIfActive : AtSeat i s (s.departIfActive i) := .ite (fun _ => atSeat_depart) fun _ => .refl s

theorem atSeat_endLossIfLost : AtSeat i s (s.endLossIfLost i) := .ite (fun _ => atSeat_endLoss) fun _ => .refl s

theorem atSeat_acceptFields (f : SeatFrame) : AtSeat i s (s.acceptFields i f) := atSeat_modSeat _ fun _ => rfl

theorem atSeat_takeAudio (f : SeatFrame) : AtSeat i s (s.takeAudio i f) := atSeat_modSeat _ fun _ => rfl

theorem atSeat_startLossTimer : AtSeat i s (s.startLossTimer i) := atSeat_modSignal _

theorem atSeat_refusing : AtSeat i s (refusing s i) :=
  atSeat_clearQuiet.after ((atSeat_setSeatState .refused).after ((atSeat_modSync _).after
    (atSeat_dropSyncsOwed.after atSeat_departIfActive)))

/-- A refusal raises FORMAT_REFUSED where it is not RAISED (R17). -/
theorem refuse_eq (s : State) (i : SeatId) (f : SeatFrame) : s.refuse i f =
    if ((refusing s i).slot (.seat i .formatRefused)).isRaised then refusing s i
    else (refusing s i).raise (.seat i .formatRefused) .warning (.format f.format) := rfl

theorem atSeat_refuse (f : SeatFrame) : AtSeat i s (s.refuse i f) := by
  rw [refuse_eq]
  exact .ite (fun _ => atSeat_refusing) fun _ => (atSeat_raise _ _ _).after atSeat_refusing

theorem atSeat_appearing (f : SeatFrame) : AtSeat i s (appearing s i f) := by
  have stated : AtSeat i s ((if f.target = .standby then s.departIfActive i else s).setSeatState i f.target) :=
    (atSeat_setSeatState _).after (.ite (fun _ => atSeat_departIfActive) fun _ => .refl s)
  exact atSeat_clearQuiet.after ((atSeat_endCondition _).after ((atSeat_modSync _).after (atSeat_dropSyncsOwed.after
    ((atSeat_modSignal _).after stated))))

theorem appear_eq (s : State) (i : SeatId) (f : SeatFrame) : s.appear i f =
    if f.target = .active then (appearing s i f).startLossTimer i else appearing s i f := rfl

theorem atSeat_appear (f : SeatFrame) : AtSeat i s (s.appear i f) := by
  rw [appear_eq]
  exact .ite (fun _ => atSeat_startLossTimer.after (atSeat_appearing f)) fun _ => atSeat_appearing f

theorem atSeat_normalFrame (f : SeatFrame) : AtSeat i s (s.normalFrame i f) := by
  unfold State.normalFrame
  split
  · exact .ite (fun _ => atSeat_depart.trans (atSeat_setSeatState _)) fun _ => atSeat_startLossTimer
  · exact .ite (fun _ => .refl s) fun _ => ((atSeat_setSeatState _).trans atSeat_startLossTimer).trans (atSeat_modSync _)
  · exact .ite (fun _ => atSeat_setSeatState _) fun _ => (atSeat_setSeatState _).trans atSeat_startLossTimer
  all_goals exact .refl s

theorem atSeat_seatStep (f : SeatFrame) (c : FrameClass) : AtSeat i s (s.seatStep i f c) :=
  AtSeat.after (.ite (fun _ => .ite (fun _ => atSeat_appear f) fun _ => atSeat_refuse f) fun _ => atSeat_normalFrame f)
    atSeat_endLossIfLost

theorem atSeat_evaluators (f : SeatFrame) (c : FrameClass) : AtSeat i s (s.evaluators i f c) := by
  unfold State.evaluators
  split
  · exact ((atSeat_gaugeReads f c).trans (atSeat_monitorReads f c)).trans (atSeat_supervisorReads f c)
  · exact atSeat_gaugeReads f c
  all_goals exact .refl s

theorem atSeat_indicator : AtSeat i s (s.indicator i) :=
  .ite (fun _ => atSeat_derive.trans atSeat_requestSync) fun _ => atSeat_derive

/-- An accepted frame up to the order echo (R14). -/
def received (s : State) (i : SeatId) (f : SeatFrame) (c : FrameClass) : State :=
  if c.isAppearance then s.acceptFields i f else (s.acceptFields i f).readEcho i f.echo

theorem accept_eq (s : State) (i : SeatId) (f : SeatFrame) (c : FrameClass) : s.accept i f c =
    (((((received s i f c).seatStep i f c).evaluators i f c).takeAudio i f).indicator i) := rfl

theorem atSeat_received (f : SeatFrame) (c : FrameClass) : AtSeat i s (received s i f c) :=
  .ite (fun _ => atSeat_acceptFields f) fun _ =>
    (AtSeat.queue (frame_readEcho i _) (by decide)).after (atSeat_acceptFields f)

theorem atSeat_accept (f : SeatFrame) (c : FrameClass) : AtSeat i s (s.accept i f c) := by
  rw [accept_eq]
  exact atSeat_indicator.after ((atSeat_takeAudio f).after ((atSeat_evaluators f c).after ((atSeat_seatStep f c).after
    (atSeat_received f c))))

theorem atSeat_lossTimerExpires : AtSeat i s (s.lossTimerExpires i) := by
  unfold State.lossTimerExpires
  split
  · have lost : AtSeat i s (((s.modSignal i fun g => { g with lossStart := some s.clock }).depart i).setSeatState i .lost) :=
      (atSeat_setSeatState .lost).after (atSeat_depart.after (atSeat_modSignal _))
    dsimp only
    generalize ((s.modSignal i fun g => { g with lossStart := some s.clock }).depart i).setSeatState i .lost = u at lost ⊢
    show AtSeat i s ((lossDecided u i).derive i)
    exact atSeat_derive.after (atSeat_lossDecided.after lost)
  · exact .refl s

end Sys2Proof.Machine.SeatWork
end

section
/-! PROOFS. The seat's records as departures, appearances, refusals and normal frames leave them, table by table. -/

namespace Sys2Proof.Machine.SeatWork

open Sys2Proof Sys2Proof.Machine Sys2Proof.Machine.Laws Sys2Proof.Machine.SlotGrades Sys2Proof.Machine.Runs
open Sys2Proof.Machine.AntennaLinks

variable {s t u : State} {i : SeatId} {l : LinkId} {f : SeatFrame} {c : FrameClass}

/-! ## A seat leaving ACTIVE (R16) -/

/-- The signal record of a seat that has left ACTIVE. -/
def departedSignal (g : Signal) : Signal := { g with lossTimer := none, weakStreak := 0 }

theorem frame_departKinds (ks : List SeatKind) (i : SeatId) :
    ChangesOnly rosterBlocks s (ks.foldl (fun t k => t.endOrCancel (.seat i k)) s) :=
  frame_foldl _ _ (fun _ _ => frame_endOrCancel _) s

/-- The endings of a departure, with what follows them before the SYNCs are dropped. -/
def endings (ks : List SeatKind) (i : SeatId) (u : State) : State :=
  (((ks.foldl (fun t k => t.endOrCancel (.seat i k)) u).modMute i Mute.stopTimers).modSignal i fun g =>
    { g with weakStreak := 0 }).clearQuiet i

theorem endings_signal (ks : List SeatKind) :
    (endings ks i u).signal = u.signal.set i { u.signal[i] with weakStreak := 0 } := by
  have same : (ks.foldl (fun t k => t.endOrCancel (.seat i k)) u).signal = u.signal :=
    frame_departKinds ks i .signal (by decide)
  rw [endings, show (State.clearQuiet _ i).signal = _ from frame_clearQuiet i .signal (by decide), modSignal_signal,
    modMute_signal, same]

theorem endings_mute (ks : List SeatKind) : (endings ks i u).mute = u.mute.set i u.mute[i].stopTimers := by
  have same : (ks.foldl (fun t k => t.endOrCancel (.seat i k)) u).mute = u.mute :=
    frame_departKinds ks i .mute (by decide)
  rw [endings, show (State.clearQuiet _ i).mute = _ from frame_clearQuiet i .mute (by decide), modSignal_mute,
    modMute_mute, same]

theorem endings_seats (ks : List SeatKind) : (endings ks i u).seats = u.seats.set i { u.seats[i] with quiet := false } := by
  have same : (ks.foldl (fun t k => t.endOrCancel (.seat i k)) u).seats = u.seats :=
    frame_departKinds ks i .seats (by decide)
  rw [endings, clearQuiet_seats, modSignal_seats, modMute_seats, same]

theorem frame_endings (ks : List SeatKind) : ChangesOnly [.seats, .mute, .signal, .alerts, .attention] u (endings ks i u) := by
  refine frame_then (W := [.seats, .mute, .signal, .alerts, .attention]) ?_ (frame_clearQuiet i) (by decide)
  refine frame_then (W := [.seats, .mute, .signal, .alerts, .attention]) ?_ (frame_modSignal i _) (by decide)
  refine frame_then (W := [.seats, .mute, .signal, .alerts, .attention]) ?_ (frame_modMute i _) (by decide)
  exact frame_mono (frame_departKinds ks i) (by decide)

theorem depart_endings (s : State) (i : SeatId) :
    s.depart i = (endings departingKinds i (s.modSignal i fun g => { g with lossTimer := none })).dropSyncsOwed i := rfl

theorem depart_signal (s : State) (i : SeatId) : (s.depart i).signal = s.signal.set i (departedSignal s.signal[i]) := by
  rw [depart_endings, show (State.dropSyncsOwed _ i).signal = _ from frame_dropSyncsOwed i .signal (by decide),
    endings_signal, modSignal_signal, get_set_self, set_set_self]
  rfl

theorem depart_mute (s : State) (i : SeatId) : (s.depart i).mute = s.mute.set i s.mute[i].stopTimers := by
  rw [depart_endings, show (State.dropSyncsOwed _ i).mute = _ from frame_dropSyncsOwed i .mute (by decide), endings_mute]
  rfl

theorem depart_seats (s : State) (i : SeatId) : (s.depart i).seats = s.seats.set i { s.seats[i] with quiet := false } := by
  rw [depart_endings, show (State.dropSyncsOwed _ i).seats = _ from frame_dropSyncsOwed i .seats (by decide), endings_seats]
  rfl

theorem frame_depart_sections (s : State) (i : SeatId) : ChangesOnly [.seats, .signal, .mute, .alerts, .attention, .queue, .syncs,
    .markers] s (s.depart i) := by
  rw [depart_endings]
  refine frame_then (W := [.seats, .signal, .mute, .alerts, .attention, .queue, .syncs, .markers]) ?_
    (frame_dropSyncsOwed i) (by decide)
  exact frame_then (frame_mono (frame_modSignal i _) (by decide)) (frame_endings departingKinds) (by decide)

/-- The conditions that leaving ACTIVE ends are CLEAR. -/
theorem slot_departKinds (ks : List SeatKind) {k : SeatKind} (hk : k ∈ ks) :
    ((ks.foldl (fun t k => t.endOrCancel (.seat i k)) s).slot (.seat i k)) = .clear := by
  rw [← grade_eq_clear]
  induction ks generalizing s with
  | nil => cases hk
  | cons k' ks ih =>
    rw [List.foldl_cons]
    by_cases later : k ∈ ks
    · exact ih later
    · have first : k = k' := (List.mem_cons.1 hk).resolve_right later
      subst first
      have apart : ∀ x ∈ ks, Source.seat i k ≠ .seat i x := fun x hx same => by
        cases same
        exact later hx
      rw [grade_departKinds ks apart, slot_endOrCancel]
      rfl

/-! ## A seat that leaves ACTIVE if it is -/

theorem departIfActive_of (h : s.seats[i].state = .active) : s.departIfActive i = s.depart i := if_pos h

theorem departIfActive_of_not (h : s.seats[i].state ≠ .active) : s.departIfActive i = s := if_neg h

theorem set_same {α : Type} {n : Nat} (v : Vector α n) (i : Fin n) : v.set i v[i] = v := Vector.set_getElem_self _

theorem departIfActive_signal (s : State) (i : SeatId) : (s.departIfActive i).signal =
    s.signal.set i (if s.seats[i].state = .active then departedSignal s.signal[i] else s.signal[i]) := by
  split
  next h => rw [departIfActive_of h, depart_signal]
  next h => rw [departIfActive_of_not h, set_same]

theorem departIfActive_mute (s : State) (i : SeatId) : (s.departIfActive i).mute =
    s.mute.set i (if s.seats[i].state = .active then s.mute[i].stopTimers else s.mute[i]) := by
  split
  next h => rw [departIfActive_of h, depart_mute]
  next h => rw [departIfActive_of_not h, set_same]

theorem departIfActive_seats (s : State) (i : SeatId) : (s.departIfActive i).seats =
    s.seats.set i { s.seats[i] with quiet := if s.seats[i].state = .active then false else s.seats[i].quiet } := by
  split
  next h => rw [departIfActive_of h, depart_seats]
  next h => rw [departIfActive_of_not h, set_same]

theorem frame_departIfActive_sections (s : State) (i : SeatId) : ChangesOnly [.seats, .signal, .mute, .alerts, .attention, .queue,
    .syncs, .markers] s (s.departIfActive i) := frame_ite (frame_depart_sections s i) frame_refl

/-! ## The close of a loss (R84) -/

theorem endLoss_signal (s : State) (i : SeatId) :
    (s.endLoss i).signal = s.signal.set i { s.signal[i] with cause := .none, lossStart := none, grace := none } := by
  unfold State.endLoss
  dsimp only
  rw [modSignal_signal]
  split
  · rw [show (State.endCondition _ _).signal = _ from frame_endCondition _ .signal (by decide),
      show (s.captureDuration i).signal = _ from frame_captureDuration i .signal (by decide)]
  · rw [show (s.setAttributed _ _).signal = _ from frame_setAttributed_links _ _ .signal (by decide)]
  · rfl

theorem endLossIfLost_of_lost (h : s.seats[i].state = .lost) : s.endLossIfLost i = s.endLoss i := if_pos h

theorem endLossIfLost_of_not (h : s.seats[i].state ≠ .lost) : s.endLossIfLost i = s := if_neg h

theorem endLossIfLost_seats (s : State) (i : SeatId) : (s.endLossIfLost i).seats = s.seats := by
  unfold State.endLossIfLost
  split
  · exact frame_endLoss i .seats (by decide)
  · rfl

theorem endLossIfLost_signal (s : State) (i : SeatId) : (s.endLossIfLost i).signal = s.signal.set i
    (if s.seats[i].state = .lost then { s.signal[i] with cause := .none, lossStart := none, grace := none }
     else s.signal[i]) := by
  split
  next h => rw [endLossIfLost_of_lost h, endLoss_signal]
  next h => rw [endLossIfLost_of_not h, set_same]

/-! ## Refusals (R17) -/

theorem refusing_seats (s : State) (i : SeatId) :
    (refusing s i).seats = s.seats.set i { s.seats[i] with state := .refused, quiet := false } := by
  have kept : (((s.departIfActive i).dropSyncsOwed i).forgetConfirmed i).seats = (s.departIfActive i).seats :=
    frame_then (W := queueBlocks) (frame_dropSyncsOwed i) (frame_forgetConfirmed i) (by decide) .seats (by decide)
  rw [refusing, clearQuiet_seats, State.setSeatState, modSeat_seats, kept, departIfActive_seats]
  simp only [get_set_self, set_set_self]

theorem frame_refusing (s : State) (i : SeatId) : ChangesOnly [.seats, .signal, .mute, .alerts, .attention, .queue, .syncs,
    .markers] s (refusing s i) := by
  refine frame_then (W := [.seats, .signal, .mute, .alerts, .attention, .queue, .syncs, .markers]) ?_ (frame_clearQuiet i)
    (by decide)
  refine frame_then (W := [.seats, .signal, .mute, .alerts, .attention, .queue, .syncs, .markers]) ?_
    (frame_setSeatState i _) (by decide)
  refine frame_then (W := [.seats, .signal, .mute, .alerts, .attention, .queue, .syncs, .markers]) ?_
    (frame_forgetConfirmed i) (by decide)
  exact frame_then (frame_departIfActive_sections s i) (frame_dropSyncsOwed i) (by decide)

/-- What follows the departure in a refusal leaves seat sections alone. -/
theorem frame_refusing_departed (s : State) (i : SeatId) :
    ChangesOnly [.seats, .alerts, .attention, .queue, .syncs, .markers] (s.departIfActive i) (refusing s i) := by
  refine frame_then (W := [.seats, .alerts, .attention, .queue, .syncs, .markers]) ?_ (frame_clearQuiet i) (by decide)
  refine frame_then (W := [.seats, .alerts, .attention, .queue, .syncs, .markers]) ?_ (frame_setSeatState i _) (by decide)
  exact frame_then (frame_mono (frame_dropSyncsOwed i) (by decide)) (frame_forgetConfirmed i) (by decide)

theorem refuse_of (P : State → Prop) (kept : P (refusing s i))
    (raised : P ((refusing s i).raise (.seat i .formatRefused) .warning (.format f.format))) : P (s.refuse i f) := by
  rw [refuse_eq]
  split
  · exact kept
  · exact raised

theorem frame_refuse_refusing (s : State) (i : SeatId) (f : SeatFrame) :
    ChangesOnly rosterBlocks (refusing s i) (s.refuse i f) :=
  refuse_of (fun t => ChangesOnly rosterBlocks (refusing s i) t) frame_refl (frame_raise _ _ _)

theorem refuse_seats (s : State) (i : SeatId) (f : SeatFrame) :
    (s.refuse i f).seats = s.seats.set i { s.seats[i] with state := .refused, quiet := false } :=
  (frame_refuse_refusing s i f .seats (by decide)).trans (refusing_seats s i)

theorem refuse_signal (s : State) (i : SeatId) (f : SeatFrame) : (s.refuse i f).signal =
    s.signal.set i (if s.seats[i].state = .active then departedSignal s.signal[i] else s.signal[i]) :=
  ((frame_refuse_refusing s i f .signal (by decide)).trans (frame_refusing_departed s i .signal (by decide))).trans
    (departIfActive_signal s i)

theorem refuse_mute (s : State) (i : SeatId) (f : SeatFrame) : (s.refuse i f).mute =
    s.mute.set i (if s.seats[i].state = .active then s.mute[i].stopTimers else s.mute[i]) :=
  ((frame_refuse_refusing s i f .mute (by decide)).trans (frame_refusing_departed s i .mute (by decide))).trans
    (departIfActive_mute s i)

theorem frame_refuse_sections (s : State) (i : SeatId) (f : SeatFrame) : ChangesOnly [.seats, .signal, .mute, .alerts, .attention,
    .queue, .syncs, .markers] s (s.refuse i f) :=
  frame_then (frame_refusing s i) (frame_refuse_refusing s i f) (by decide)

theorem isRaised_refuse (s : State) (i : SeatId) (f : SeatFrame) :
    ((s.refuse i f).slot (.seat i .formatRefused)).isRaised = true := by
  rw [refuse_eq]
  split
  next h => exact h
  next => exact isRaised_of_grade_raised (setsGrade_raise _ _ _ _).1

/-! ## Appearances (R18) -/

theorem target_eq_active_or_standby (f : SeatFrame) : f.target = .active ∨ f.target = .standby := by
  unfold SeatFrame.target
  split
  · exact .inr rfl
  · exact .inl rfl

/-- An appearance's departure, if the seat is ACTIVE and goes to STANDBY. -/
def gone (s : State) (i : SeatId) (f : SeatFrame) : State := if f.target = .standby then s.departIfActive i else s

theorem frame_gone (s : State) (i : SeatId) (f : SeatFrame) : ChangesOnly [.seats, .signal, .mute, .alerts, .attention, .queue,
    .syncs, .markers] s (gone s i f) := frame_ite (frame_departIfActive_sections s i) frame_refl

theorem gone_seats (s : State) (i : SeatId) (f : SeatFrame) : (gone s i f).seats = s.seats.set i { s.seats[i] with
    quiet := if f.target = .standby ∧ s.seats[i].state = .active then false else s.seats[i].quiet } := by
  unfold gone
  by_cases h : f.target = .standby
  · simp only [h, if_true, true_and, departIfActive_seats]
  · simp only [h, if_false, false_and]
    exact (set_same _ _).symm

theorem gone_signal (s : State) (i : SeatId) (f : SeatFrame) : (gone s i f).signal = s.signal.set i
    (if f.target = .standby ∧ s.seats[i].state = .active then departedSignal s.signal[i] else s.signal[i]) := by
  unfold gone
  by_cases h : f.target = .standby
  · simp only [h, if_true, true_and, departIfActive_signal]
  · simp only [h, if_false, false_and, set_same]

theorem gone_mute (s : State) (i : SeatId) (f : SeatFrame) : (gone s i f).mute = s.mute.set i
    (if f.target = .standby ∧ s.seats[i].state = .active then s.mute[i].stopTimers else s.mute[i]) := by
  unfold gone
  by_cases h : f.target = .standby
  · simp only [h, if_true, true_and, departIfActive_mute]
  · simp only [h, if_false, false_and, set_same]

/-- What an appearance leaves of the signal record, but for the loss timer. -/
def reset (g : Signal) (f : SeatFrame) : Signal := { g with history := [], weakStreak := 0, strength := some (10 * f.strength) }

theorem frame_appearing_tail (s : State) (i : SeatId) (f : SeatFrame) :
    ChangesOnly [.seats, .alerts, .attention, .queue, .syncs, .markers]
      (((gone s i f).setSeatState i f.target).modSignal i fun g => reset g f) (appearing s i f) := by
  refine frame_then (W := [.seats, .alerts, .attention, .queue, .syncs, .markers]) ?_ (frame_clearQuiet i) (by decide)
  refine frame_then (W := [.seats, .alerts, .attention, .queue, .syncs, .markers]) ?_ (frame_endCondition _) (by decide)
  exact frame_then (frame_mono (frame_dropSyncsOwed i) (by decide)) (frame_forgetConfirmed i) (by decide)

theorem appearing_seats (s : State) (i : SeatId) (f : SeatFrame) :
    (appearing s i f).seats = s.seats.set i { s.seats[i] with state := f.target, quiet := false } := by
  have kept {u : State} : (((u.dropSyncsOwed i).forgetConfirmed i).endCondition (.seat i .formatRefused)).seats = u.seats :=
    frame_then (W := .alerts :: queueBlocks) (frame_then (frame_mono (frame_dropSyncsOwed i) (by decide))
      (frame_forgetConfirmed i) (by decide)) (frame_endCondition _) (by decide) .seats (by decide)
  rw [appearing, clearQuiet_seats, kept, modSignal_seats, State.setSeatState, modSeat_seats,
    show (if f.target = .standby then s.departIfActive i else s).seats = _ from gone_seats s i f]
  simp only [get_set_self, set_set_self]

theorem appearing_signal (s : State) (i : SeatId) (f : SeatFrame) : (appearing s i f).signal = s.signal.set i
    (reset (if f.target = .standby ∧ s.seats[i].state = .active then departedSignal s.signal[i] else s.signal[i]) f) := by
  rw [show (appearing s i f).signal = _ from frame_appearing_tail s i f .signal (by decide), modSignal_signal,
    State.setSeatState, modSeat_signal, gone_signal, get_set_self, set_set_self]

theorem appearing_mute (s : State) (i : SeatId) (f : SeatFrame) : (appearing s i f).mute = s.mute.set i
    (if f.target = .standby ∧ s.seats[i].state = .active then s.mute[i].stopTimers else s.mute[i]) := by
  rw [show (appearing s i f).mute = _ from frame_appearing_tail s i f .mute (by decide), modSignal_mute,
    State.setSeatState, modSeat_mute, gone_mute]

theorem frame_appearing (s : State) (i : SeatId) (f : SeatFrame) : ChangesOnly [.seats, .signal, .mute, .alerts, .attention,
    .queue, .syncs, .markers] s (appearing s i f) := by
  refine frame_then (W := [.seats, .signal, .mute, .alerts, .attention, .queue, .syncs, .markers]) ?_
    (frame_appearing_tail s i f) (by decide)
  exact frame_then (frame_then (frame_gone s i f) (frame_setSeatState i _) (by decide)) (frame_modSignal i _) (by decide)

theorem frame_appear_appearing (s : State) (i : SeatId) (f : SeatFrame) :
    ChangesOnly [.signal] (appearing s i f) (s.appear i f) := by
  rw [appear_eq]
  exact frame_ite (frame_startLossTimer i) frame_refl

theorem appear_seats (s : State) (i : SeatId) (f : SeatFrame) :
    (s.appear i f).seats = s.seats.set i { s.seats[i] with state := f.target, quiet := false } :=
  (frame_appear_appearing s i f .seats (by decide)).trans (appearing_seats s i f)

theorem appear_mute (s : State) (i : SeatId) (f : SeatFrame) : (s.appear i f).mute = s.mute.set i
    (if f.target = .standby ∧ s.seats[i].state = .active then s.mute[i].stopTimers else s.mute[i]) :=
  (frame_appear_appearing s i f .mute (by decide)).trans (appearing_mute s i f)

theorem appear_signal_of_active (h : f.target = .active) : (s.appear i f).signal = s.signal.set i
    { reset s.signal[i] f with lossTimer := some s.params.lossTime } := by
  have stays : ¬(f.target = .standby ∧ s.seats[i].state = .active) := fun both => by
    rw [h] at both
    cases both.1
  have params : (appearing s i f).params = s.params := frame_appearing s i f .params (by decide)
  rw [appear_eq, if_pos h, State.startLossTimer, modSignal_signal, appearing_signal, if_neg stays, get_set_self, set_set_self,
    params]

theorem appear_signal_of_standby (h : f.target = .standby) : (s.appear i f).signal = s.signal.set i
    (reset (if s.seats[i].state = .active then departedSignal s.signal[i] else s.signal[i]) f) := by
  have idle : ¬f.target = .active := by rw [h]; decide
  rw [appear_eq, if_neg idle, appearing_signal]
  simp only [h, true_and]

theorem frame_appear_sections (s : State) (i : SeatId) (f : SeatFrame) : ChangesOnly [.seats, .signal, .mute, .alerts,
    .attention, .queue, .syncs, .markers] s (s.appear i f) :=
  frame_then (frame_appearing s i f) (frame_appear_appearing s i f) (by decide)

theorem slot_formatRefused_appear (s : State) (i : SeatId) (f : SeatFrame) :
    ((s.appear i f).slot (.seat i .formatRefused)).isRaised = false := by
  have cleared : ((appearing s i f).slot (.seat i .formatRefused)).isRaised = false := by
    rw [appearing, isRaised_of_grade (keepsGrades_clearQuiet i _)]
    exact isRaised_endCondition _ _
  rw [slot_of_alerts (frame_appear_appearing s i f .alerts (by decide))]
  exact cleared

/-! ## Normal frames (R19, R20, R22) -/

theorem normalFrame_of_active (h : s.seats[i].state = .active) : s.normalFrame i f =
    if f.audio = .standby then (s.depart i).setSeatState i .standby else s.startLossTimer i := by
  rw [State.normalFrame, h]

theorem normalFrame_of_standby (h : s.seats[i].state = .standby) : s.normalFrame i f =
    if f.audio = .standby then s
    else ((s.setSeatState i .active).startLossTimer i).modSync i fun y => { y with owed := true } := by
  rw [State.normalFrame, h]

theorem normalFrame_of_lost (h : s.seats[i].state = .lost) : s.normalFrame i f =
    if f.audio = .standby then s.setSeatState i .standby else (s.setSeatState i .active).startLossTimer i := by
  rw [State.normalFrame, h]

/-- The states in which a normal frame changes the seat state. -/
def Hears (s : State) (i : SeatId) : Prop :=
  s.seats[i].state = .active ∨ s.seats[i].state = .standby ∨ s.seats[i].state = .lost

theorem target_eq_ite (f : SeatFrame) : f.target = if f.audio = .standby then .standby else .active := rfl

theorem normalFrame_seats (h : Hears s i) : (s.normalFrame i f).seats = s.seats.set i { s.seats[i] with
    state := f.target
    quiet := if f.audio = .standby ∧ s.seats[i].state = .active then false else s.seats[i].quiet } := by
  rw [target_eq_ite]
  rcases h with h | h | h
  · rw [normalFrame_of_active h]
    by_cases a : f.audio = .standby
    · simp only [a, h, if_true, and_self, State.setSeatState, modSeat_seats, depart_seats, get_set_self, set_set_self]
    · simp only [a, if_false, false_and, State.startLossTimer, modSignal_seats]
      rw [← h]
      exact (set_same _ _).symm
  · rw [normalFrame_of_standby h]
    by_cases a : f.audio = .standby
    · simp only [a, if_true, h, reduceCtorEq, and_false, if_false]
      rw [← h]
      exact (set_same _ _).symm
    · simp only [a, if_false, false_and, State.startLossTimer, State.setSeatState, modSync_seats, modSignal_seats,
        modSeat_seats]
  · rw [normalFrame_of_lost h]
    by_cases a : f.audio = .standby
    · simp only [a, if_true, h, reduceCtorEq, and_false, if_false, State.setSeatState, modSeat_seats]
    · simp only [a, if_false, false_and, State.startLossTimer, State.setSeatState, modSignal_seats, modSeat_seats]

theorem normalFrame_mute (h : Hears s i) : (s.normalFrame i f).mute = s.mute.set i
    (if f.audio = .standby ∧ s.seats[i].state = .active then s.mute[i].stopTimers else s.mute[i]) := by
  rcases h with h | h | h
  · rw [normalFrame_of_active h]
    by_cases a : f.audio = .standby
    · simp only [a, h, if_true, and_self, State.setSeatState, modSeat_mute, depart_mute]
    · simp only [a, if_false, false_and, State.startLossTimer, modSignal_mute, set_same]
  · rw [normalFrame_of_standby h]
    by_cases a : f.audio = .standby
    · simp only [a, if_true, h, reduceCtorEq, and_false, if_false, set_same]
    · simp only [a, if_false, false_and, State.startLossTimer, State.setSeatState, modSync_mute, modSignal_mute,
        modSeat_mute, set_same]
  · rw [normalFrame_of_lost h]
    by_cases a : f.audio = .standby
    · simp only [a, if_true, h, reduceCtorEq, and_false, if_false, State.setSeatState, modSeat_mute, set_same]
    · simp only [a, if_false, false_and, State.startLossTimer, State.setSeatState, modSignal_mute, modSeat_mute, set_same]

theorem normalFrame_signal_of_live (h : Hears s i) (live : f.audio ≠ .standby) :
    (s.normalFrame i f).signal = s.signal.set i { s.signal[i] with lossTimer := some s.params.lossTime } := by
  rcases h with h | h | h
  · rw [normalFrame_of_active h, if_neg live]; rfl
  · rw [normalFrame_of_standby h, if_neg live]; rfl
  · rw [normalFrame_of_lost h, if_neg live]; rfl

theorem normalFrame_signal_of_standby (h : Hears s i) (standby : f.audio = .standby) : (s.normalFrame i f).signal =
    s.signal.set i (if s.seats[i].state = .active then departedSignal s.signal[i] else s.signal[i]) := by
  rcases h with h | h | h
  · rw [normalFrame_of_active h, if_pos standby, if_pos h, State.setSeatState, modSeat_signal, depart_signal]
  · rw [normalFrame_of_standby h, if_pos standby, if_neg (by rw [h]; decide), set_same]
  · rw [normalFrame_of_lost h, if_pos standby, if_neg (by rw [h]; decide), State.setSeatState, modSeat_signal, set_same]

theorem frame_normalFrame_sections (s : State) (i : SeatId) (f : SeatFrame) : ChangesOnly [.seats, .signal, .mute, .alerts,
    .attention, .queue, .syncs, .markers] s (s.normalFrame i f) := by
  unfold State.normalFrame
  split
  · exact frame_ite (frame_then (frame_depart_sections s i) (frame_setSeatState i _) (by decide))
      (frame_mono (frame_startLossTimer i) (by decide))
  · refine frame_ite frame_refl (frame_then (W := [.seats, .signal, .mute, .alerts, .attention, .queue, .syncs, .markers])
      ?_ (frame_modSync i _) (by decide))
    exact frame_then (frame_mono (frame_setSeatState i _) (by decide)) (frame_startLossTimer i) (by decide)
  · exact frame_ite (frame_mono (frame_setSeatState i _) (by decide))
      (frame_then (frame_mono (frame_setSeatState i _) (by decide)) (frame_startLossTimer i) (by decide))
  all_goals exact frame_refl

end Sys2Proof.Machine.SeatWork
end

section
/-! PROOFS. What the Battery Gauge and the Signal Monitor leave of a frame they read: their sections of the seat, and the grades
of their conditions. -/

namespace Sys2Proof.Machine.SeatWork

open Sys2Proof Sys2Proof.Machine Sys2Proof.Machine.Laws Sys2Proof.Machine.SlotGrades Sys2Proof.Machine.Runs
open Sys2Proof.Machine.AntennaLinks

variable {s t u : State} {i : SeatId} {f : SeatFrame} {c : FrameClass} {k : SeatKind}

/-! ## Battery Gauge -/

theorem endBattery_battery (s : State) (i : SeatId) :
    (s.endBattery i).battery = s.battery.set i { s.battery[i] with status := .ok } := by
  rw [State.endBattery, modBattery_battery,
    show (s.endCondition (.seat i .battery)).battery = s.battery from frame_endCondition _ .battery (by decide)]

theorem severity_endBattery (s : State) (i : SeatId) : ((s.endBattery i).slot (.seat i .battery)).severity? = none := by
  have ended := isRaised_endCondition s (.seat i .battery)
  cases h : ((s.endCondition (.seat i .battery)).slot (.seat i .battery)).severity? with
  | none => exact h
  | some sev =>
    rw [isRaised_eq] at ended
    rw [severity?_eq] at h
    rw [h] at ended
    cases ended

/-- The severity of BATTERY after the streaks have acted on it (R62). -/
def severityAfter (b : Battery) (before : Option Severity) : Option Severity :=
  if b.critStreak = 3 then some .urgent else if b.lowStreak = 3 ∧ before = none then some .warning else before

/-- The battery state after the streaks have acted (R62). -/
def statusAfter (b : Battery) (before : Option Severity) : BatteryState :=
  if b.critStreak = 3 ∧ before ≠ some .urgent then .critical
  else if b.critStreak ≠ 3 ∧ b.lowStreak = 3 ∧ before = none then .low
  else b.status

theorem severity_of_raised {x : Slot} {r : Raised} (h : x = .raised r) : x.severity? = some r.severity := by rw [h]; rfl

theorem severity_of_not_raised {x : Slot} (h : ∀ r, x = .raised r → False) : x.severity? = none := by
  cases x with
  | raised r => exact (h r rfl).elim
  | clear => rfl
  | qualifying => rfl

theorem severity_of_sets {g : Grade} {src : Source} (h : SetsGrade src g s t) : (t.slot src).severity? = g.severity? := by
  rw [severity?_eq, h.1]

theorem raise_battery (src : Source) (sev : Severity) (d : FixedDetail) : (s.raise src sev d).battery = s.battery :=
  frame_raise src sev d .battery (by decide)

theorem escalate_battery (src : Source) (sev : Severity) : (s.escalate src sev).battery = s.battery :=
  frame_escalate src sev .battery (by decide)

theorem actOnStreaks_spec (s : State) (i : SeatId) :
    ((s.actOnStreaks i).slot (.seat i .battery)).severity? =
      severityAfter s.battery[i] (s.slot (.seat i .battery)).severity? ∧
    (s.actOnStreaks i).battery = s.battery.set i { s.battery[i] with
      status := statusAfter s.battery[i] (s.slot (.seat i .battery)).severity? } := by
  unfold State.actOnStreaks severityAfter statusAfter
  dsimp only
  by_cases crit : s.battery[i].critStreak = 3
  · rw [if_pos crit, if_pos crit]
    split
    next r raised =>
      have is : (s.slot (.seat i .battery)).isRaised = true := by rw [raised]; rfl
      rw [severity_of_raised raised]
      by_cases urgent : r.severity = .urgent
      · rw [if_pos urgent, urgent, if_neg (by simp), if_neg (by simp)]
        exact ⟨by rw [severity_of_raised raised, urgent], (set_same _ _).symm⟩
      · rw [if_neg urgent, if_pos ⟨crit, fun h => urgent (Option.some.inj h)⟩]
        refine ⟨severity_of_sets (setsGrade_escalate is .urgent), ?_⟩
        rw [modBattery_battery, escalate_battery]
    next h =>
      rw [severity_of_not_raised h, if_pos ⟨crit, nofun⟩]
      refine ⟨severity_of_sets (setsGrade_raise s _ _ _), ?_⟩
      rw [modBattery_battery, raise_battery]
  · rw [if_neg crit, if_neg crit, if_neg (c := s.battery[i].critStreak = 3 ∧ _) (fun h => crit h.1)]
    by_cases low : s.battery[i].lowStreak = 3
    · rw [if_pos low]
      split
      next r raised =>
        rw [severity_of_raised raised, if_neg (fun h => nomatch h.2), if_neg (fun h => nomatch h.2.2)]
        exact ⟨rfl, (set_same _ _).symm⟩
      next h =>
        rw [severity_of_not_raised h, if_pos ⟨low, rfl⟩, if_pos ⟨crit, low, rfl⟩]
        refine ⟨severity_of_sets (setsGrade_raise s _ _ _), ?_⟩
        rw [modBattery_battery, raise_battery]
    · rw [if_neg low, if_neg (fun h => low h.1), if_neg (fun h => low h.2.1)]
      exact ⟨rfl, (set_same _ _).symm⟩

/-- BATTERY as the streaks find it: ended by a swap (R57, R63). -/
def batteryBefore (s : State) (i : SeatId) (f : SeatFrame) (c : FrameClass) : Option Severity :=
  if s.battery[i].swaps f c then none else (s.slot (.seat i .battery)).severity?

/-- The record as the streaks find it. -/
def batteryRead (s : State) (i : SeatId) (f : SeatFrame) (c : FrameClass) : Battery :=
  { s.battery[i].read s.params f c with
    status := if s.battery[i].swaps f c then .ok else (s.battery[i].read s.params f c).status }

theorem gaugeReads_spec (s : State) (i : SeatId) (f : SeatFrame) (c : FrameClass) :
    ((s.gaugeReads i f c).slot (.seat i .battery)).severity? = severityAfter (batteryRead s i f c) (batteryBefore s i f c) ∧
    (s.gaugeReads i f c).battery = s.battery.set i { batteryRead s i f c with
      status := statusAfter (batteryRead s i f c) (batteryBefore s i f c) } := by
  have swapped (v : State) (hv : v = if s.battery[i].swaps f c then (s.modBattery i fun b => b.read s.params f c).endBattery i
      else s.modBattery i fun b => b.read s.params f c) :
      (v.slot (.seat i .battery)).severity? = batteryBefore s i f c ∧ v.battery = s.battery.set i (batteryRead s i f c) := by
    rw [hv, batteryBefore, batteryRead]
    by_cases swap : s.battery[i].swaps f c = true
    · simp only [swap, if_true]
      refine ⟨severity_endBattery _ _, ?_⟩
      rw [endBattery_battery, modBattery_battery, get_set_self, set_set_self]
    · simp only [swap]
      exact ⟨rfl, rfl⟩
  unfold State.gaugeReads
  dsimp only
  generalize hv : (if s.battery[i].swaps f c then (s.modBattery i fun b => b.read s.params f c).endBattery i
    else s.modBattery i fun b => b.read s.params f c) = v
  obtain ⟨before, table⟩ := swapped v hv.symm
  obtain ⟨severity, battery⟩ := actOnStreaks_spec v i
  have own : v.battery[i] = batteryRead s i f c := by rw [table, get_set_self]
  rw [own, before] at severity battery
  refine ⟨?_, ?_⟩
  · rw [slot_refresh]
    exact severity
  · rw [show ((v.actOnStreaks i).refresh (.seat i .battery)).battery = (v.actOnStreaks i).battery from
      frame_refresh _ .battery (by decide), battery, table, set_set_self]

/-- The Gauge leaves the grades of other conditions. -/
theorem grade_gaugeReads {o : Source} (ne : o ≠ .seat i .battery) : grade ((s.gaugeReads i f c).slot o) = grade (s.slot o) := by
  have acted (v : State) : grade ((v.actOnStreaks i).slot o) = grade (v.slot o) := by
    unfold State.actOnStreaks
    dsimp only
    split
    · split
      next r raised =>
        split
        · rfl
        · exact (setsGrade_escalate (by rw [raised]; rfl) .urgent).2 o ne
      next => exact (setsGrade_raise v _ _ _).2 o ne
    · split
      · split
        · rfl
        · exact (setsGrade_raise v _ _ _).2 o ne
      · rfl
  unfold State.gaugeReads
  dsimp only
  rw [slot_refresh, acted]
  split
  · exact grade_endCondition_ne ne
  · rfl

/-! ## Signal Monitor -/

/-- The weak streak after the weak test (R73). -/
def weakAfter (threshold : Int) (raised : Bool) (e : Int) (streak : Nat) : Nat :=
  if e < weakLevel threshold then satSucc 15 streak
  else if e < weakEndLevel threshold then (if raised then streak else 0) else 0

theorem weakTest_signal (s : State) (i : SeatId) (e : Int) : (s.weakTest i e).signal = s.signal.set i { s.signal[i] with
    weakStreak := weakAfter s.params.weakThreshold (s.slot (.seat i .signalWeak)).isRaised e s.signal[i].weakStreak } := by
  unfold State.weakTest weakAfter
  dsimp only
  split
  · split
    · exact frame_raise (s := s.modSignal i _) _ _ _ .signal (by decide)
    · rfl
  · split
    · split
      · exact (set_same _ _).symm
      · rfl
    · split
      · exact frame_endCondition (s := s.modSignal i _) _ .signal (by decide)
      · rfl

/-- The grade of SIGNAL_WEAK after the weak test (R73). -/
def weakGrade (threshold : Int) (g : Grade) (e : Int) (streak : Nat) : Grade :=
  if e < weakLevel threshold then (if !g.severity?.isSome && satSucc 15 streak == 15 then .raised .notice else g)
  else if e < weakEndLevel threshold then g
  else if g.severity?.isSome then .clear else g

theorem weakTest_grade (s : State) (i : SeatId) (e : Int) : SetsGrade (.seat i .signalWeak)
    (weakGrade s.params.weakThreshold (grade (s.slot (.seat i .signalWeak))) e s.signal[i].weakStreak) s (s.weakTest i e) := by
  have same (f : Signal → Signal) : SetsGrade (.seat i .signalWeak) (grade (s.slot (.seat i .signalWeak))) s (s.modSignal i f) :=
    ⟨rfl, fun _ _ => rfl⟩
  unfold State.weakTest weakGrade
  dsimp only
  rw [isRaised_eq]
  split
  · split
    · exact setsGrade_raise (s.modSignal i _) _ _ _
    · exact same _
  · split
    · split
      · exact setsGrade_same rfl
      · exact same _
    · split
      next raised => exact setsGrade_endCondition (s := s.modSignal i _) (by rw [isRaised_eq]; exact raised)
      next => exact same _

/-- The grade of LINK_ERRATIC after the erratic test (R76). -/
def erraticGrade (g : Grade) (h : List Bool) : Grade :=
  if g.severity?.isSome then (if misses h ≤ 4 then .clear else g)
  else if 12 ≤ misses h ∧ h.length = Config.historySize then .raised .notice else g

theorem erraticTest_grade (s : State) (i : SeatId) : SetsGrade (.seat i .linkErratic)
    (erraticGrade (grade (s.slot (.seat i .linkErratic))) s.signal[i].history) s (s.erraticTest i) := by
  unfold State.erraticTest erraticGrade
  dsimp only
  rw [isRaised_eq]
  split
  next raised =>
    split
    · exact setsGrade_endCondition (by rw [isRaised_eq]; exact raised)
    · exact setsGrade_same rfl
  · split
    · exact setsGrade_raise _ _ _ _
    · exact setsGrade_same rfl

/-- The smoothed strength after a frame (R72). -/
def smoothed (g : Signal) (f : SeatFrame) : Int := smooth ((g.strength).getD (10 * f.strength)) (10 * f.strength)

theorem monitorReads_signal (s : State) (i : SeatId) (f : SeatFrame) (c : FrameClass) :
    (s.monitorReads i f c).signal = s.signal.set i { s.signal[i] with
      strength := some (smoothed s.signal[i] f)
      weakStreak := weakAfter s.params.weakThreshold (s.slot (.seat i .signalWeak)).isRaised (smoothed s.signal[i] f)
        s.signal[i].weakStreak
      history := pushSlots s.signal[i].history (slotsOf c) } := by
  unfold State.monitorReads
  dsimp only
  rw [show (State.erraticTest _ i).signal = _ from frame_erraticTest i .signal (by decide),
    show (State.refresh _ (.seat i .linkErratic)).signal = _ from frame_refresh _ .signal (by decide), modSignal_signal,
    weakTest_signal, show (State.refresh _ (.seat i .signalWeak)).signal = _ from frame_refresh _ .signal (by decide),
    show (State.refresh _ (.seat i .signalWeak)).params = _ from frame_refresh _ .params (by decide), modSignal_signal]
  simp only [get_set_self, set_set_self, slot_refresh, modSignal_params]
  rfl

theorem monitorReads_grade (s : State) (i : SeatId) (f : SeatFrame) (c : FrameClass) :
    grade ((s.monitorReads i f c).slot (.seat i .signalWeak)) = weakGrade s.params.weakThreshold
      (grade (s.slot (.seat i .signalWeak))) (smoothed s.signal[i] f) s.signal[i].weakStreak ∧
    grade ((s.monitorReads i f c).slot (.seat i .linkErratic)) =
      erraticGrade (grade (s.slot (.seat i .linkErratic))) (pushSlots s.signal[i].history (slotsOf c)) ∧
    ∀ o, o ≠ .seat i .signalWeak → o ≠ .seat i .linkErratic →
      grade ((s.monitorReads i f c).slot o) = grade (s.slot o) := by
  let s1 := (s.modSignal i fun g => { g with strength := some (smoothed s.signal[i] f) }).refresh (.seat i .signalWeak)
  let s2 := s1.weakTest i (smoothed s.signal[i] f)
  let s3 := (s2.modSignal i fun g => { g with history := pushSlots g.history (slotsOf c) }).refresh (.seat i .linkErratic)
  have first : KeepsGrades s s1 := keepsGrades_refresh (s := s.modSignal i _) _
  have third : KeepsGrades s2 s3 := keepsGrades_refresh (s := s2.modSignal i _) _
  have signal1 : s1.signal = s.signal.set i { s.signal[i] with strength := some (smoothed s.signal[i] f) } :=
    frame_refresh (s := s.modSignal i _) _ .signal (by decide)
  have params1 : s1.params = s.params := frame_refresh (s := s.modSignal i _) _ .params (by decide)
  have weak := weakTest_grade s1 i (smoothed s.signal[i] f)
  have erratic := erraticTest_grade s3 i
  have signal3 : s3.signal[i].history = pushSlots s.signal[i].history (slotsOf c) := by
    rw [show s3.signal = (s2.modSignal i fun g => { g with history := pushSlots g.history (slotsOf c) }).signal from
      frame_refresh _ .signal (by decide), modSignal_signal, get_set_self, show s2.signal = _ from weakTest_signal s1 i _,
      get_set_self, signal1, get_set_self]
  rw [first (.seat i .signalWeak), signal1, get_set_self, params1] at weak
  rw [signal3, third (.seat i .linkErratic), weak.2 (.seat i .linkErratic) (by simp),
    first (.seat i .linkErratic)] at erratic
  refine ⟨?_, erratic.1, fun o ne ne' => ?_⟩
  · exact (erratic.2 (.seat i .signalWeak) (by simp)).trans ((third _).trans weak.1)
  · exact (erratic.2 o ne').trans ((third o).trans ((weak.2 o ne).trans (first o)))

end Sys2Proof.Machine.SeatWork
end

section
/-! PROOFS. What every operation on a seat keeps of the seat itself: its binding, the length of its history, its loss timer
running only while it is ACTIVE, and qualify timers, loss and attribution at work only beside slots that are not RAISED. -/

namespace Sys2Proof.Machine.SeatWork

open Sys2Proof Sys2Proof.Machine Sys2Proof.Machine.Laws Sys2Proof.Machine.SlotGrades Sys2Proof.Machine.Runs
open Sys2Proof.Machine.AntennaLinks

variable {s t u : State} {i : SeatId} {l : LinkId} {k : SeatKind} {f : SeatFrame}

/-! ## The seat's part of the invariants -/

/-- The timer that a QUALIFYING mute condition waits for (R96, R97). -/
def qualifyTimer (m : Mute) : SeatKind → Timer
  | .voiceInMute => m.voiceQualify
  | .openNoFloor => m.openGrace
  | .floorMuted => m.floorMutedQualify
  | _ => none

/-- A running qualify timer is a QUALIFYING condition's of a bound seat. -/
def KindFits (s : State) (i : SeatId) (k : SeatKind) : Prop :=
  (qualifyTimer s.mute[i] k).isSome = true → s.slot (.seat i k) = .qualifying ∧ s.bound i = true

/-- A running loss timer is an ACTIVE seat's. -/
def Timed (s : State) (i : SeatId) : Prop := s.signal[i].lossTimer.isSome = true → s.seats[i].state = .active

/-- A loss of the seat's own stands while it is LOST by cause SIGNAL, and an attribution while it is LOST. -/
def LossFits (s : State) (i : SeatId) : Prop :=
  ((s.slot (.seat i .signalLoss)).isRaised = true → s.seats[i].state = .lost ∧ s.signal[i].cause = .signal) ∧
  ∀ l, s.signal[i].cause = .link l → s.seats[i].state = .lost

/-- What can raise a condition of the seat is at work only while it is not raised. -/
def SeatFits (s : State) (i : SeatId) : Prop := (∀ k, KindFits s i k) ∧ Timed s i ∧ LossFits s i

/-- What can raise RECEIVER_LINK is at work only while it is not raised. -/
def LinkFits (s : State) (l : LinkId) : Prop :=
  (s.links[l].silence.isSome = true → s.links[l].state = .up) ∧
  (s.links[l].state = .up → (s.slot (.link l)).isRaised = false) ∧
  (s.links[l].enable = false → s.links[l].state = .disabled)

theorem conditionsMatch_iff : ConditionsMatch s ↔ (∀ i, SeatFits s i) ∧ ∀ l, LinkFits s l := by
  refine and_congr (forall_congr' fun i => ⟨fun h => ?_, fun h => ?_⟩) Iff.rfl
  · obtain ⟨voice, opened, muted, timed, loss, cause⟩ := h
    refine ⟨fun k => ?_, timed, loss, cause⟩
    cases k with
    | voiceInMute => exact voice
    | openNoFloor => exact opened
    | floorMuted => exact muted
    | _ => exact nofun
  · obtain ⟨kinds, timed, loss, cause⟩ := h
    exact ⟨kinds .voiceInMute, kinds .openNoFloor, kinds .floorMuted, timed, loss, cause⟩

/-- What the operations on a seat keep of it. -/
structure SeatKeeps (i : SeatId) (s t : State) : Prop where
  bound : s.bound i = true → t.bound i = true
  timed : Timed s i → Timed t i ∧ t.bound i = s.bound i
  history : s.signal[i].history.length ≤ 64 → t.signal[i].history.length ≤ 64
  fits : SeatFits s i → SeatFits t i

theorem SeatKeeps.refl (s : State) : SeatKeeps i s s := ⟨id, fun h => ⟨h, rfl⟩, id, id⟩

theorem SeatKeeps.trans (h : SeatKeeps i s t) (k : SeatKeeps i t u) : SeatKeeps i s u where
  bound b := k.bound (h.bound b)
  timed a := by
    obtain ⟨middle, bound⟩ := h.timed a
    obtain ⟨last, bound'⟩ := k.timed middle
    exact ⟨last, bound'.trans bound⟩
  history a := k.history (h.history a)
  fits a := k.fits (h.fits a)

theorem SeatKeeps.after (last : SeatKeeps i t u) (h : SeatKeeps i s t) : SeatKeeps i s u := h.trans last

theorem SeatKeeps.ite {c : Prop} [Decidable c] (ht : c → SeatKeeps i s t) (hu : ¬c → SeatKeeps i s u) :
    SeatKeeps i s (if c then t else u) := by
  split
  next h => exact ht h
  next h => exact hu h

theorem bound_of_state (h : t.seats[i].state = s.seats[i].state) : t.bound i = s.bound i := by
  rw [State.bound, h]
  rfl

theorem bound_iff : s.bound i = true ↔ s.seats[i].state ≠ .vacant := bne_iff_ne

/-- An operation that leaves the seat's state and loss. -/
theorem seatKeeps_of (state : t.seats[i].state = s.seats[i].state) (lossTimer : t.signal[i].lossTimer = s.signal[i].lossTimer)
    (cause : t.signal[i].cause = s.signal[i].cause)
    (loss : grade (t.slot (.seat i .signalLoss)) = grade (s.slot (.seat i .signalLoss)))
    (history : s.signal[i].history.length ≤ 64 → t.signal[i].history.length ≤ 64)
    (kinds : (∀ k, KindFits s i k) → ∀ k, KindFits t i k) : SeatKeeps i s t where
  bound h := (bound_of_state state).trans h
  timed h := ⟨fun running => by rw [state]; exact h (lossTimer ▸ running), bound_of_state state⟩
  history := history
  fits := by
    rintro ⟨hk, timed, raised, attributed⟩
    refine ⟨kinds hk, fun running => by rw [state]; exact timed (lossTimer ▸ running), fun h => ?_, fun l h => ?_⟩
    · rw [isRaised_of_grade loss] at h
      rw [state, cause]
      exact raised h
    · rw [cause] at h
      rw [state]
      exact attributed l h

/-- Condition and timer stand as they did. -/
theorem kindFits_of_same (state : t.seats[i].state = s.seats[i].state)
    (timer : qualifyTimer t.mute[i] k = qualifyTimer s.mute[i] k)
    (same : grade (t.slot (.seat i k)) = grade (s.slot (.seat i k))) (h : KindFits s i k) : KindFits t i k := by
  intro running
  rw [timer] at running
  obtain ⟨qualifying, bound⟩ := h running
  rw [← grade_eq_qualifying] at qualifying ⊢
  exact ⟨same.trans qualifying, (bound_of_state state).trans bound⟩

theorem kindFits_of_stopped (h : qualifyTimer t.mute[i] k = none) : KindFits t i k := by
  intro running
  rw [h] at running
  cases running

theorem state_of_seats (h : t.seats = s.seats) : t.seats[i].state = s.seats[i].state := by rw [h]

/-- Seats and signal record are the same, and of the kinds only one has changed. -/
theorem seatKeeps_of_kind {W : List Block} (k : SeatKind) (h : ChangesOnly W s t) (hW : Block.seats ∉ W ∧ Block.signal ∉ W)
    (loss : k ≠ .signalLoss) (grades : ∀ k', k' ≠ k → grade (t.slot (.seat i k')) = grade (s.slot (.seat i k')))
    (timers : ∀ k', k' ≠ k → qualifyTimer t.mute[i] k' = qualifyTimer s.mute[i] k')
    (here : KindFits s i k → KindFits t i k) : SeatKeeps i s t := by
  have seats : t.seats = s.seats := h .seats hW.1
  have signal : t.signal = s.signal := h .signal hW.2
  refine seatKeeps_of (state_of_seats seats) (by rw [signal]) (by rw [signal]) (grades _ loss.symm) (by rw [signal]; exact id) ?_
  intro fits k'
  by_cases same : k' = k
  · subst same; exact here (fits _)
  · exact kindFits_of_same (state_of_seats seats) (timers k' same) (grades k' same) (fits k')

/-- Only conditions without a qualify timer have changed. -/
theorem seatKeeps_of_grades {W : List Block} (h : ChangesOnly W s t) (hW : Block.seats ∉ W ∧ Block.signal ∉ W)
    (grades : ∀ k ∈ [SeatKind.voiceInMute, .openNoFloor, .floorMuted, .signalLoss],
      grade (t.slot (.seat i k)) = grade (s.slot (.seat i k)))
    (timers : ∀ k, qualifyTimer t.mute[i] k = qualifyTimer s.mute[i] k) : SeatKeeps i s t := by
  have seats : t.seats = s.seats := h .seats hW.1
  have signal : t.signal = s.signal := h .signal hW.2
  refine seatKeeps_of (state_of_seats seats) (by rw [signal]) (by rw [signal]) (grades _ (by decide)) (by rw [signal]; exact id) ?_
  intro fits k
  by_cases mute : k ∈ [SeatKind.voiceInMute, .openNoFloor, .floorMuted, .signalLoss]
  · exact kindFits_of_same (state_of_seats seats) (timers k) (grades k mute) (fits k)
  · refine kindFits_of_stopped ?_
    cases k <;> first | rfl | exact absurd (by decide) mute

theorem seatKeeps_of_frame {W : List Block} (h : ChangesOnly W s t)
    (hW : Block.seats ∉ W ∧ Block.signal ∉ W ∧ Block.mute ∉ W) (grades : KeepsGrades s t) : SeatKeeps i s t :=
  seatKeeps_of_grades h ⟨hW.1, hW.2.1⟩ (fun k _ => grades (.seat i k)) fun _ => by
    rw [show t.mute = s.mute from h .mute hW.2.2]

theorem seatKeeps_of_sets {W : List Block} {k : SeatKind} {g : Grade} (h : ChangesOnly W s t)
    (hW : Block.seats ∉ W ∧ Block.signal ∉ W ∧ Block.mute ∉ W) (set : SetsGrade (.seat i k) g s t)
    (hk : k ∉ [SeatKind.voiceInMute, .openNoFloor, .floorMuted, .signalLoss]) : SeatKeeps i s t :=
  seatKeeps_of_grades h ⟨hW.1, hW.2.1⟩ (fun k' hk' => set.2 _ fun same => hk ((Source.seat.inj same).2 ▸ hk')) fun _ => by
    rw [show t.mute = s.mute from h .mute hW.2.2]

theorem seatKeeps_modMute (g : Mute → Mute) (hg : ∀ m k, qualifyTimer (g m) k = qualifyTimer m k) :
    SeatKeeps i s (s.modMute i g) :=
  seatKeeps_of_grades (frame_modMute i g) (by decide) (fun _ _ => rfl) fun k => by rw [modMute_mute, get_set_self, hg]

theorem seatKeeps_modSignal (g : Signal → Signal) (lossTimer : (g s.signal[i]).lossTimer = s.signal[i].lossTimer)
    (cause : (g s.signal[i]).cause = s.signal[i].cause)
    (history : s.signal[i].history.length ≤ 64 → (g s.signal[i]).history.length ≤ 64) : SeatKeeps i s (s.modSignal i g) := by
  refine seatKeeps_of rfl ?_ ?_ rfl ?_ fun h => h
  all_goals rw [modSignal_signal, get_set_self]
  · exact lossTimer
  · exact cause
  · exact history

theorem seatKeeps_modSeat (g : SeatRec → SeatRec) (hg : ∀ q, (g q).state = q.state) : SeatKeeps i s (s.modSeat i g) := by
  have state : (s.modSeat i g).seats[i].state = s.seats[i].state := by rw [modSeat_seats, get_set_self, hg]
  exact seatKeeps_of state rfl rfl rfl id fun h k => kindFits_of_same state rfl rfl (h k)

/-! ## Evaluators -/

theorem seatKeeps_derive : SeatKeeps i s (s.derive i) :=
  .ite (fun _ => .refl s) fun _ => SeatKeeps.after
    (seatKeeps_of_frame (frame_requestSync i) (by decide) (keepsGrades_of_frame (frame_requestSync i) (by decide)))
    (seatKeeps_modMute _ fun _ k => by cases k <;> rfl)

theorem seatKeeps_requestSync : SeatKeeps i s (s.requestSync i) :=
  seatKeeps_of_frame (frame_requestSync i) (by decide) (keepsGrades_of_frame (frame_requestSync i) (by decide))

theorem seatKeeps_gaugeReads (c : FrameClass) : SeatKeeps i s (s.gaugeReads i f c) :=
  seatKeeps_of_grades (frame_gaugeReads i f c) (by decide)
    (fun k hk => grade_gaugeReads fun same => by
      rw [(Source.seat.inj same).2] at hk
      exact absurd hk (by decide))
    fun _ => by rw [show (s.gaugeReads i f c).mute = s.mute from frame_gaugeReads i f c .mute (by decide)]

theorem length_pushSlots (h new : List Bool) : (pushSlots h new).length ≤ 64 := by
  have size : Config.historySize = 64 := rfl
  unfold pushSlots
  rw [List.length_drop, size]
  omega

theorem seatKeeps_monitorReads (c : FrameClass) : SeatKeeps i s (s.monitorReads i f c) := by
  have frame := frame_monitorReads (s := s) i f c
  have seats : (s.monitorReads i f c).seats = s.seats := frame .seats (by decide)
  have mute : (s.monitorReads i f c).mute = s.mute := frame .mute (by decide)
  have grades (k : SeatKind) (hk : k ≠ .signalWeak) (hk' : k ≠ .linkErratic) :=
    (monitorReads_grade s i f c).2.2 (.seat i k) (fun same => hk (Source.seat.inj same).2) fun same => hk' (Source.seat.inj same).2
  refine seatKeeps_of (state_of_seats seats) ?_ ?_ (grades _ (by decide) (by decide)) (fun _ => ?_) fun fits k => ?_
  · rw [monitorReads_signal, get_set_self]
  · rw [monitorReads_signal, get_set_self]
  · rw [monitorReads_signal, get_set_self]
    exact length_pushSlots _ _
  · by_cases weak : k = .signalWeak
    · exact kindFits_of_stopped (by rw [weak]; rfl)
    · by_cases erratic : k = .linkErratic
      · exact kindFits_of_stopped (by rw [erratic]; rfl)
      · exact kindFits_of_same (state_of_seats seats) (by rw [mute]) (grades k weak erratic) (fits k)

/-! ## Mute conditions -/

theorem seatKeeps_raise (kind : k ∈ [SeatKind.voiceInMute, .openNoFloor, .floorMuted]) (stopped : SeatFits s i → qualifyTimer s.mute[i] k = none)
    (sev : Severity) (d : FixedDetail) : SeatKeeps i s (s.raise (.seat i k) sev d) := by
  have frame := frame_raise (s := s) (.seat i k) sev d
  have set := setsGrade_raise s (.seat i k) sev d
  have mute : (s.raise (.seat i k) sev d).mute = s.mute := frame .mute (by decide)
  have seats : (s.raise (.seat i k) sev d).seats = s.seats := frame .seats (by decide)
  have signal : (s.raise (.seat i k) sev d).signal = s.signal := frame .signal (by decide)
  have loss : SeatKind.signalLoss ≠ k := by rintro rfl; exact absurd kind (by decide)
  have others {k' : SeatKind} (ne : k' ≠ k) := set.2 (.seat i k') fun same => ne (Source.seat.inj same).2
  constructor
  · exact fun h => (bound_of_state (state_of_seats seats)).trans h
  · refine fun h => ⟨fun running => ?_, bound_of_state (state_of_seats seats)⟩
    rw [seats]
    exact h (signal ▸ running)
  · rw [signal]; exact id
  · intro fits
    have none := stopped fits
    obtain ⟨kinds, timed, raised, attributed⟩ := fits
    refine ⟨fun k' => ?_, fun running => by rw [seats]; exact timed (signal ▸ running), fun h => ?_, fun l h => ?_⟩
    · by_cases same : k' = k
      · subst same; exact kindFits_of_stopped (by rw [mute]; exact none)
      · exact kindFits_of_same (state_of_seats seats) (by rw [mute]) (others same) (kinds k')
    · rw [isRaised_of_grade (others loss)] at h
      rw [seats, signal]
      exact raised h
    · rw [signal] at h
      rw [seats]
      exact attributed l h

/-- A mute condition that begins to qualify on a bound seat, with its timer started (R96, R97). -/
theorem seatKeeps_qualifies (bound : s.bound i = true) (loss : k ≠ .signalLoss) (g : Mute → Mute)
    (hg : ∀ m k', k' ≠ k → qualifyTimer (g m) k' = qualifyTimer m k') :
    SeatKeeps i s ((s.setSlot (.seat i k) .qualifying).modMute i g) := by
  have set := setsGrade_setSlot s (.seat i k) .qualifying
  refine seatKeeps_of_kind k (frame_then (W := [.alerts, .mute]) (frame_mono (frame_setSlot _ _) (by decide)) (frame_modMute i g)
    (by decide)) (by decide) loss (fun k' ne => set.2 (.seat i k') fun same => ne (Source.seat.inj same).2) (fun k' ne => ?_)
    fun _ _ => ⟨grade_eq_qualifying.1 set.1, bound⟩
  rw [modMute_mute, get_set_self]
  exact hg _ k' ne

/-- A mute condition that ends or is cancelled with its timer (R96, R97). -/
theorem seatKeeps_stops {v : State} (h : ChangesOnly [.alerts, .attention] s v) (set : SetsGrade (.seat i k) .clear s v)
    (loss : k ≠ .signalLoss) (g : Mute → Mute)
    (hg : ∀ m k', k' ≠ k → qualifyTimer (g m) k' = qualifyTimer m k') (stop : ∀ m, qualifyTimer (g m) k = none) :
    SeatKeeps i s (v.modMute i g) := by
  have mute : v.mute = s.mute := h .mute (by decide)
  refine seatKeeps_of_kind k (frame_then (W := [.alerts, .attention, .mute]) (frame_mono h (by decide)) (frame_modMute i g)
    (by decide)) (by decide) loss (fun k' ne => set.2 (.seat i k') fun same => ne (Source.seat.inj same).2) (fun k' ne => ?_)
    fun _ => kindFits_of_stopped ?_
  · rw [modMute_mute, get_set_self, hg _ k' ne, mute]
  · rw [modMute_mute, get_set_self, stop]

theorem seatKeeps_dropFloorMuted : SeatKeeps i s (s.dropFloorMuted i) :=
  seatKeeps_stops (frame_endOrCancel _) (setsGrade_endOrCancel _ _) (by decide) _
    (fun _ k ne => by cases k <;> first | rfl | exact absurd rfl ne) fun _ => rfl

theorem seatKeeps_dropOpenNoFloor : SeatKeeps i s (s.dropOpenNoFloor i) :=
  seatKeeps_stops (frame_endOrCancel _) (setsGrade_endOrCancel _ _) (by decide) _
    (fun _ k ne => by cases k <;> first | rfl | exact absurd rfl ne) fun _ => rfl

/-- The timer of a condition that is not QUALIFYING is stopped. -/
theorem qualifyTimer_of_not_qualifying (h : SeatFits s i) (idle : s.slot (.seat i k) ≠ .qualifying) :
    qualifyTimer s.mute[i] k = none := by
  cases timer : qualifyTimer s.mute[i] k with
  | none => rfl
  | some n => exact absurd (h.1 k (by rw [timer]; rfl)).1 idle

theorem seatKeeps_raiseOpenNoFloor (h : SeatFits s i → s.mute[i].openGrace = none) (a : AudioState) :
    SeatKeeps i s (s.raiseOpenNoFloor i a) := by
  have raised : SeatKeeps i s (s.raise (.seat i .openNoFloor) .warning (.audio a)) :=
    seatKeeps_raise (by decide) h _ _
  exact .ite (fun _ => seatKeeps_dropFloorMuted.after (SeatKeeps.after
    (seatKeeps_modMute _ fun _ k => by cases k <;> rfl) raised)) fun _ => raised

theorem seatKeeps_countToggle : SeatKeeps i s (s.countToggle i) := by
  unfold State.countToggle
  dsimp only
  refine .ite (fun _ => .ite (fun _ => ?_) fun _ => ?_) fun _ => ?_
  · exact (seatKeeps_of_sets (frame_setSlot _ _) (by decide) (setsGrade_setSlot _ _ _) (by decide)).after
      (seatKeeps_modMute _ fun _ k => by cases k <;> rfl)
  all_goals exact seatKeeps_modMute _ fun _ k => by cases k <;> rfl

theorem seatKeeps_voiceFrame (bound : s.bound i = true) (a : AudioState) : SeatKeeps i s (s.voiceFrame i a) := by
  unfold State.voiceFrame
  dsimp only
  split
  · exact .ite (fun _ => seatKeeps_qualifies bound (by decide) _ fun _ k ne => by
      cases k <;> first | rfl | exact absurd rfl ne) fun _ => .refl s
  · exact .ite (fun _ => .refl s) fun _ => seatKeeps_stops (frame_mono (frame_setSlot _ _) (by decide))
      (setsGrade_setSlot _ _ .clear) (by decide) _ (fun _ k ne => by cases k <;> first | rfl | exact absurd rfl ne) fun _ => rfl
  · exact .ite (fun _ => seatKeeps_modMute _ fun _ k => by cases k <;> rfl) fun _ => .refl s

theorem seatKeeps_openFrame (bound : s.bound i = true) (a : AudioState) : SeatKeeps i s (s.openFrame i a) := by
  unfold State.openFrame
  dsimp only
  split
  next clear =>
    refine .ite (fun _ => .ite (fun _ => ?_) fun _ => ?_) fun _ => .refl s
    · exact seatKeeps_qualifies bound (by decide) _ fun _ k ne => by cases k <;> first | rfl | exact absurd rfl ne
    · exact seatKeeps_raiseOpenNoFloor
        (fun fits => qualifyTimer_of_not_qualifying (k := .openNoFloor) fits (by rw [clear]; decide)) a
  · exact .ite (fun _ => seatKeeps_dropOpenNoFloor) fun _ => .refl s
  · exact .ite (fun _ => seatKeeps_dropOpenNoFloor) fun _ => .refl s

theorem seatKeeps_floorFrame (bound : s.bound i = true) (a : AudioState) : SeatKeeps i s (s.floorFrame i a) := by
  unfold State.floorFrame
  dsimp only
  split
  · exact .ite (fun _ => seatKeeps_qualifies bound (by decide) _ fun _ k ne => by
      cases k <;> first | rfl | exact absurd rfl ne) fun _ => .refl s
  · exact .ite (fun _ => seatKeeps_dropFloorMuted) fun _ => .refl s
  · exact .ite (fun _ => seatKeeps_dropFloorMuted) fun _ => .refl s

theorem seatKeeps_chatterTest (a : AudioState) : SeatKeeps i s (s.chatterTest i a) :=
  .ite (fun _ => seatKeeps_of_sets (frame_raise _ _ _) (by decide) (setsGrade_raise _ _ _ _) (by decide)) fun _ => .refl s

theorem seatKeeps_supervisorReads (bound : s.bound i = true) (c : FrameClass) : SeatKeeps i s (s.supervisorReads i f c) := by
  have frame (t : State) (bound : t.bound i = true) :
      SeatKeeps i t (((t.voiceFrame i f.audio).openFrame i f.audio).floorFrame i f.audio) := by
    have voice := seatKeeps_voiceFrame bound f.audio
    have opened := seatKeeps_openFrame (voice.bound bound) f.audio
    exact (voice.trans opened).trans (seatKeeps_floorFrame (opened.bound (voice.bound bound)) f.audio)
  have counted : SeatKeeps i s (if isToggle c s.mute[i].hold s.seats[i].lastAudio f.audio then s.countToggle i else s) :=
    .ite (fun _ => seatKeeps_countToggle) fun _ => .refl s
  have read := (frame _ (counted.bound bound)).after counted
  exact .ite (fun _ => (seatKeeps_chatterTest _).after read) fun _ => read

theorem seatKeeps_evaluators (c : FrameClass) : SeatKeeps i s (s.evaluators i f c) := by
  unfold State.evaluators
  split
  next active =>
    have read := (seatKeeps_gaugeReads (s := s) (i := i) (f := f) c).trans (seatKeeps_monitorReads (f := f) c)
    exact (seatKeeps_supervisorReads (read.bound (bound_iff.2 (by rw [active]; decide))) c).after read
  next => exact seatKeeps_gaugeReads c
  all_goals exact .refl s

theorem seatKeeps_indicator : SeatKeeps i s (s.indicator i) :=
  .ite (fun _ => seatKeeps_requestSync.after seatKeeps_derive) fun _ => seatKeeps_derive

end Sys2Proof.Machine.SeatWork
end

section
/-! PROOFS. What frames, expiries and requests keep of the seat they act on (SeatFits). -/

namespace Sys2Proof.Machine.SeatWork

open Sys2Proof Sys2Proof.Machine Sys2Proof.Machine.Laws Sys2Proof.Machine.SlotGrades Sys2Proof.Machine.Runs
open Sys2Proof.Machine.AntennaLinks

variable {s t u : State} {i : SeatId} {l : LinkId} {k : SeatKind} {f : SeatFrame}

/-! ## Grades through departures, appearances and refusals -/

theorem grade_depart_kind (hk : k ∉ departingKinds) : grade ((s.depart i).slot (.seat i k)) = grade (s.slot (.seat i k)) :=
  grade_depart fun _ hk' same => hk ((Source.seat.inj same).2 ▸ hk')

theorem grade_departIfActive (hk : k ∉ departingKinds) :
    grade ((s.departIfActive i).slot (.seat i k)) = grade (s.slot (.seat i k)) := by
  unfold State.departIfActive
  split
  · exact grade_depart_kind hk
  · rfl

theorem keepsGrades_refusing (s : State) (i : SeatId) : KeepsGrades (s.departIfActive i) (refusing s i) :=
  ((keepsGrades_dropSyncsOwed i).trans (keepsGrades_of_frame (frame_forgetConfirmed i) (by decide))).trans
    ((keepsGrades_of_frame (frame_setSeatState i _) (by decide)).trans (keepsGrades_clearQuiet i))

theorem grade_refuse (hk : k ≠ .formatRefused) :
    grade ((s.refuse i f).slot (.seat i k)) = grade ((s.departIfActive i).slot (.seat i k)) := by
  rw [refuse_eq]
  split
  · exact keepsGrades_refusing s i _
  · exact ((setsGrade_raise _ _ _ _).2 _ fun same => hk (Source.seat.inj same).2).trans (keepsGrades_refusing s i _)

theorem grade_appearing (hk : k ≠ .formatRefused) :
    grade ((appearing s i f).slot (.seat i k)) = grade ((gone s i f).slot (.seat i k)) := by
  have before : KeepsGrades (gone s i f)
      (((((gone s i f).setSeatState i f.target).modSignal i fun g => reset g f).dropSyncsOwed i).forgetConfirmed i) :=
    (((keepsGrades_of_frame (frame_setSeatState i _) (by decide)).trans
      (keepsGrades_of_frame (frame_modSignal i _) (by decide))).trans (keepsGrades_dropSyncsOwed i)).trans
      (keepsGrades_of_frame (frame_forgetConfirmed i) (by decide))
  refine (keepsGrades_clearQuiet i _).trans ((grade_endCondition_ne fun same => ?_).trans (before _))
  exact hk (Source.seat.inj same).2

theorem grade_appear (hk : k ≠ .formatRefused) :
    grade ((s.appear i f).slot (.seat i k)) = grade ((gone s i f).slot (.seat i k)) :=
  (keepsGrades_of_frame (frame_appear_appearing s i f) (by decide) _).trans (grade_appearing hk)

/-! ## A seat that turns to another state -/

/-- A turn leaves the mute conditions as they are, or stops all their timers. -/
def Stopped (m : Mute) : Prop := ∀ k, qualifyTimer m k = none

theorem stopped_stopTimers (m : Mute) : Stopped m.stopTimers := fun k => by cases k <;> rfl

/-- The seat is bound and its loss, if it was not LOST, is none. -/
structure Turns (i : SeatId) (s t : State) : Prop where
  bound : t.bound i = true
  timed : Timed s i → Timed t i
  history : s.signal[i].history.length ≤ 64 → t.signal[i].history.length ≤ 64
  cause : t.signal[i].cause = s.signal[i].cause
  loss : grade (t.slot (.seat i .signalLoss)) = grade (s.slot (.seat i .signalLoss))
  mute : Stopped t.mute[i] ∨ (t.mute[i] = s.mute[i] ∧
    ∀ k ∈ [SeatKind.voiceInMute, .openNoFloor, .floorMuted], grade (t.slot (.seat i k)) = grade (s.slot (.seat i k)))

/-- SIGNAL_LOSS is not RAISED, and the loss is no link's. -/
def Unlost (s : State) (i : SeatId) : Prop :=
  (s.slot (.seat i .signalLoss)).isRaised = false ∧ ∀ l, s.signal[i].cause ≠ .link l

theorem kindFits_of_mute (bound : t.bound i = true) (mute : Stopped t.mute[i] ∨ (t.mute[i] = s.mute[i] ∧
    ∀ k ∈ [SeatKind.voiceInMute, .openNoFloor, .floorMuted], grade (t.slot (.seat i k)) = grade (s.slot (.seat i k))))
    (h : ∀ k, KindFits s i k) (k : SeatKind) : KindFits t i k := by
  rcases mute with stopped | ⟨same, grades⟩
  · exact kindFits_of_stopped (stopped k)
  · by_cases kind : k ∈ [SeatKind.voiceInMute, .openNoFloor, .floorMuted]
    · intro running
      rw [same] at running
      have qualifying := grade_eq_qualifying.2 (h k running).1
      exact ⟨grade_eq_qualifying.1 ((grades k kind).trans qualifying), bound⟩
    · refine kindFits_of_stopped ?_
      cases k <;> first | rfl | exact absurd (by decide) kind

theorem lossFits_of_unlost (h : Unlost s i) : LossFits s i :=
  ⟨fun raised => absurd (h.1.symm.trans raised) Bool.false_ne_true, fun l cause => absurd cause (h.2 l)⟩

/-- A seat that was not LOST fits again behind a turn. -/
theorem Turns.seatFits (h : Turns i s t) (fits : SeatFits s i) (unlost : Unlost s i) : SeatFits t i := by
  obtain ⟨kinds, timed, -⟩ := fits
  refine ⟨kindFits_of_mute h.bound h.mute kinds, h.timed timed, lossFits_of_unlost ⟨?_, fun l cause => ?_⟩⟩
  · rw [isRaised_of_grade h.loss]
    exact unlost.1
  · exact unlost.2 l (h.cause ▸ cause)

theorem turns_refuse : Turns i s (s.refuse i f) where
  bound := bound_iff.2 (by rw [refuse_seats, get_set_self]; nofun)
  timed h running := by
    rw [refuse_signal, get_set_self] at running
    split at running
    · cases running
    next inactive => exact absurd (h running) inactive
  history h := by
    rw [refuse_signal, get_set_self]
    split <;> exact h
  cause := by
    rw [refuse_signal, get_set_self]
    split <;> rfl
  loss := (grade_refuse (by decide)).trans (grade_departIfActive (by decide))
  mute := by
    rw [refuse_mute, get_set_self]
    by_cases active : s.seats[i].state = .active
    · rw [if_pos active]
      exact .inl (stopped_stopTimers _)
    · rw [if_neg active]
      refine .inr ⟨rfl, fun k hk => ?_⟩
      rw [grade_refuse (by rintro rfl; exact absurd hk (by decide)), departIfActive_of_not active]

theorem target_ne_vacant (f : SeatFrame) : f.target ≠ .vacant := by
  rcases target_eq_active_or_standby f with h | h <;> rw [h] <;> decide

theorem grade_gone (hk : k ∉ departingKinds) : grade ((gone s i f).slot (.seat i k)) = grade (s.slot (.seat i k)) := by
  unfold gone
  split
  · exact grade_departIfActive hk
  · rfl

theorem gone_of_not (h : ¬(f.target = .standby ∧ s.seats[i].state = .active)) : gone s i f = s := by
  unfold gone
  split
  next standby => exact departIfActive_of_not fun active => h ⟨standby, active⟩
  next => rfl

theorem turns_appear : Turns i s (s.appear i f) where
  bound := bound_iff.2 (by rw [appear_seats, get_set_self]; exact target_ne_vacant f)
  timed h running := by
    rw [appear_seats, get_set_self]
    rcases target_eq_active_or_standby f with active | standby
    · exact active
    · rw [appear_signal_of_standby standby, get_set_self] at running
      split at running
      · cases running
      next inactive => exact absurd (h running) inactive
  history _ := by
    rcases target_eq_active_or_standby f with active | standby
    · rw [appear_signal_of_active active, get_set_self]
      exact Nat.zero_le 64
    · rw [appear_signal_of_standby standby, get_set_self]
      exact Nat.zero_le 64
  cause := by
    rcases target_eq_active_or_standby f with active | standby
    · rw [appear_signal_of_active active, get_set_self]
      rfl
    · rw [appear_signal_of_standby standby, get_set_self]
      split <;> rfl
  loss := (grade_appear (by decide)).trans (grade_gone (by decide))
  mute := by
    rw [appear_mute, get_set_self]
    by_cases departs : f.target = .standby ∧ s.seats[i].state = .active
    · rw [if_pos departs]
      exact .inl (stopped_stopTimers _)
    · rw [if_neg departs]
      refine .inr ⟨rfl, fun k hk => ?_⟩
      rw [grade_appear (by rintro rfl; exact absurd hk (by decide)), gone_of_not departs]

theorem grade_normalFrame (k : SeatKind) (stays : ¬(f.audio = .standby ∧ s.seats[i].state = .active) ∨ k ∉ departingKinds) :
    grade ((s.normalFrame i f).slot (.seat i k)) = grade (s.slot (.seat i k)) := by
  unfold State.normalFrame
  split
  next active =>
    split
    next standby =>
      exact (keepsGrades_of_frame (frame_setSeatState (s := s.depart i) i _) (by decide) _).trans
        (grade_depart_kind (stays.resolve_left fun h => h ⟨standby, active⟩))
    next => rfl
  · split <;> rfl
  · split <;> rfl
  all_goals rfl

theorem normalFrame_of_deaf (h : ¬Hears s i) : s.normalFrame i f = s := by
  unfold State.normalFrame
  split
  next active => exact absurd (.inl active) h
  next standby => exact absurd (.inr (.inl standby)) h
  next lost => exact absurd (.inr (.inr lost)) h
  all_goals rfl

theorem turns_refl (h : s.bound i = true) : Turns i s s := ⟨h, id, id, rfl, rfl, .inr ⟨rfl, fun _ _ => rfl⟩⟩

theorem target_of_live (h : f.audio ≠ .standby) : f.target = .active := if_neg h

theorem target_of_standby (h : f.audio = .standby) : f.target = .standby := if_pos h

theorem turns_normalFrame_of_hears (h : Hears s i) : Turns i s (s.normalFrame i f) where
  bound := bound_iff.2 (by rw [normalFrame_seats h, get_set_self]; exact target_ne_vacant f)
  timed timed running := by
    rw [normalFrame_seats h, get_set_self]
    by_cases standby : f.audio = .standby
    · rw [normalFrame_signal_of_standby h standby, get_set_self] at running
      split at running
      · cases running
      next inactive => exact absurd (timed running) inactive
    · exact target_of_live standby
  history short := by
    by_cases standby : f.audio = .standby
    · rw [normalFrame_signal_of_standby h standby, get_set_self]
      split <;> exact short
    · rw [normalFrame_signal_of_live h standby, get_set_self]
      exact short
  cause := by
    by_cases standby : f.audio = .standby
    · rw [normalFrame_signal_of_standby h standby, get_set_self]
      split <;> rfl
    · rw [normalFrame_signal_of_live h standby, get_set_self]
  loss := grade_normalFrame .signalLoss (.inr (by decide))
  mute := by
    rw [normalFrame_mute h, get_set_self]
    by_cases departs : f.audio = .standby ∧ s.seats[i].state = .active
    · rw [if_pos departs]
      exact .inl (stopped_stopTimers _)
    · rw [if_neg departs]
      exact .inr ⟨rfl, fun k _ => grade_normalFrame k (.inl departs)⟩

theorem turns_normalFrame (bound : s.bound i = true) : Turns i s (s.normalFrame i f) := by
  by_cases h : Hears s i
  · exact turns_normalFrame_of_hears h
  · rw [normalFrame_of_deaf h]
    exact turns_refl bound

/-! ## The close of a loss -/

theorem endLoss_seats (s : State) (i : SeatId) : (s.endLoss i).seats = s.seats := frame_endLoss i .seats (by decide)

theorem endLoss_mute (s : State) (i : SeatId) : (s.endLoss i).mute = s.mute := frame_endLoss i .mute (by decide)

theorem grade_endLoss_ne (hk : k ≠ .signalLoss) : grade ((s.endLoss i).slot (.seat i k)) = grade (s.slot (.seat i k)) := by
  unfold State.endLoss
  dsimp only
  refine Eq.trans (keepsGrades_of_frame (frame_modSignal i _) (by decide) _) ?_
  split
  · exact (grade_endCondition_ne fun same => hk (Source.seat.inj same).2).trans (keepsGrades_captureDuration i _)
  · exact keepsGrades_refresh (s := s.modLink _ _) _ _
  · rfl

theorem not_isRaised_endLoss (fits : LossFits s i) : ((s.endLoss i).slot (.seat i .signalLoss)).isRaised = false := by
  have idle (h : s.signal[i].cause ≠ .signal) : (s.slot (.seat i .signalLoss)).isRaised = false := by
    by_contra raised
    exact h (fits.1 (Bool.not_eq_false _ ▸ raised)).2
  unfold State.endLoss
  dsimp only
  refine Eq.trans (isRaised_of_grade (keepsGrades_of_frame (frame_modSignal i _) (by decide) _)) ?_
  split
  · exact isRaised_endCondition _ _
  next cause =>
    exact (isRaised_of_grade (keepsGrades_refresh (s := s.modLink _ _) _ _)).trans (idle (by rw [cause]; nofun))
  next cause => exact idle (by rw [cause]; nofun)

/-- What the close of a loss leaves of a LOST seat. -/
theorem seatKeeps_endLossIfLost : SeatKeeps i s (s.endLossIfLost i) := by
  refine .ite (fun lost => ?_) fun _ => .refl s
  have state : (s.endLoss i).seats[i].state = s.seats[i].state := by rw [endLoss_seats]
  have timer : (s.endLoss i).signal[i].lossTimer = s.signal[i].lossTimer := by rw [endLoss_signal, get_set_self]
  have timed (h : Timed s i) : Timed (s.endLoss i) i := fun running => by
    rw [state]
    exact h (timer ▸ running)
  constructor
  · exact fun h => (bound_of_state state).trans h
  · exact fun h => ⟨timed h, bound_of_state state⟩
  · rw [endLoss_signal, get_set_self]
    exact id
  · rintro ⟨kinds, ht, loss⟩
    refine ⟨fun k => ?_, timed ht, fun raised => ?_, fun l cause => ?_⟩
    · by_cases same : k = .signalLoss
      · exact kindFits_of_stopped (by rw [same]; rfl)
      · exact kindFits_of_same state (by rw [endLoss_mute]) (grade_endLoss_ne same) (kinds k)
    · rw [not_isRaised_endLoss loss] at raised
      cases raised
    · rw [endLoss_signal, get_set_self] at cause
      cases cause

/-- A seat whose loss has ended, if it was LOST, has none. -/
theorem unlost_endLossIfLost (fits : SeatFits s i) : Unlost (s.endLossIfLost i) i := by
  obtain ⟨-, -, loss⟩ := fits
  by_cases lost : s.seats[i].state = .lost
  · rw [endLossIfLost_of_lost lost]
    refine ⟨not_isRaised_endLoss loss, fun l cause => ?_⟩
    rw [endLoss_signal, get_set_self] at cause
    cases cause
  · rw [endLossIfLost_of_not lost]
    refine ⟨?_, fun l cause => lost (loss.2 l cause)⟩
    by_contra raised
    exact lost (loss.1 (Bool.not_eq_false _ ▸ raised)).1

/-! ## Accepted frames -/

theorem seatKeeps_of_turn (bound : s.bound i = true) (before : SeatKeeps i s u) (turn : Turns i u t)
    (unlost : SeatFits s i → Unlost u i) : SeatKeeps i s t where
  bound _ := turn.bound
  timed h := ⟨turn.timed (before.timed h).1, turn.bound.trans bound.symm⟩
  history h := turn.history (before.history h)
  fits h := turn.seatFits (before.fits h) (unlost h)

theorem seatKeeps_seatStep (bound : s.bound i = true) (c : FrameClass) : SeatKeeps i s (s.seatStep i f c) := by
  refine seatKeeps_of_turn bound seatKeeps_endLossIfLost ?_ unlost_endLossIfLost
  unfold State.seatStep
  dsimp only
  split
  · split
    · exact turns_appear
    · exact turns_refuse
  · exact turns_normalFrame (seatKeeps_endLossIfLost.bound bound)

theorem seatKeeps_received (c : FrameClass) : SeatKeeps i s (received s i f c) := by
  have fields : SeatKeeps i s (s.acceptFields i f) := seatKeeps_modSeat _ fun _ => rfl
  exact .ite (fun _ => fields) fun _ => (seatKeeps_of_frame (frame_readEcho i _) (by decide)
    (keepsGrades_of_frame (frame_readEcho i _) (by decide))).after fields

theorem seatKeeps_accept (bound : s.bound i = true) (c : FrameClass) : SeatKeeps i s (s.accept i f c) := by
  rw [accept_eq]
  have heard : SeatKeeps i s (received s i f c) := seatKeeps_received c
  exact seatKeeps_indicator.after (SeatKeeps.after (seatKeeps_modSeat _ fun _ => rfl) ((seatKeeps_evaluators c).after
    ((seatKeeps_seatStep (heard.bound bound) c).after heard)))

theorem classify_of_vacant (h : s.seats[i].state = .vacant) (boot : BitVec 8) (frame : BitVec 16) :
    s.seats[i].classify boot frame = .ignored := by
  unfold SeatRec.classify
  rw [h]

theorem seatKeeps_seatFrame : SeatKeeps i s (s.seatFrame i f) := by
  unfold State.seatFrame
  dsimp only
  have bound (h : s.seats[i].classify f.boot f.frame ≠ .ignored) : s.bound i = true :=
    bound_iff.2 fun vacant => h (classify_of_vacant vacant _ _)
  split
  next => exact .refl s
  next => exact .refl s
  next => exact .refl s
  next c => exact seatKeeps_accept (bound (by rw [c]; nofun)) _
  next c => exact seatKeeps_accept (bound (by rw [c]; nofun)) _

theorem atSeat_seatFrame : AtSeat i s (s.seatFrame i f) := by
  unfold State.seatFrame
  dsimp only
  split
  · exact .refl s
  · exact .refl s
  · exact .refl s
  · exact atSeat_accept _ _
  · exact atSeat_accept _ _

/-! ## Losses -/

theorem loseToLink_signal (s : State) (i : SeatId) (l : LinkId) :
    (s.loseToLink i l).signal = s.signal.set i { s.signal[i] with cause := .link l } := by
  rw [State.loseToLink, show (State.escalateLink _ l).signal = _ from frame_escalateLink l .signal (by decide),
    show (State.setAttributed _ l _).signal = _ from frame_setAttributed_links l _ .signal (by decide), modSignal_signal]

theorem grade_loseToLink (s : State) (i : SeatId) (l : LinkId) (k : SeatKind) :
    grade ((s.loseToLink i l).slot (.seat i k)) = grade (s.slot (.seat i k)) := by
  have counted : KeepsGrades s ((s.modSignal i fun g => { g with cause := .link l }).setAttributed l (· + 1)) :=
    keepsGrades_refresh (s := (s.modSignal i _).modLink l _) (.link l)
  unfold State.loseToLink
  cases raised : ((((s.modSignal i fun g => { g with cause := .link l }).setAttributed l (· + 1))).slot (.link l)).isRaised with
  | true => exact ((setsGrade_escalateLink raised).2 (.seat i k) nofun).trans (counted _)
  | false => rw [escalateLink_of_not_raised raised]; exact counted _

/-- The loss of a seat is decided: the cause is SIGNAL with the condition RAISED, or a link's. -/
theorem lossDecided_cases (s : State) (i : SeatId) :
    lossDecided s i = s.loseToSignal i ∨ ∃ l, s.seats[i].bestLink = some l ∧ lossDecided s i = s.loseToLink i l := by
  unfold lossDecided
  split
  next l best =>
    split
    · exact .inl rfl
    · exact .inl rfl
    · exact .inr ⟨l, best, rfl⟩
    · exact .inr ⟨l, best, rfl⟩
    · exact .inr ⟨l, best, rfl⟩
  · exact .inl rfl

theorem frame_lossDecided (i : SeatId) : ChangesOnly lossBlocks s (lossDecided s i) := by
  rcases lossDecided_cases s i with h | ⟨l, -, h⟩
  · rw [h]
    exact frame_loseToSignal i
  · rw [h]
    exact frame_loseToLink i l

theorem lossDecided_seats (s : State) (i : SeatId) : (lossDecided s i).seats = s.seats :=
  frame_lossDecided i .seats (by decide)

theorem lossDecided_mute (s : State) (i : SeatId) : (lossDecided s i).mute = s.mute := frame_lossDecided i .mute (by decide)

theorem lossDecided_signal (s : State) (i : SeatId) :
    ∃ c, (lossDecided s i).signal = s.signal.set i { s.signal[i] with cause := c } := by
  rcases lossDecided_cases s i with h | ⟨l, -, h⟩
  · exact ⟨.signal, by rw [h, loseToSignal_signal]⟩
  · exact ⟨.link l, by rw [h, loseToLink_signal]⟩

/-- A LOST seat whose loss is decided for the first time fits. -/
theorem lossFits_lossDecided (lost : s.seats[i].state = .lost) (idle : (s.slot (.seat i .signalLoss)).isRaised = false) :
    LossFits (lossDecided s i) i := by
  have state : (lossDecided s i).seats[i].state = .lost := by rw [lossDecided_seats]; exact lost
  refine ⟨fun raised => ⟨state, ?_⟩, fun _ _ => state⟩
  rcases lossDecided_cases s i with h | ⟨l, -, h⟩
  · rw [h, loseToSignal_signal, get_set_self]
  · rw [h, isRaised_of_grade (grade_loseToLink s i l .signalLoss), idle] at raised
    cases raised

/-- The seat, departed and LOST, before its loss is decided (R21). -/
def lapsed (s : State) (i : SeatId) : State :=
  ((s.modSignal i fun g => { g with lossStart := some s.clock }).depart i).setSeatState i .lost

theorem lossTimerExpires_of_running (h : s.signal[i].lossTimer.isSome = true) :
    s.lossTimerExpires i = (lossDecided (lapsed s i) i).derive i := by
  obtain ⟨n, running⟩ := Option.isSome_iff_exists.1 h
  unfold State.lossTimerExpires lapsed
  rw [running]
  dsimp only
  generalize ((s.modSignal i fun g => { g with lossStart := some s.clock }).depart i).setSeatState i .lost = u
  rfl

theorem lossTimerExpires_of_stopped (h : s.signal[i].lossTimer = none) : s.lossTimerExpires i = s := by
  unfold State.lossTimerExpires
  rw [h]

theorem lapsed_seats (s : State) (i : SeatId) :
    (lapsed s i).seats = s.seats.set i { s.seats[i] with state := .lost, quiet := false } := by
  rw [lapsed, State.setSeatState, modSeat_seats, depart_seats]
  simp only [get_set_self, set_set_self]
  rfl

theorem lapsed_signal (s : State) (i : SeatId) :
    (lapsed s i).signal = s.signal.set i (departedSignal { s.signal[i] with lossStart := some s.clock }) := by
  rw [lapsed, State.setSeatState, modSeat_signal, depart_signal, modSignal_signal, get_set_self, set_set_self]

theorem lapsed_mute (s : State) (i : SeatId) : (lapsed s i).mute = s.mute.set i s.mute[i].stopTimers := by
  rw [lapsed, State.setSeatState, modSeat_mute, depart_mute]
  rfl

theorem grade_lapsed (hk : k ∉ departingKinds) : grade ((lapsed s i).slot (.seat i k)) = grade (s.slot (.seat i k)) := by
  rw [lapsed, keepsGrades_of_frame (frame_setSeatState i _) (by decide) _, grade_depart_kind hk]
  rfl

theorem seatKeeps_lossTimerExpires : SeatKeeps i s (s.lossTimerExpires i) := by
  cases running : s.signal[i].lossTimer.isSome with
  | false => rw [lossTimerExpires_of_stopped (Option.isNone_iff_eq_none.1 (by simpa using running))]; exact .refl s
  | true =>
    rw [lossTimerExpires_of_running running]
    refine seatKeeps_derive.after ?_
    have state : (lossDecided (lapsed s i) i).seats[i].state = .lost := by
      rw [lossDecided_seats, lapsed_seats, get_set_self]
    have bound : (lossDecided (lapsed s i) i).bound i = true := bound_iff.2 (by rw [state]; decide)
    obtain ⟨c, signal⟩ := lossDecided_signal (lapsed s i) i
    have timed : Timed (lossDecided (lapsed s i) i) i := fun h => by
      rw [signal, get_set_self, lapsed_signal, get_set_self] at h
      cases h
    constructor
    · exact fun _ => bound
    · exact fun h => ⟨timed, bound.trans (bound_iff.2 (by rw [h running]; decide)).symm⟩
    · rw [signal, get_set_self, lapsed_signal, get_set_self]
      exact id
    · rintro ⟨-, active, loss⟩
      refine ⟨fun k => kindFits_of_stopped ?_, timed, lossFits_lossDecided ?_ ?_⟩
      · rw [lossDecided_mute, lapsed_mute, get_set_self]
        exact stopped_stopTimers _ k
      · rw [lapsed_seats, get_set_self]
      · rw [isRaised_of_grade (grade_lapsed (by decide))]
        by_contra raised
        have lost := (loss.1 (Bool.not_eq_false _ ▸ raised)).1
        rw [active running] at lost
        cases lost

/-- An attributed seat's loss becomes its own (R82, R83). -/
theorem seatKeeps_loseToSignal (attributed : SeatFits s i → s.seats[i].state = .lost) : SeatKeeps i s (s.loseToSignal i) := by
  have frame := frame_loseToSignal (s := s) i
  have seats : (s.loseToSignal i).seats = s.seats := frame .seats (by decide)
  have mute : (s.loseToSignal i).mute = s.mute := frame .mute (by decide)
  have timed (h : Timed s i) : Timed (s.loseToSignal i) i := fun running => by
    rw [loseToSignal_signal, get_set_self] at running
    rw [seats]
    exact h running
  constructor
  · exact fun h => (bound_of_state (state_of_seats seats)).trans h
  · exact fun h => ⟨timed h, bound_of_state (state_of_seats seats)⟩
  · rw [loseToSignal_signal, get_set_self]; exact id
  · intro fits
    have lost := attributed fits
    obtain ⟨kinds, ht, -⟩ := fits
    have state : (s.loseToSignal i).seats[i].state = .lost := by rw [seats]; exact lost
    refine ⟨fun k => ?_, timed ht, fun _ => ⟨state, by rw [loseToSignal_signal, get_set_self]⟩, fun _ _ => state⟩
    by_cases same : k = .signalLoss
    · exact kindFits_of_stopped (by rw [same]; rfl)
    · exact kindFits_of_same (state_of_seats seats) (by rw [mute])
        ((setsGrade_loseToSignal s i).2 _ fun e => same (Source.seat.inj e).2) (kinds k)

theorem seatKeeps_setAttributed (l : LinkId) (g : Nat → Nat) : SeatKeeps i s (s.setAttributed l g) :=
  seatKeeps_of_frame (frame_setAttributed_links l g) (by decide) (keepsGrades_refresh (s := s.modLink l _) (.link l))

theorem seatKeeps_stopGrace : SeatKeeps i s (s.modSignal i fun g => { g with grace := none }) :=
  seatKeeps_modSignal _ rfl rfl id

theorem seatKeeps_graceExpires : SeatKeeps i s (s.graceExpires i) := by
  unfold State.graceExpires
  split
  · dsimp only
    split
    next l cause =>
      have counted : SeatKeeps i s ((s.modSignal i fun g => { g with grace := none }).setAttributed l (· - 1)) :=
        (seatKeeps_setAttributed l _).after seatKeeps_stopGrace
      have seats : ((s.modSignal i fun g => { g with grace := none }).setAttributed l (· - 1)).seats = s.seats :=
        frame_setAttributed_links (s := s.modSignal i _) l _ .seats (by decide)
      have signal : ((s.modSignal i fun g => { g with grace := none }).setAttributed l (· - 1)).signal =
          s.signal.set i { s.signal[i] with grace := none } :=
        frame_setAttributed_links (s := s.modSignal i _) l _ .signal (by decide)
      refine (seatKeeps_loseToSignal fun fits => ?_).after counted
      exact fits.2.2.2 l (by rw [signal, get_set_self]; exact cause)
    · exact seatKeeps_stopGrace
    · exact seatKeeps_stopGrace
  · exact .refl s

theorem seatKeeps_convertSeat : SeatKeeps i s (State.convertSeat l s i) :=
  .ite (fun cause => (seatKeeps_loseToSignal fun fits => fits.2.2.2 l (by
    rw [modSignal_signal, get_set_self]; exact cause)).after seatKeeps_stopGrace) fun _ => .refl s

/-! ## Expiries of the mute timers -/

theorem seatKeeps_stopTimer (k : SeatKind) (loss : k ≠ .signalLoss) (g : Mute → Mute)
    (hg : ∀ m k', k' ≠ k → qualifyTimer (g m) k' = qualifyTimer m k') (stop : ∀ m, qualifyTimer (g m) k = none) :
    SeatKeeps i s (s.modMute i g) :=
  seatKeeps_of_kind k (frame_modMute i g) (by decide) loss (fun _ _ => rfl)
    (fun k' ne => by rw [modMute_mute, get_set_self, hg _ k' ne])
    fun _ => kindFits_of_stopped (by rw [modMute_mute, get_set_self, stop])

theorem seatKeeps_voiceQualifyExpires : SeatKeeps i s (s.voiceQualifyExpires i) := by
  unfold State.voiceQualifyExpires
  split
  · refine seatKeeps_derive.after (SeatKeeps.after (seatKeeps_raise (by decide) (fun _ => ?_) _ _)
      (seatKeeps_stopTimer .voiceInMute (by decide) _ (fun _ k ne => by cases k <;> first | rfl | exact absurd rfl ne) fun _ => rfl))
    rw [modMute_mute, get_set_self]
    rfl
  · exact .refl s

theorem seatKeeps_endCondition (kind : k ∈ [SeatKind.voiceInMute, .openNoFloor, .floorMuted]) :
    SeatKeeps i s (s.endCondition (.seat i k)) := by
  cases raised : (s.slot (.seat i k)).isRaised with
  | false => rw [endCondition_of_not_raised raised]; exact .refl s
  | true =>
    have set := setsGrade_endCondition raised
    have frame := frame_endCondition (s := s) (.seat i k)
    have mute : (s.endCondition (.seat i k)).mute = s.mute := frame .mute (by decide)
    refine seatKeeps_of_kind k frame (by decide) (by rintro rfl; exact absurd kind (by decide))
      (fun k' ne => set.2 _ fun same => ne (Source.seat.inj same).2) (fun k' _ => by rw [mute]) fun fits running => ?_
    rw [mute] at running
    rw [(fits running).1] at raised
    cases raised

theorem seatKeeps_voiceEndExpires : SeatKeeps i s (s.voiceEndExpires i) := by
  unfold State.voiceEndExpires
  split
  · exact seatKeeps_derive.after ((seatKeeps_endCondition (by decide)).after
      (seatKeeps_modMute _ fun _ k => by cases k <;> rfl))
  · exact .refl s

theorem seatKeeps_openGraceExpires : SeatKeeps i s (s.openGraceExpires i) := by
  unfold State.openGraceExpires
  split
  · refine seatKeeps_derive.after (SeatKeeps.after (seatKeeps_raiseOpenNoFloor (fun _ => ?_) _)
      (seatKeeps_stopTimer .openNoFloor (by decide) _ (fun _ k ne => by cases k <;> first | rfl | exact absurd rfl ne) fun _ => rfl))
    rw [modMute_mute, get_set_self]
  · exact .refl s

theorem seatKeeps_floorMutedQualifyExpires : SeatKeeps i s (s.floorMutedQualifyExpires i) := by
  unfold State.floorMutedQualifyExpires
  split
  · refine seatKeeps_derive.after (SeatKeeps.after (seatKeeps_raise (by decide) (fun _ => ?_) _ _)
      (seatKeeps_stopTimer .floorMuted (by decide) _ (fun _ k ne => by cases k <;> first | rfl | exact absurd rfl ne) fun _ => rfl))
    rw [modMute_mute, get_set_self]
    rfl
  · exact .refl s

theorem seatKeeps_chatterWindowExpires : SeatKeeps i s (s.chatterWindowExpires i) := by
  unfold State.chatterWindowExpires
  dsimp only
  split
  · refine .ite (fun _ => seatKeeps_modMute _ fun _ k => by cases k <;> rfl) fun _ => SeatKeeps.after
      (seatKeeps_modMute _ fun _ k => by cases k <;> rfl) ?_
    exact seatKeeps_of_sets (frame_endOrCancel _) (by decide) (setsGrade_endOrCancel _ _) (by decide)
  · exact .refl s

/-! ## Requests -/

theorem seatKeeps_holdConsole : SeatKeeps i s (s.holdConsole i) :=
  seatKeeps_derive.after (seatKeeps_dropFloorMuted.after (seatKeeps_modMute _ fun _ k => by cases k <;> rfl))

theorem seatKeeps_freeHold : SeatKeeps i s (s.freeHold i) :=
  seatKeeps_derive.after (seatKeeps_modMute _ fun _ k => by cases k <;> rfl)

theorem seatKeeps_modBattery (g : Battery → Battery) : SeatKeeps i s (s.modBattery i g) :=
  seatKeeps_of_frame (frame_modBattery i g) (by decide) (keepsGrades_of_frame (frame_modBattery i g) (by decide))

theorem seatKeeps_endBattery : SeatKeeps i s (s.endBattery i) := by
  refine (seatKeeps_modBattery _).after ?_
  exact seatKeeps_of_grades (frame_endCondition _) (by decide)
    (fun k hk => grade_endCondition_ne fun same => by
      rw [(Source.seat.inj same).2] at hk
      exact absurd hk (by decide))
    fun _ => by rw [show (s.endCondition (.seat i .battery)).mute = s.mute from frame_endCondition _ .mute (by decide)]

theorem seatKeeps_swapSeat (level : Nat) : SeatKeeps i s (s.swapSeat i level) :=
  seatKeeps_derive.after (seatKeeps_endBattery.after (seatKeeps_modBattery _))

theorem seatKeeps_setQuiet : SeatKeeps i s (s.setQuiet i) := by
  have state := setQuiet_states s i i
  exact seatKeeps_of state rfl rfl (keepsGrades_setQuiet i _) id fun h k =>
    kindFits_of_same state rfl (keepsGrades_setQuiet i _) (h k)

theorem seatKeeps_clearQuiet : SeatKeeps i s (s.clearQuiet i) := by
  have state := clearQuiet_states s i i
  have signal : (s.clearQuiet i).signal = s.signal := frame_clearQuiet i .signal (by decide)
  have mute : (s.clearQuiet i).mute = s.mute := frame_clearQuiet i .mute (by decide)
  exact seatKeeps_of state (by rw [signal]) (by rw [signal]) (keepsGrades_clearQuiet i _) (by rw [signal]; exact id) fun h k =>
    kindFits_of_same state (by rw [mute]) (keepsGrades_clearQuiet i _) (h k)

theorem seatKeeps_escalateFrom (k : SeatKind) (low high : Severity) :
    SeatKeeps i s (s.escalateFrom (.seat i k) low high) := by
  refine .ite (fun from' => ?_) fun _ => .refl s
  have raised : (s.slot (.seat i k)).isRaised = true := by
    rw [isRaised_eq, ← severity?_eq, from']
    rfl
  have set := setsGrade_escalate raised high
  have frame := frame_escalate (s := s) (.seat i k) high
  have seats : (s.escalate (.seat i k) high).seats = s.seats := frame .seats (by decide)
  have signal : (s.escalate (.seat i k) high).signal = s.signal := frame .signal (by decide)
  have mute : (s.escalate (.seat i k) high).mute = s.mute := frame .mute (by decide)
  have still (k' : SeatKind) : ((s.escalate (.seat i k) high).slot (.seat i k')).isRaised = (s.slot (.seat i k')).isRaised := by
    by_cases same : k' = k
    · rw [same, raised]
      exact isRaised_of_grade_raised set.1
    · exact isRaised_of_grade (set.2 _ fun e => same (Source.seat.inj e).2)
  constructor
  · exact fun h => (bound_of_state (state_of_seats seats)).trans h
  · refine fun h => ⟨fun running => ?_, bound_of_state (state_of_seats seats)⟩
    rw [seats]
    exact h (signal ▸ running)
  · rw [signal]; exact id
  · rintro ⟨kinds, timed, loss, attributed⟩
    refine ⟨fun k' => ?_, fun running => by rw [seats]; exact timed (signal ▸ running), fun h => ?_, fun l h => ?_⟩
    · by_cases same : k' = k
      · refine fun running => ?_
        rw [mute, same] at running
        rw [(kinds k running).1] at raised
        cases raised
      · exact kindFits_of_same (state_of_seats seats) (by rw [mute]) (set.2 _ fun e => same (Source.seat.inj e).2) (kinds k')
    · rw [still] at h
      rw [seats, signal]
      exact loss h
    · rw [signal] at h
      rw [seats]
      exact attributed l h

end Sys2Proof.Machine.SeatWork
end

section
/-! PROOFS. What the part does between power-ons and restarts to the tables: the seats' bindings, timers and losses, the links,
parameters and floor, and the lists of open frames and strangers. Each command is a chain of moves of a few kinds. -/

namespace Sys2Proof.Machine.TableMoves

open Sys2Proof Sys2Proof.Machine Sys2Proof.Machine.Laws Sys2Proof.Machine.SlotGrades Sys2Proof.Machine.Runs
open Sys2Proof.Machine.AntennaLinks Sys2Proof.Machine.SeatWork Sys2Proof.Machine.EventFrames

variable {c : Prop} {s t u : State} {i : SeatId} {l : LinkId} {p : PortId}

/-! ## Orderly moves -/

/-- Parameters, floor, bindings and the lists of frames and strangers stay; losses, timers and conditions stay in order. -/
structure Orderly (s t : State) : Prop where
  params : t.params = s.params
  floorCount : t.floorCount = s.floorCount
  openFrames : t.openFrames = s.openFrames
  strangers : t.strangers = s.strangers
  offsets : ∀ l : LinkId, t.links[l].offset = s.links[l].offset
  radio : ∀ i : SeatId, t.seats[i].radio = s.seats[i].radio
  floor : ∀ i : SeatId, t.mute[i].floor = s.mute[i].floor
  bound : ∀ i : SeatId, s.bound i = true → t.bound i = true
  timed : (∀ i, Timed s i) → ∀ i, Timed t i ∧ t.bound i = s.bound i
  history : ∀ i : SeatId, s.signal[i].history.length ≤ 64 → t.signal[i].history.length ≤ 64
  fits : ConditionsMatch s → ConditionsMatch t

theorem Orderly.refl (s : State) : Orderly s s :=
  ⟨rfl, rfl, rfl, rfl, fun _ => rfl, fun _ => rfl, fun _ => rfl, fun _ => id, fun h i => ⟨h i, rfl⟩, fun _ => id, id⟩

theorem Orderly.trans (h : Orderly s t) (k : Orderly t u) : Orderly s u where
  params := k.params.trans h.params
  floorCount := k.floorCount.trans h.floorCount
  openFrames := k.openFrames.trans h.openFrames
  strangers := k.strangers.trans h.strangers
  offsets l := (k.offsets l).trans (h.offsets l)
  radio i := (k.radio i).trans (h.radio i)
  floor i := (k.floor i).trans (h.floor i)
  bound i b := k.bound i (h.bound i b)
  timed a i := by
    have middle := h.timed a
    obtain ⟨last, same⟩ := k.timed (fun i => (middle i).1) i
    exact ⟨last, same.trans (middle i).2⟩
  history i a := k.history i (h.history i a)
  fits a := k.fits (h.fits a)

theorem Orderly.after (last : Orderly t u) (h : Orderly s t) : Orderly s u := h.trans last

theorem Orderly.ite {b : Prop} [Decidable b] (ht : b → Orderly s t) (hu : ¬b → Orderly s u) : Orderly s (if b then t else u) := by
  split
  next h => exact ht h
  next h => exact hu h

theorem Orderly.foldl {α : Type} {f : State → α → State} (hf : ∀ s x, Orderly s (f s x)) (xs : List α) (s : State) :
    Orderly s (xs.foldl f s) := by
  induction xs generalizing s with
  | nil => exact .refl s
  | cons x xs ih => exact (hf s x).trans (ih _)

/-- The tables that no orderly move touches, or touches with care. -/
def tableBlocks : List Block := [.params, .floorCount, .openFrames, .strangers, .seats, .mute]

theorem bound_of_seats (h : t.seats = s.seats) (i : SeatId) : t.bound i = s.bound i := bound_of_state (state_of_seats h)

/-- Links and conditions change while seats and mute records stay; of the signal records what is looked at stays. -/
theorem orderly_of_links {W : List Block} (h : ChangesOnly W s t) (hW : ∀ b ∈ tableBlocks, b ∉ W)
    (offsets : ∀ l : LinkId, t.links[l].offset = s.links[l].offset)
    (signal : ∀ i : SeatId, t.signal[i].lossTimer = s.signal[i].lossTimer ∧ t.signal[i].cause = s.signal[i].cause ∧
      t.signal[i].history = s.signal[i].history)
    (grades : ∀ i k, grade (t.slot (.seat i k)) = grade (s.slot (.seat i k)))
    (links : ConditionsMatch s → ∀ l, LinkFits t l) : Orderly s t := by
  have out (b : Block) (hb : b ∈ tableBlocks) : b.Same s t := h b (hW b hb)
  have seats : t.seats = s.seats := out .seats (by decide)
  have mute : t.mute = s.mute := out .mute (by decide)
  have keeps (i : SeatId) : SeatKeeps i s t := by
    obtain ⟨timer, cause, history⟩ := signal i
    refine seatKeeps_of (state_of_seats seats) timer cause (grades i _) (by rw [history]; exact id) fun fits k => ?_
    exact kindFits_of_same (state_of_seats seats) (by rw [mute]) (grades i k) (fits k)
  exact {
    params := out .params (by decide)
    floorCount := out .floorCount (by decide)
    openFrames := out .openFrames (by decide)
    strangers := out .strangers (by decide)
    offsets := offsets
    radio := fun i => by rw [seats]
    floor := fun i => by rw [mute]
    bound := fun i => (keeps i).bound
    timed := fun a i => (keeps i).timed (a i)
    history := fun i => (keeps i).history
    fits := fun m => conditionsMatch_iff.2 ⟨fun i => (keeps i).fits ((conditionsMatch_iff.1 m).1 i), links m⟩ }

theorem linkFits_of_same (silence : t.links[l].silence = s.links[l].silence) (state : t.links[l].state = s.links[l].state)
    (enable : t.links[l].enable = s.links[l].enable) (slot : (t.slot (.link l)).isRaised = (s.slot (.link l)).isRaised)
    (h : LinkFits s l) : LinkFits t l := by
  unfold LinkFits
  rw [silence, state, enable, slot]
  exact h

/-- No table changes, and every condition keeps its grade. -/
theorem orderly_of_frame {W : List Block} (h : ChangesOnly W s t) (hW : ∀ b ∈ .signal :: .links :: tableBlocks, b ∉ W)
    (grades : KeepsGrades s t) : Orderly s t := by
  have signal : t.signal = s.signal := h .signal (hW _ (by decide))
  have links : t.links = s.links := h .links (hW _ (by decide))
  refine orderly_of_links h (fun b hb => hW b (List.mem_cons_of_mem _ (List.mem_cons_of_mem _ hb))) (fun l => by rw [links])
    (fun i => by rw [signal]; exact ⟨rfl, rfl, rfl⟩) (fun i k => grades _) fun m l => ?_
  exact linkFits_of_same (by rw [links]) (by rw [links]) (by rw [links]) (isRaised_of_grade (grades _))
    ((conditionsMatch_iff.1 m).2 l)

theorem orderly_of_apart {W : List Block} (h : ChangesOnly W s t)
    (hW : ∀ b ∈ .alerts :: .signal :: .links :: tableBlocks, b ∉ W) : Orderly s t :=
  orderly_of_frame h (fun b hb => hW b (List.mem_cons_of_mem _ hb)) (keepsGrades_of_frame h (hW _ List.mem_cons_self))

/-- An operation on one seat. -/
theorem orderly_of_seat (a : AtSeat i s t) (k : SeatKeeps i s t) : Orderly s t := by
  have out (b : Block) (hb : b ∉ acceptBlocks) : b.Same s t := a.frame b hb
  have others (j : SeatId) (ne : j ≠ i) : SeatKeeps j s t := by
    have state : t.seats[j].state = s.seats[j].state := by rw [a.seats j ne]
    refine seatKeeps_of state (by rw [a.signal j ne]) (by rw [a.signal j ne]) (a.others j _ ne) (by rw [a.signal j ne]; exact id)
      fun fits c => ?_
    exact kindFits_of_same state (by rw [a.mute j ne]) (a.others j c ne) (fits c)
  have keeps (j : SeatId) : SeatKeeps j s t := by
    by_cases same : j = i
    · rw [same]; exact k
    · exact others j same
  exact {
    params := out .params (by decide)
    floorCount := out .floorCount (by decide)
    openFrames := out .openFrames (by decide)
    strangers := out .strangers (by decide)
    offsets := fun l => by
      obtain ⟨n, hn⟩ := a.links l
      rw [hn]
    radio := fun j => by
      by_cases same : j = i
      · rw [same]; exact a.radio
      · rw [a.seats j same]
    floor := fun j => by
      by_cases same : j = i
      · rw [same]; exact a.floor
      · rw [a.mute j same]
    bound := fun j => (keeps j).bound
    timed := fun h j => (keeps j).timed (h j)
    history := fun j => (keeps j).history
    fits := fun m => conditionsMatch_iff.2 ⟨fun j => (keeps j).fits ((conditionsMatch_iff.1 m).1 j), fun l => by
      obtain ⟨n, hn⟩ := a.links l
      exact linkFits_of_same (by rw [hn]) (by rw [hn]) (by rw [hn]) (a.conditions l) ((conditionsMatch_iff.1 m).2 l)⟩ }

/-! ## Antenna links -/

theorem modLink_links (s : State) (l : LinkId) (f : LinkRec → LinkRec) : (s.modLink l f).links = s.links.set l (f s.links[l]) := rfl

/-- One link's record changes, and its condition. -/
theorem orderly_of_link {W : List Block} (h : ChangesOnly W s t) (hW : ∀ b ∈ .signal :: tableBlocks, b ∉ W) {r : LinkRec}
    (links : t.links = s.links.set l r) (offset : r.offset = s.links[l].offset)
    (grades : ∀ o, o ≠ .link l → grade (t.slot o) = grade (s.slot o))
    (here : LinkFits s l → (r.silence.isSome = true → r.state = .up) ∧
      (r.state = .up → (t.slot (.link l)).isRaised = false) ∧ (r.enable = false → r.state = .disabled)) : Orderly s t := by
  have signal : t.signal = s.signal := h .signal (hW _ (by decide))
  have own : t.links[l] = r := by rw [links, get_set_self]
  have other (m : LinkId) (ne : m ≠ l) : t.links[m] = s.links[m] := by rw [links, get_set_ne _ ne]
  refine orderly_of_links h (fun b hb => hW b (List.mem_cons_of_mem _ hb)) (fun m => ?_)
    (fun i => by rw [signal]; exact ⟨rfl, rfl, rfl⟩) (fun i k => grades _ nofun) fun fits m => ?_
  · by_cases same : m = l
    · rw [same, own, offset]
    · rw [other m same]
  · by_cases same : m = l
    · subst same
      unfold LinkFits
      rw [own]
      exact here ((conditionsMatch_iff.1 fits).2 m)
    · exact linkFits_of_same (by rw [other m same]) (by rw [other m same]) (by rw [other m same])
        (isRaised_of_grade (grades _ fun e => same (Source.link.inj e))) ((conditionsMatch_iff.1 fits).2 m)

/-- A link's record changes in what nothing looks at. -/
theorem orderly_modLink (f : LinkRec → LinkRec) (hf : ∀ r, (f r).silence = r.silence ∧ (f r).state = r.state ∧
    (f r).enable = r.enable ∧ (f r).offset = r.offset) : Orderly s (s.modLink l f) := by
  obtain ⟨silence, state, enable, offset⟩ := hf s.links[l]
  refine orderly_of_link (l := l) (frame_modLink l f) (by decide) rfl offset (fun _ _ => rfl) fun fits => ?_
  rw [silence, state, enable]
  exact fits

theorem grade_endLinkCondition {o : Source} (ne : o ≠ .link l) : grade ((s.endLinkCondition l).slot o) = grade (s.slot o) :=
  (grade_endCondition_ne ne).trans (keepsGrades_refresh _ _)

theorem orderly_startGraces : Orderly s (s.startGraces l) := by
  refine orderly_of_links (frame_startGraces l) (by decide) (fun _ => rfl) (fun i => ?_) (fun _ _ => rfl)
    fun m => (conditionsMatch_iff.1 m).2
  rw [startGraces_signal]
  split <;> exact ⟨rfl, rfl, rfl⟩

/-- A link that hears is enabled. -/
theorem enable_of_hears (hears : s.linkHears l = true) (fits : LinkFits s l) : s.links[l].enable = true := by
  by_contra off
  have disabled := fits.2.2 (Bool.not_eq_true _ ▸ off)
  exact not_linkHears_of_state (.inr disabled) hears

theorem orderly_goodFrame (hears : s.linkHears l = true) : Orderly s (s.goodFrame l) := by
  by_cases up : s.links[l].state = .up
  · rw [goodFrame_of_up up]
    exact orderly_of_link (l := l) (frame_modLink l _) (by decide) rfl rfl (fun _ _ => rfl) fun fits =>
      ⟨fun _ => up, fits.2.1, fits.2.2⟩
  · rw [goodFrame_of_not_up up]
    refine orderly_startGraces.after ?_
    refine orderly_of_link (l := l) (W := [.links, .alerts, .attention])
      (frame_then (frame_mono (frame_modLink l _) (by decide)) (frame_endLinkCondition l) (by decide)) (by decide)
      (frame_endLinkCondition (s := brought s l) l .links (by decide)) rfl (fun o ne => grade_endLinkCondition ne) fun fits => ?_
    refine ⟨fun _ => rfl, fun _ => endLinkCondition_slot _ l, fun off => ?_⟩
    exact absurd (enable_of_hears hears fits) (Bool.not_eq_true _ ▸ off)

theorem grade_raiseLinkCondition {o : Source} (ne : o ≠ .link l) :
    grade ((s.raiseLinkCondition l).slot o) = grade (s.slot o) := (setsGrade_raiseLinkCondition s l).2 o ne

theorem raiseLinkCondition_links (s : State) (l : LinkId) : (s.raiseLinkCondition l).links = s.links :=
  frame_raiseLinkCondition l .links (by decide)

theorem orderly_silenceExpires : Orderly s (s.silenceExpires l) := by
  cases running : s.links[l].silence.isSome with
  | false =>
    unfold State.silenceExpires
    split
    next h => rw [h] at running; cases running
    next => exact .refl s
  | true =>
    rw [silenceExpires_of_running running]
    refine orderly_of_link (l := l) (W := [.links, .alerts, .attention])
      (frame_then (frame_mono (frame_modLink l _) (by decide)) (frame_raiseLinkCondition l) (by decide)) (by decide)
      (raiseLinkCondition_links _ l) rfl (fun o ne => grade_raiseLinkCondition ne) fun fits => ?_
    refine ⟨nofun, nofun, fun off => ?_⟩
    have disabled := fits.2.2 off
    rw [fits.1 running] at disabled
    cases disabled

theorem orderly_detectBreak (hears : s.linkHears l = true) : Orderly s (s.detectBreak l) := by
  refine orderly_of_link (l := l) (frame_detectBreak l) (by decide) (detectBreak_links s l) rfl (fun o ne => ?_) fun fits => ?_
  · by_cases up : s.links[l].state = .up
    · rw [detectBreak_of_up up]
      exact grade_raiseLinkCondition ne
    · rw [detectBreak_of_not_up up]
      exact keepsGrades_refresh _ _
  · refine ⟨nofun, nofun, fun off => ?_⟩
    exact absurd (enable_of_hears hears fits) (Bool.not_eq_true _ ▸ off)

theorem orderly_endBreak : Orderly s (s.endBreak l) := by
  have idle : Orderly s (s.modLink l fun r => { r with lineActive := false, breakTimer := none }) :=
    orderly_modLink _ fun _ => ⟨rfl, rfl, rfl, rfl⟩
  unfold State.endBreak
  dsimp only
  refine .ite (fun broken => ?_) fun _ => idle
  refine Orderly.trans idle ?_
  generalize hu : (s.modLink l fun r => { r with lineActive := false, breakTimer := none }) = u at *
  have state : u.links[l].state = .broken := by
    rw [← hu, modLink_links, get_set_self]
    exact broken
  refine orderly_of_link (l := l) (W := [.links, .alerts, .attention])
    (frame_then (frame_mono (frame_modLink l _) (by decide)) (frame_refresh _) (by decide)) (by decide)
    (frame_refresh (s := u.modLink l _) (.link l) .links (by decide)) rfl (fun o _ => keepsGrades_refresh _ _) fun fits => ?_
  refine ⟨fun running => ?_, nofun, fun off => ?_⟩
  · have up := fits.1 running
    rw [state] at up
    cases up
  · have disabled := fits.2.2 off
    rw [state] at disabled
    cases disabled

theorem orderly_convertEach (is : List SeatId) : Orderly s (is.foldl (State.convertSeat l) s) :=
  .foldl (fun _ _ => orderly_of_seat atSeat_convertSeat seatKeeps_convertSeat) is s

theorem orderly_setAttributed (g : Nat → Nat) : Orderly s (s.setAttributed l g) :=
  orderly_of_link (l := l) (frame_setAttributed_links l g) (by decide) (setAttributed_links s l g) rfl
    (fun o _ => keepsGrades_refresh (s := s.modLink l _) _ _) fun fits =>
      ⟨fits.1, fun up => (isRaised_of_grade (keepsGrades_refresh (s := s.modLink l _) (.link l) (.link l))).trans (fits.2.1 up),
        fits.2.2⟩

theorem orderly_convertSeats : Orderly s (s.convertSeats l) := (orderly_setAttributed _).after (orderly_convertEach allSeats)

theorem orderly_disableLink : Orderly s (s.disableLink l) := by
  unfold State.disableLink
  dsimp only
  refine Orderly.after (orderly_modLink _ fun _ => ⟨rfl, rfl, rfl, rfl⟩) (orderly_convertSeats.after ?_)
  refine orderly_of_link (l := l) (W := [.links, .alerts, .attention])
    (frame_then (frame_mono (frame_modLink l _) (by decide)) (frame_endLinkCondition l) (by decide)) (by decide)
    (frame_endLinkCondition (s := s.modLink l _) l .links (by decide)) rfl (fun o ne => grade_endLinkCondition ne) fun _ => ?_
  exact ⟨nofun, nofun, fun _ => rfl⟩

theorem orderly_enableLink (off : s.links[l].enable = false) : Orderly s (s.enableLink l) := by
  refine orderly_of_link (l := l) (frame_modLink l _) (by decide) rfl rfl (fun _ _ => rfl) fun fits => ?_
  refine ⟨fun running => ?_, nofun, nofun⟩
  have up := fits.1 running
  rw [fits.2.2 off] at up
  cases up

theorem orderly_writeEnable (on : Bool) : Orderly s (s.writeEnable l on) := by
  unfold State.writeEnable
  split
  · exact orderly_disableLink
  next off => exact orderly_enableLink off
  · exact .refl s

theorem orderly_sendOrder (f : InFlight) : Orderly s (s.sendOrder l i f) := by
  unfold State.sendOrder
  exact orderly_modLink _ fun _ => ⟨rfl, rfl, rfl, rfl⟩

theorem orderly_openSlot : Orderly s (s.openSlot l) := by
  unfold State.openSlot State.reissue State.firstIssue
  split
  next => exact (orderly_sendOrder _).after (orderly_of_apart (frame_setQueue _) (by decide))
  next =>
    split
    next =>
      exact (orderly_sendOrder _).after (Orderly.after (orderly_of_apart (frame_modSync _ _) (by decide))
        (orderly_of_apart (frame_setQueue _) (by decide)))
    next => exact .refl s

theorem orderly_slotExpires : Orderly s (s.slotExpires l) := by
  unfold State.slotExpires
  split
  · exact orderly_openSlot.after (orderly_modLink _ fun _ => ⟨rfl, rfl, rfl, rfl⟩)
  · exact .refl s

theorem orderly_becomeReady : Orderly s s.becomeReady := by
  have begun (r : LinkRec) : r.begin.silence = r.silence ∧ r.begin.state = r.state ∧ r.begin.enable = r.enable ∧
      r.begin.offset = r.offset := by
    unfold LinkRec.begin
    split <;> exact ⟨rfl, rfl, rfl, rfl⟩
  have links (m : LinkId) : s.becomeReady.links[m].silence = s.links[m].silence ∧
      s.becomeReady.links[m].state = s.links[m].state ∧ s.becomeReady.links[m].enable = s.links[m].enable ∧
      s.becomeReady.links[m].offset = s.links[m].offset := by
    unfold State.becomeReady
    split
    · show (s.links.map LinkRec.begin)[m].silence = _ ∧ (s.links.map LinkRec.begin)[m].state = _ ∧
        (s.links.map LinkRec.begin)[m].enable = _ ∧ (s.links.map LinkRec.begin)[m].offset = _
      rw [get_map]
      exact begun _
    · exact ⟨rfl, rfl, rfl, rfl⟩
  have alerts : s.becomeReady.alerts = s.alerts := frame_becomeReady .alerts (by decide)
  have signal : s.becomeReady.signal = s.signal := frame_becomeReady .signal (by decide)
  refine orderly_of_links frame_becomeReady (by decide) (fun m => (links m).2.2.2)
    (fun i => by rw [signal]; exact ⟨rfl, rfl, rfl⟩) (fun i k => by rw [slot_of_alerts alerts]) fun fits m => ?_
  obtain ⟨silence, state, enable, -⟩ := links m
  exact linkFits_of_same silence state enable (by rw [slot_of_alerts alerts]) ((conditionsMatch_iff.1 fits).2 m)

/-! ## Moves -/

/-- A chain of moves. Where `c` holds, an open frame is added to a table with room and without its key. -/
inductive Moves (c : Prop) : State → State → Prop
  | refl (s : State) : Moves c s s
  | trans {s t u : State} : Moves c s t → Moves c t u → Moves c s u
  | orderly {s t : State} : Orderly s t → Moves c s t
  | leaveFrames {s : State} (f : OpenFrame → Bool) : Moves c s { s with openFrames := s.openFrames.filter f }
  | joinFrame {s : State} (k : FrameKey) (l : LinkId) (x : Int) :
      Moves c s { s with openFrames := s.openFrames.map fun (o : OpenFrame) => if o.key = k then o.join l x else o }
  | openFrame {s : State} (o : OpenFrame)
      (h : c → s.openFrames.length < 16 ∧ ∀ x ∈ s.openFrames, OpenFrame.key x ≠ OpenFrame.key o) :
      Moves c s { s with openFrames := s.openFrames ++ [o] }
  | stranger {s : State} (f : Settled) (unbound : ∀ i : SeatId, s.seats[i].radio ≠ some f.payload.radio) :
      Moves c s (s.strangerFrame f)
  | aging {s : State} (r : RadioId) : Moves c s { s with strangers := withoutStranger r s.strangers }
  | bind {s : State} (i : SeatId) (r : RadioId) (free : s.bound i = false) (valid : validRadio r = true)
      (fresh : ∀ j : SeatId, s.seats[j].radio ≠ some r) : Moves c s (s.bindSeat i r)
  | unbind {s : State} (i : SeatId) : Moves c s (s.unbindSeat i)
  | giveFloor {s : State} (i : SeatId) (bound : s.bound i = true) (without : s.mute[i].floor = false)
      (room : s.floorCount < s.params.floorLimit) : Moves c s (s.giveFloor i)
  | takeFloor {s : State} (i : SeatId) (held : s.mute[i].floor = true) : Moves c s (s.takeFloor i)
  | param {s : State} (q : Param) (v : Int) (h : ∀ l, q ≠ .linkEnable l) : Moves c s (s.storeParam q (s.storedValue q v))

theorem Moves.after (last : Moves c t u) (h : Moves c s t) : Moves c s u := h.trans last

theorem Moves.ite {b : Prop} [Decidable b] (ht : b → Moves c s t) (hu : ¬b → Moves c s u) : Moves c s (if b then t else u) := by
  split
  next h => exact ht h
  next h => exact hu h

theorem Moves.seat (a : AtSeat i s t) (k : SeatKeeps i s t) : Moves c s t := .orderly (orderly_of_seat a k)

theorem Moves.apart {W : List Block} (h : ChangesOnly W s t) (hW : ∀ b ∈ .alerts :: .signal :: .links :: tableBlocks, b ∉ W) :
    Moves c s t := .orderly (orderly_of_apart h hW)

theorem Moves.port (f : PortRec → PortRec) : Moves c s (s.modPort p f) := .apart (frame_modPort p f) (by decide)

theorem moves_evalOutputs : Moves c s s.evalOutputs := .apart frame_evalOutputs (by decide)

/-! ## Merge Unit -/

theorem seatOf_eq_none {r : RadioId} (h : s.seatOf r = none) (i : SeatId) : s.seats[i].radio ≠ some r := by
  intro radio
  have some := (Binding.seatOf_isSome_iff s r).2 ⟨i, radio⟩
  rw [h] at some
  cases some

theorem moves_settledFrame (f : Settled) : Moves c s (s.settledFrame f) := by
  unfold State.settledFrame
  refine .ite (fun _ => .refl s) fun _ => ?_
  split
  · exact .seat atSeat_seatFrame seatKeeps_seatFrame
  next unbound => exact .stranger f (seatOf_eq_none unbound)

theorem moves_settle (o : OpenFrame) : Moves c s (s.settle o) := (moves_settledFrame _).after (.leaveFrames _)

theorem moves_testComplete (k : FrameKey) : Moves c s (s.testComplete k) := by
  unfold State.testComplete
  split
  · exact .ite (fun _ => moves_settle _) fun _ => .refl s
  · exact .refl s

theorem moves_forceOldest : Moves c s s.forceOldest := by
  unfold State.forceOldest
  split
  · exact .ite (fun _ => moves_settle _) fun _ => .refl s
  · exact .refl s

theorem settledFrame_openFrames (s : State) (f : Settled) : (s.settledFrame f).openFrames = s.openFrames := by
  unfold State.settledFrame
  split
  · rfl
  · split
    · exact atSeat_seatFrame.frame .openFrames (by decide)
    · unfold State.strangerFrame
      dsimp only
      split <;> rfl

theorem settle_openFrames (s : State) (o : OpenFrame) :
    (s.settle o).openFrames = s.openFrames.filter fun x => x.key != o.key := settledFrame_openFrames _ _

/-- The open frames fit the table and no two share a key. -/
def FramesFit (s : State) : Prop := s.openFrames.length ≤ 16 ∧ (s.openFrames.map OpenFrame.key).Nodup

theorem forceOldest_openFrames (h : FramesFit s) :
    s.forceOldest.openFrames.length < 16 ∧ ∀ x ∈ s.forceOldest.openFrames, x ∈ s.openFrames := by
  have size : Config.openFrameSize = 16 := rfl
  obtain ⟨few, -⟩ := h
  unfold State.forceOldest
  split
  next o rest frames =>
    split
    next full =>
      rw [settle_openFrames]
      refine ⟨?_, fun x hx => List.mem_of_mem_filter hx⟩
      refine Nat.lt_of_lt_of_le (List.length_filter_lt_length_iff_exists.2 ⟨o, ?_, ?_⟩) few
      · rw [frames]; exact List.mem_cons_self
      · simp
    next room => exact ⟨by omega, fun _ => id⟩
  next frames => exact ⟨by rw [frames]; decide, fun _ => id⟩

theorem openFrame?_eq_none {k : FrameKey} (h : s.openFrame? k = none) {x : OpenFrame} (hx : x ∈ s.openFrames) :
    OpenFrame.key x ≠ k := by
  have unlike := List.find?_eq_none.1 h x hx
  simpa using unlike

theorem moves_copyArrives (h : c → FramesFit s) (m : MicPayload) (l : LinkId) (x : Int) : Moves c s (s.copyArrives m l x) := by
  unfold State.copyArrives
  dsimp only
  split
  next => exact (moves_testComplete _).after (.joinFrame _ l x)
  next fresh =>
    refine (moves_testComplete _).after (Moves.after (.openFrame _ fun hc => ?_) moves_forceOldest)
    obtain ⟨room, old⟩ := forceOldest_openFrames (h hc)
    exact ⟨room, fun y hy => openFrame?_eq_none fresh (old y hy)⟩

theorem moves_windowExpires (k : FrameKey) : Moves c s (s.windowExpires k) := by
  unfold State.windowExpires
  split
  · exact moves_settle _
  · exact .refl s

/-! ## Requests -/

theorem moves_derive (i : SeatId) : Moves c s (s.derive i) := .seat atSeat_derive seatKeeps_derive

theorem moves_escalateFrom (i : SeatId) (k : SeatKind) (low high : Severity) :
    Moves c s (s.escalateFrom (.seat i k) low high) := .seat (atSeat_escalateFrom k low high) (seatKeeps_escalateFrom k low high)

theorem moves_grantFloor (bound : s.bound i = true) (without : s.mute[i].floor = false)
    (room : s.floorCount < s.params.floorLimit) : Moves c s (s.grantFloor i) := by
  unfold State.grantFloor
  dsimp only
  refine (moves_derive i).after (Moves.after (.seat atSeat_dropOpenNoFloor seatKeeps_dropOpenNoFloor)
    ((moves_escalateFrom i _ _ _).after ?_))
  exact .ite (fun _ => (moves_escalateFrom i _ _ _).after (.giveFloor i bound without room)) fun _ =>
    .giveFloor i bound without room

theorem moves_revokeFloor (held : s.mute[i].floor = true) : Moves c s (s.revokeFloor i) :=
  (moves_derive i).after (Moves.after (.seat atSeat_dropFloorMuted seatKeeps_dropFloorMuted) (.takeFloor i held))

theorem moves_overSeats {rule : State → SeatId → SeatAnswer} (h : ∀ s i, Moves c s (rule s i).after) (seats : List SeatId) :
    Moves c s (s.overSeats rule seats).2 := by
  unfold State.overSeats
  suffices H : ∀ acc : Nat × State, Moves c acc.2
      (seats.foldl (fun acc i => let a := rule acc.2 i; (acc.1 + flag a.changed, a.after)) acc).2 from H (0, s)
  induction seats with
  | nil => exact fun acc => .refl acc.2
  | cons i seats ih =>
    intro acc
    rw [List.foldl_cons]
    exact (h acc.2 i).trans (ih (acc.1 + flag (rule acc.2 i).changed, (rule acc.2 i).after))

theorem moves_seatOrRange {rule : State → SeatId → SeatAnswer} (h : ∀ s i, Moves c s (rule s i).after) (ts : TagState)
    (n : Nat) : Moves c s (s.seatOrRange rule ts n).2 :=
  seatOrRange_cases (motive := Moves c s) s rule ts n (.refl s) (fun is => moves_overSeats h is) (h s)

theorem moves_withOutputs {x : Reply × State} (h : Moves c s x.2) : Moves c s (withOutputs x).2 := by
  unfold withOutputs
  split
  · exact h.trans moves_evalOutputs
  · exact h

theorem moves_quietRule (i : SeatId) : Moves c s (s.quietRule i).after := by
  unfold State.quietRule
  split
  · split
    · exact .refl s
    · exact .seat atSeat_setQuiet seatKeeps_setQuiet
  all_goals exact .refl s

theorem moves_unquietRule (i : SeatId) : Moves c s (s.unquietRule i).after := by
  unfold State.unquietRule
  split
  · exact .seat atSeat_clearQuiet seatKeeps_clearQuiet
  · exact .refl s

theorem moves_holdRule (i : SeatId) : Moves c s (s.holdRule i).after := by
  have held : Moves c s (s.holdConsole i) := .seat atSeat_holdConsole seatKeeps_holdConsole
  unfold State.holdRule
  split
  · split
    · exact held
    · exact held
    · exact .refl s
  · exact .refl s

theorem moves_freeRule (i : SeatId) : Moves c s (s.freeRule i).after := by
  have freed : Moves c s (s.freeHold i) := .seat atSeat_freeHold seatKeeps_freeHold
  unfold State.freeRule
  split
  · split
    · exact .refl s
    · exact freed
    · exact freed
  · exact .refl s

theorem moves_swapRule (i : SeatId) : Moves c s (s.swapRule i).after := by
  unfold State.swapRule
  split
  · split
    · exact .seat (atSeat_swapSeat _) (seatKeeps_swapSeat _)
    · exact .refl s
  · exact .refl s

theorem moves_revokeRule (i : SeatId) : Moves c s (s.revokeRule i).after := by
  unfold State.revokeRule
  split
  · split
    next held => exact moves_revokeFloor held
    next => exact .refl s
  · exact .refl s

theorem moves_grantRequest (n : Nat) : Moves c s (s.grantRequest n).2 := by
  unfold State.grantRequest
  split
  · split
    · exact .refl s
    next bound =>
      split
      · exact .refl s
      next without =>
        split
        · exact .refl s
        next room =>
          rw [withOutputs_done]
          refine moves_evalOutputs.after (moves_grantFloor ?_ (Bool.not_eq_true _ ▸ without) (Nat.lt_of_not_le room))
          simpa using bound
  · exact .refl s

theorem moves_bindRequest (n : Nat) (r : RadioId) : Moves c s (s.bindRequest n r).2 := by
  unfold State.bindRequest
  split
  next i _ =>
    split
    · exact .refl s
    next valid =>
      split
      · exact .refl s
      next free =>
        split
        · exact .refl s
        next fresh =>
          refine .bind i r (Bool.not_eq_true _ ▸ free) (by simpa using valid) (seatOf_eq_none ?_)
          simpa using fresh
  · exact .refl s

theorem moves_unbindRequest (n : Nat) : Moves c s (s.unbindRequest n).2 := by
  unfold State.unbindRequest
  split
  next i _ =>
    split
    · rw [withOutputs_done]
      exact moves_evalOutputs.after (.unbind i)
    · exact .refl s
  · exact .refl s

theorem moves_removalTests (srcs : List Source) : Moves c s (s.removalTests srcs) :=
  .orderly (orderly_of_frame (frame_removalTests srcs) (by decide) (keepsGrades_removalTests srcs))

theorem moves_acknowledgeInTurn (p : PortId) (scopes : List (Entry → Bool)) :
    Moves c s (s.acknowledgeInTurn p scopes).2 := by
  unfold State.acknowledgeInTurn
  dsimp only
  refine moves_evalOutputs.after ((moves_removalTests _).after (.orderly ?_))
  exact orderly_of_frame (frame_setRoster _) (by decide) (keepsGrades_of_slots fun _ => slot_setRoster _ _ _)

theorem moves_ackRequest (p : PortId) (ts : TagState) (scope : Byte) (v : Nat) : Moves c s (s.ackRequest p ts scope v).2 := by
  unfold State.ackRequest State.ackTag State.ackSeat
  repeat' split
  all_goals first | exact .refl s | exact moves_acknowledgeInTurn p _

theorem moves_storeView (p : PortId) (v : View) : Moves c s (s.storeView p v) := by
  unfold State.storeView
  dsimp only
  exact moves_evalOutputs.after ((moves_removalTests _).after (Moves.after (.apart (frame_attend _) (by decide)) (.port _)))

theorem moves_setViewRequest (p : PortId) (n b l : Nat) (v : Byte) (k : BitVec 16) :
    Moves c s (s.setViewRequest p n b l v k).2 := by
  unfold State.setViewRequest
  repeat' split
  all_goals first | exact .refl s | exact moves_storeView _ _

theorem moves_storeParam (q : Param) (v : Int) : Moves c s (s.storeParam q (s.storedValue q v)) := by
  cases q with
  | linkEnable l => exact .orderly (orderly_writeEnable _)
  | _ => exact .param _ v nofun

theorem moves_setParamRequest (n : Nat) (v : Int) : Moves c s (s.setParamRequest n v).2 := by
  unfold State.setParamRequest
  split
  · exact (moves_storeParam _ v).trans moves_evalOutputs
  · exact .refl s

theorem moves_perform (ts : TagState) (args : List Byte) (r : Request) : Moves c s (s.perform p ts args r).2 := by
  cases r with
  | summary => exact .apart (frame_clearAttention p) (by decide)
  | readRoster => exact .apart (W := []) (frame_readRosterRequest _ _ _) (by decide)
  | readSeat => exact .apart (W := []) (frame_readSeatRequest _) (by decide)
  | readLink => exact .apart (W := []) (frame_readLinkRequest _) (by decide)
  | readStrangers => exact .refl s
  | readParam => exact .apart (W := []) (frame_readParamRequest _) (by decide)
  | ack => exact moves_ackRequest _ _ _ _
  | setView => exact moves_setViewRequest _ _ _ _ _ _
  | setRemind => exact .apart (frame_setRemindRequest _ _) (by decide)
  | setMask => exact .apart (frame_setMaskRequest _ _) (by decide)
  | clearOverflow =>
    refine .orderly (orderly_of_frame (W := [.alerts])
      (fun b hb => by cases b <;> first | rfl | exact absurd (by decide) hb) (by decide) (keepsGrades_of_slots fun o => ?_))
    exact slot_of_tables rfl rfl o
  | mark => exact .apart (frame_markRequest _) (by decide)
  | tagFirst => exact .apart (frame_tagFirst _ _) (by decide)
  | tagLast => exact .apart (frame_tagLast _ _ _) (by decide)
  | quiet => exact moves_seatOrRange (fun _ => moves_quietRule) _ _
  | unquiet => exact moves_withOutputs (moves_seatOrRange (fun _ => moves_unquietRule) _ _)
  | hold => exact moves_withOutputs (moves_seatOrRange (fun _ => moves_holdRule) _ _)
  | free => exact moves_seatOrRange (fun _ => moves_freeRule) _ _
  | swap => exact moves_withOutputs (moves_seatOrRange (fun _ => moves_swapRule) _ _)
  | grant => exact moves_grantRequest _
  | revoke => exact moves_withOutputs (moves_seatOrRange (fun _ => moves_revokeRule) _ _)
  | revokeAll => exact moves_withOutputs (moves_overSeats (fun _ => moves_revokeRule) _)
  | bind => exact moves_bindRequest _ _
  | unbind => exact moves_unbindRequest _
  | setParam => exact moves_setParamRequest _ _
  | setLamp => exact .apart (frame_setLampRequest _) (by decide)
  | restart => exact .refl s

/-! ## Console ports -/

theorem moves_take (a : Arrival) : Moves c s (s.take p a) := by
  unfold State.take
  split
  · exact .port _
  · split
    · unfold State.takeRequest
      dsimp only
      split
      · exact Moves.after (.port _) (.port _)
      · exact Moves.after (.port _) ((moves_perform _ _ _).after (.port _))
    · unfold State.takeUnknown
      exact Moves.after (.port _) (.port _)

theorem moves_arrive (a : Arrival) : Moves c s (s.arrive p a) := by
  unfold State.arrive
  dsimp only
  refine .ite (fun _ => .refl s) fun _ => .ite (fun _ => moves_take a) fun _ => .ite (fun _ => ?_) fun _ => ?_
  · exact .port _
  · exact .port _

theorem orderly_modPort (f : PortRec → PortRec) : Orderly s (s.modPort p f) := orderly_of_apart (frame_modPort p f) (by decide)

theorem orderly_broken : Orderly s (broken s p) :=
  Orderly.after (orderly_of_apart (frame_dropMarkers p _) (by decide))
    (Orderly.after (orderly_of_apart (frame_clearAttention p) (by decide)) (orderly_modPort _))

/-- Power-on, and a restart. -/
inductive Anew (s : State) : State → Prop
  | powerOn (straps : Vector Strap 4) : Anew s (s.powerOn straps)
  | restarts {u : State} (h : Orderly s u) : Anew s u.beginRestart

theorem moves_event {b : Prop} [Decidable b] (h : b → Moves c s t) : Moves c s (if b then t.evalOutputs else s) :=
  .ite (fun hb => (h hb).trans moves_evalOutputs) fun _ => .refl s

/-! ## Commands -/

/-- Power-on and restarts apart, every command is a chain of moves. -/
theorem moves_exec (x : Instr) (s : State) (h : c → FramesFit s) : ∃ t, exec x s = .next t ∧ (Anew s t ∨ Moves c s t) := by
  induction x using command_cases with
  | request r p args => exact ⟨_, exec_row r p args s, .inr (moves_arrive _)⟩
  | powerOn straps => exact ⟨_, rfl, .inl (.powerOn straps)⟩
  | initialisationComplete => exact ⟨_, rfl, .inr (.orderly orderly_becomeReady)⟩
  | chamberClockTick => exact ⟨_, rfl, .inr (.apart frame_tick (by decide))⟩
  | restartBegin p =>
    refine ⟨_, rfl, ?_⟩
    unfold State.restartBegins
    split
    · exact .inl (.restarts (orderly_modPort _))
    · exact .inr (.refl s)
  | copy l payload raw =>
    refine ⟨_, rfl, .inr (moves_event fun hears => ?_)⟩
    have good := orderly_goodFrame hears
    refine (moves_copyArrives (fun hc => ?_) _ _ _).after (.orderly good)
    unfold FramesFit
    rw [good.openFrames]
    exact h hc
  | status l identity =>
    refine ⟨_, rfl, .inr (moves_event fun hears => .orderly ?_)⟩
    unfold State.statusFrame
    exact Orderly.after (orderly_modLink _ fun _ => ⟨rfl, rfl, rfl, rfl⟩) (orderly_goodFrame hears)
  | uplinkBadFrame l =>
    exact ⟨_, rfl, .inr (.ite (fun _ => .orderly (orderly_modLink _ fun _ => ⟨rfl, rfl, rfl, rfl⟩)) fun _ => .refl s)⟩
  | uplinkInterByteTimeout l =>
    exact ⟨_, rfl, .inr (.ite (fun _ => .orderly (orderly_modLink _ fun _ => ⟨rfl, rfl, rfl, rfl⟩)) fun _ => .refl s)⟩
  | breakDetected l => exact ⟨_, rfl, .inr (moves_event fun hears => .orderly (orderly_detectBreak hears))⟩
  | breakEnd l => exact ⟨_, rfl, .inr (.orderly orderly_endBreak)⟩
  | silenceTimerExpiry l => exact ⟨_, rfl, .inr (moves_event fun _ => .orderly orderly_silenceExpires)⟩
  | downlinkSlot l => exact ⟨_, rfl, .inr (.orderly orderly_slotExpires)⟩
  | mergeWindowExpiry key => exact ⟨_, rfl, .inr (moves_event fun _ => moves_windowExpires key)⟩
  | orderFrameEnd l => exact ⟨_, rfl, .inr (.orderly (orderly_modLink _ fun _ => ⟨rfl, rfl, rfl, rfl⟩))⟩
  | strangerAgingExpiry radio => exact ⟨_, rfl, .inr (.aging radio)⟩
  | lossTimerExpiry i => exact ⟨_, rfl, .inr (moves_event fun _ => .seat atSeat_lossTimerExpires seatKeeps_lossTimerExpires)⟩
  | recoveryGraceExpiry i => exact ⟨_, rfl, .inr (moves_event fun _ => .seat atSeat_graceExpires seatKeeps_graceExpires)⟩
  | voiceQualifyExpiry i =>
    exact ⟨_, rfl, .inr (moves_event fun _ => .seat atSeat_voiceQualifyExpires seatKeeps_voiceQualifyExpires)⟩
  | voiceEndExpiry i => exact ⟨_, rfl, .inr (moves_event fun _ => .seat atSeat_voiceEndExpires seatKeeps_voiceEndExpires)⟩
  | openGraceExpiry i => exact ⟨_, rfl, .inr (moves_event fun _ => .seat atSeat_openGraceExpires seatKeeps_openGraceExpires)⟩
  | floorMutedQualifyExpiry i =>
    exact ⟨_, rfl, .inr (moves_event fun _ => .seat atSeat_floorMutedQualifyExpires seatKeeps_floorMutedQualifyExpires)⟩
  | chatterWindowExpiry i =>
    exact ⟨_, rfl, .inr (moves_event fun _ => .seat atSeat_chatterWindowExpires seatKeeps_chatterWindowExpires)⟩
  | syncWindowExpiry i => exact ⟨_, rfl, .inr (.apart (frame_syncWindowExpires i) (by decide))⟩
  | reminderTimerExpiry p => exact ⟨_, rfl, .inr (.apart (frame_ite frame_reminderExpires frame_refl) (by decide))⟩
  | lampOnTimeEnd m => exact ⟨_, rfl, .inr (.apart (frame_modLamp m _) (by decide))⟩
  | lampPeriodEnd m => exact ⟨_, rfl, .inr (.apart (frame_modLamp m _) (by decide))⟩
  | consoleInterByteTimeout p =>
    exact ⟨_, rfl, .inr (.ite (fun _ => .refl s) fun _ => (moves_arrive _).after (.port _))⟩
  | frameError p code => exact ⟨_, rfl, .inr (moves_arrive _)⟩
  | arrivalWaiting p a => exact ⟨_, rfl, .inr (moves_arrive a)⟩
  | unknownRequest p code args => exact ⟨_, rfl, .inr (moves_arrive _)⟩
  | responseEnd p =>
    refine ⟨_, rfl, ?_⟩
    unfold State.responseEnds
    split
    · exact .inl (.restarts (orderly_modPort _))
    · refine .inr (.ite (fun _ => ?_) fun _ => .refl s)
      unfold State.takeWaiting
      split
      · exact (moves_take _).after (Moves.after (.port _) (.port _))
      · exact .port _
  | portBreak p =>
    refine ⟨_, rfl, ?_⟩
    rw [portBreaks_eq]
    split
    · exact .inr (.refl s)
    · split
      · exact .inl (.restarts orderly_broken)
      · exact .inr (.orderly orderly_broken)
  | portBreakEnd p => exact ⟨_, rfl, .inr (.ite (fun _ => .port _) fun _ => .refl s)⟩

/-! ## Line events -/

theorem orderly_post (x : Instr) : Orderly s (s.post x) :=
  orderly_of_apart (W := [.pending]) (fun b hb => by cases b <;> first | rfl | exact absurd (by decide) hb) (by decide)

theorem orderly_linkEvent (x : LineEvent) : Orderly s (s.linkEvent l x) := by
  have kept (f : LinkRec → LinkRec) (hf : ∀ r, (f r).silence = r.silence ∧ (f r).state = r.state ∧ (f r).enable = r.enable ∧
      (f r).offset = r.offset) : Orderly s (s.modLink l f) := orderly_modLink f hf
  unfold State.linkEvent
  split
  · refine .ite (fun _ => ?_) fun _ => .refl s
    unfold State.linkByte
    split
    · exact kept _ fun _ => ⟨rfl, rfl, rfl, rfl⟩
    · exact (orderly_post _).after (kept _ fun _ => ⟨rfl, rfl, rfl, rfl⟩)
    · exact (orderly_post _).after (kept _ fun _ => ⟨rfl, rfl, rfl, rfl⟩)
  · refine .ite (fun _ => .ite (fun _ => .refl s) fun _ => ?_) fun _ => .refl s
    exact (orderly_post _).after (kept _ fun _ => ⟨rfl, rfl, rfl, rfl⟩)
  · exact kept _ fun _ => ⟨rfl, rfl, rfl, rfl⟩
  · exact .ite (fun _ => orderly_post _) fun _ => kept _ fun _ => ⟨rfl, rfl, rfl, rfl⟩

theorem orderly_portEvent (x : LineEvent) : Orderly s (s.portEvent p x) := by
  have posted (a : Arrival) : Orderly s (s.postArrival p a) := (orderly_post _).after (orderly_modPort _)
  unfold State.portEvent
  split
  · refine .ite (fun _ => .refl s) fun _ => ?_
    unfold State.portByte
    split
    · exact orderly_modPort _
    · exact posted _
    · exact posted _
  · exact .ite (fun _ => .refl s) fun _ => .ite (fun _ => .refl s) fun _ => posted _
  · exact orderly_modPort _
  · exact .ite (fun _ => orderly_post _) fun _ => orderly_modPort _

theorem orderly_receive (x : LineInput) : Orderly s (s.receive x) := by
  cases x with
  | uplink l x => exact orderly_linkEvent x
  | console p x => exact orderly_portEvent x

theorem orderly_taking (s : State) (cs : List Instr) (xs : List LineInput) : Orderly s (taking s cs xs) :=
  orderly_of_apart (W := [.pending, .rxInput])
    (fun b hb => by cases b <;> first | rfl | exact absurd (by decide) hb) (by decide)

/-- What a step keeps: what chains of moves keep, and power-on and restarts establish. -/
theorem step_moves {P : State → Prop} (next : step s = .next t) (start : P s) (h : c → FramesFit s)
    (moves : ∀ {s t}, Moves c s t → P s → P t) (anew : ∀ {u v}, Anew u v → P u → P v) : P t := by
  have taken (cs : List Instr) (xs : List LineInput) : P (taking s cs xs) := moves (.orderly (orderly_taking s cs xs)) start
  refine step_cases next (fun x rest heq => ?_) (fun x rest => ?_) start
  · obtain ⟨u, hu, kind⟩ := moves_exec (c := c) x (taking s rest s.rxInput) h
    rw [hu] at heq
    cases heq
    rcases kind with kind | kind
    · exact anew kind (taken _ _)
    · exact moves kind (taken _ _)
  · exact moves (.orderly (orderly_receive x)) (taken _ _)

end Sys2Proof.Machine.TableMoves
end

section
/-! PROOFS. UNBIND (R6): the seat's record, conditions, entries and SYNCs are gone, and what it held is given back. -/

namespace Sys2Proof.Machine.Unbinding

open Sys2Proof Sys2Proof.Machine Sys2Proof.Machine.Laws Sys2Proof.Machine.SlotGrades Sys2Proof.Machine.Runs
open Sys2Proof.Machine.AntennaLinks Sys2Proof.Machine.SeatWork Sys2Proof.Machine.Agreement Sys2Proof.Machine.QueueOps
open Sys2Proof.Machine.PortSettings Sys2Proof.Machine.Reads

variable {s t u : State} {i : SeatId} {l : LinkId} {p : PortId}

/-! ## The seat emptied -/

theorem freshSeat_seats (q : SeatRec) : (s.freshSeat i q).seats = s.seats.set i q := rfl
theorem freshSeat_battery (q : SeatRec) : (s.freshSeat i q).battery = s.battery.set i (Battery.fresh s.params.drain[0]) := rfl
theorem freshSeat_signal (q : SeatRec) : (s.freshSeat i q).signal = s.signal.set i Signal.fresh := rfl
theorem freshSeat_mute (q : SeatRec) : (s.freshSeat i q).mute = s.mute.set i Mute.fresh := rfl
theorem freshSeat_syncs (q : SeatRec) : (s.freshSeat i q).syncs = s.syncs.set i SyncRec.fresh := rfl
theorem freshSeat_queue (q : SeatRec) : (s.freshSeat i q).queue = s.queue := rfl
theorem freshSeat_alerts (q : SeatRec) : (s.freshSeat i q).alerts = s.alerts := rfl
theorem freshSeat_links (q : SeatRec) : (s.freshSeat i q).links = s.links := rfl
theorem freshSeat_floorCount (q : SeatRec) : (s.freshSeat i q).floorCount = s.floorCount := rfl

/-- Conditions and entries of the seat are gone (R6, step 1). -/
def emptied (s : State) (i : SeatId) : State := (clearSeatSlots s i).removeSeatEntries i

theorem frame_emptied : ChangesOnly [.alerts, .attention] s (emptied s i) :=
  frame_then (W := [.alerts, .attention]) (V := rosterBlocks)
    (fun b hb => by cases b <;> first | rfl | exact absurd (by decide) hb) (frame_removeSeatEntries i) (by decide)

theorem emptied_signal (s : State) (i : SeatId) : (emptied s i).signal = s.signal := frame_emptied .signal (by decide)
theorem emptied_links (s : State) (i : SeatId) : (emptied s i).links = s.links := frame_emptied .links (by decide)

theorem grade_emptied (o : Source) :
    grade ((emptied s i).slot o) = if o.seat? = some i then .clear else grade (s.slot o) := by
  rw [emptied, keepsGrades_removeSeatEntries i o, slot_clearSeatSlots]
  split <;> rfl

theorem entries_emptied : ∀ e ∈ (emptied s i).alerts.roster, e.source.seat? ≠ some i :=
  removeSeatEntries_none fun o ho => by
    rw [slot_clearSeatSlots, if_pos (show o.seat? = some i from ho)]
    rfl

theorem releaseAttribution_cases (s : State) (i : SeatId) :
    (∃ l, s.signal[i].cause = .link l ∧ s.releaseAttribution i = s.setAttributed l (· - 1)) ∨
      ((∀ l, s.signal[i].cause ≠ .link l) ∧ s.releaseAttribution i = s) := by
  unfold State.releaseAttribution
  split
  next l h => exact .inl ⟨l, h, rfl⟩
  next h => exact .inr ⟨fun l => by rw [h]; nofun, rfl⟩
  next h => exact .inr ⟨fun l => by rw [h]; nofun, rfl⟩

theorem keepsGrades_releaseAttribution : KeepsGrades s (s.releaseAttribution i) := by
  rcases releaseAttribution_cases s i with ⟨l, -, h⟩ | ⟨-, h⟩
  · rw [h]
    exact keepsGrades_refresh (s := s.modLink l _) (.link l)
  · rw [h]
    exact keepsGrades_refl

theorem releaseAttribution_links (s : State) (i : SeatId) (l : LinkId) : (s.releaseAttribution i).links[l] =
    if s.signal[i].cause = .link l then { s.links[l] with attributed := s.links[l].attributed - 1 } else s.links[l] := by
  rcases releaseAttribution_cases s i with ⟨m, cause, h⟩ | ⟨own, h⟩
  · rw [h, setAttributed_links, cause]
    by_cases same : l = m
    · subst same
      rw [if_pos rfl, get_set_self]
    · rw [if_neg fun e => same (LossCause.link.inj e).symm, get_set_ne _ same]
  · rw [h, if_neg (own l)]

theorem sources_mapLive (src : Source) (f : Entry → Entry) (hf : ∀ e, (f e).source = e.source) :
    ∀ e ∈ (s.mapLive src f).alerts.roster, ∃ x ∈ s.alerts.roster, x.source = e.source := by
  intro e he
  obtain ⟨x, hx, same⟩ := List.mem_map.1 he
  refine ⟨x, hx, ?_⟩
  rw [← same]
  split
  · exact (hf x).symm
  · rfl

theorem entries_releaseAttribution :
    ∀ e ∈ (s.releaseAttribution i).alerts.roster, ∃ x ∈ s.alerts.roster, x.source = e.source := by
  rcases releaseAttribution_cases s i with ⟨l, -, h⟩ | ⟨-, h⟩
  · rw [h]
    exact sources_mapLive (s := s.modLink l _) (.link l) _ fun _ => rfl
  · rw [h]
    exact fun e he => ⟨e, he, rfl⟩

/-- The seat's hold on a link and the floor is given back (R6, steps 2 and 3). -/
def released (s : State) (i : SeatId) : State :=
  ((((s.releaseAttribution i).modSignal i fun g => { g with lossTimer := none, grace := none, cause := .none }).releaseFloor
    i).modMute i fun _ => Mute.fresh)

theorem unbindSeat_eq_released (s : State) (i : SeatId) :
    s.unbindSeat i = ((released (emptied s i) i).dropSyncs i).freshSeat i SeatRec.vacant := rfl

theorem frame_releaseAttribution : ChangesOnly [.links, .alerts] s (s.releaseAttribution i) := by
  rcases releaseAttribution_cases s i with ⟨l, -, h⟩ | ⟨-, h⟩
  · rw [h]
    exact frame_setAttributed_links l _
  · rw [h]
    exact frame_refl

theorem frame_released : ChangesOnly [.links, .alerts, .signal, .mute, .floorCount] s (released s i) := by
  refine frame_then (W := [.links, .alerts, .signal, .mute, .floorCount]) ?_ (frame_modMute i _) (by decide)
  refine frame_then (W := [.links, .alerts, .signal, .mute, .floorCount]) ?_ (frame_releaseFloor i) (by decide)
  exact frame_then (frame_mono frame_releaseAttribution (by decide)) (frame_modSignal i _) (by decide)

theorem releaseFloor_alerts : (s.releaseFloor i).alerts = s.alerts := frame_releaseFloor i .alerts (by decide)
theorem releaseFloor_links : (s.releaseFloor i).links = s.links := frame_releaseFloor i .links (by decide)

theorem released_alerts (s : State) (i : SeatId) : (released s i).alerts = (s.releaseAttribution i).alerts :=
  releaseFloor_alerts (s := (s.releaseAttribution i).modSignal i _)

theorem released_links (s : State) (i : SeatId) : (released s i).links = (s.releaseAttribution i).links :=
  releaseFloor_links (s := (s.releaseAttribution i).modSignal i _)

theorem released_signal (s : State) (i : SeatId) :
    (released s i).signal = s.signal.set i { s.signal[i] with lossTimer := none, grace := none, cause := .none } := by
  rw [released, modMute_signal, show (State.releaseFloor _ i).signal = _ from frame_releaseFloor i .signal (by decide),
    modSignal_signal, show (s.releaseAttribution i).signal = s.signal from frame_releaseAttribution .signal (by decide)]

theorem releaseFloor_mute : (s.releaseFloor i).mute = s.mute := frame_releaseFloor i .mute (by decide)

theorem released_mute (s : State) (i : SeatId) : (released s i).mute = s.mute.set i Mute.fresh := by
  rw [released, modMute_mute, releaseFloor_mute, modSignal_mute,
    show (s.releaseAttribution i).mute = s.mute from frame_releaseAttribution .mute (by decide)]

theorem releaseFloor_floorCount (s : State) (i : SeatId) :
    (s.releaseFloor i).floorCount = if s.mute[i].floor then s.floorCount - 1 else s.floorCount := by
  unfold State.releaseFloor
  split <;> rfl

theorem released_floorCount (s : State) (i : SeatId) :
    (released s i).floorCount = if s.mute[i].floor then s.floorCount - 1 else s.floorCount := by
  rw [released, modMute_floorCount, releaseFloor_floorCount, modSignal_floorCount, modSignal_mute,
    show (s.releaseAttribution i).mute = s.mute from frame_releaseAttribution .mute (by decide),
    show (s.releaseAttribution i).floorCount = s.floorCount from frame_releaseAttribution .floorCount (by decide)]

/-! ## UNBIND -/

theorem frame_dropped : ChangesOnly [.alerts, .attention, .links, .signal, .mute, .floorCount, .queue, .syncs, .markers] s
    ((released (emptied s i) i).dropSyncs i) := by
  refine frame_then (W := [.alerts, .attention, .links, .signal, .mute, .floorCount, .queue, .syncs, .markers]) ?_
    (frame_dropSyncs i) (by decide)
  exact frame_then (frame_mono frame_emptied (by decide)) frame_released (by decide)

theorem dropSyncs_signal : (s.dropSyncs i).signal = s.signal := frame_dropSyncs i .signal (by decide)
theorem dropSyncs_mute : (s.dropSyncs i).mute = s.mute := frame_dropSyncs i .mute (by decide)
theorem dropSyncs_alerts : (s.dropSyncs i).alerts = s.alerts := frame_dropSyncs i .alerts (by decide)
theorem dropSyncs_links : (s.dropSyncs i).links = s.links := frame_dropSyncs i .links (by decide)
theorem dropSyncs_floorCount : (s.dropSyncs i).floorCount = s.floorCount := frame_dropSyncs i .floorCount (by decide)

theorem unbindSeat_seats (s : State) (i : SeatId) : (s.unbindSeat i).seats = s.seats.set i SeatRec.vacant := by
  rw [unbindSeat_eq_released, freshSeat_seats, show (State.dropSyncs _ i).seats = _ from frame_dropped .seats (by decide)]

theorem unbindSeat_battery (s : State) (i : SeatId) :
    (s.unbindSeat i).battery = s.battery.set i (Battery.fresh s.params.drain[0]) := by
  rw [unbindSeat_eq_released, freshSeat_battery, show (State.dropSyncs _ i).battery = _ from frame_dropped .battery (by decide),
    show (State.dropSyncs _ i).params = _ from frame_dropped .params (by decide)]

theorem unbindSeat_signal (s : State) (i : SeatId) : (s.unbindSeat i).signal = s.signal.set i Signal.fresh := by
  rw [unbindSeat_eq_released, freshSeat_signal, dropSyncs_signal, released_signal, emptied_signal, set_set_self]

theorem unbindSeat_mute (s : State) (i : SeatId) : (s.unbindSeat i).mute = s.mute.set i Mute.fresh := by
  rw [unbindSeat_eq_released, freshSeat_mute, dropSyncs_mute, released_mute,
    show (emptied s i).mute = s.mute from frame_emptied .mute (by decide), set_set_self]

theorem unbindSeat_sync (s : State) (i : SeatId) : (s.unbindSeat i).syncs[i] = SyncRec.fresh := by
  rw [unbindSeat_eq_released, freshSeat_syncs, get_set_self]

theorem unbindSeat_floorCount (s : State) (i : SeatId) :
    (s.unbindSeat i).floorCount = if s.mute[i].floor then s.floorCount - 1 else s.floorCount := by
  rw [unbindSeat_eq_released, freshSeat_floorCount, dropSyncs_floorCount, released_floorCount,
    show (emptied s i).mute = s.mute from frame_emptied .mute (by decide),
    show (emptied s i).floorCount = s.floorCount from frame_emptied .floorCount (by decide)]

theorem unbindSeat_link (s : State) (i : SeatId) (l : LinkId) : (s.unbindSeat i).links[l] =
    if s.signal[i].cause = .link l then { s.links[l] with attributed := s.links[l].attributed - 1 } else s.links[l] := by
  rw [unbindSeat_eq_released, freshSeat_links, dropSyncs_links, released_links, releaseAttribution_links, emptied_signal,
    emptied_links]

theorem unbindSeat_alerts (s : State) (i : SeatId) :
    (s.unbindSeat i).alerts = ((emptied s i).releaseAttribution i).alerts := by
  rw [unbindSeat_eq_released, freshSeat_alerts, dropSyncs_alerts, released_alerts]

theorem grade_unbindSeat (s : State) (i : SeatId) (o : Source) :
    grade ((s.unbindSeat i).slot o) = if o.seat? = some i then .clear else grade (s.slot o) := by
  rw [slot_of_alerts (unbindSeat_alerts s i), keepsGrades_releaseAttribution o, grade_emptied]

theorem slot_unbindSeat (s : State) (i : SeatId) (k : SeatKind) : (s.unbindSeat i).slot (.seat i k) = .clear := by
  rw [← grade_eq_clear, grade_unbindSeat]
  exact if_pos rfl

theorem entries_unbindSeat (s : State) (i : SeatId) : ∀ e ∈ (s.unbindSeat i).alerts.roster, e.source.seat? ≠ some i := by
  rw [unbindSeat_alerts]
  intro e he
  obtain ⟨x, hx, same⟩ := entries_releaseAttribution e he
  rw [← same]
  exact entries_emptied x hx

theorem syncs_unbindSeat (h : QueueSound s) (i : SeatId) (x : SyncState) : QEntry.sync i x ∉ (s.unbindSeat i).queue := by
  rw [unbindSeat_eq_released, freshSeat_queue]
  exact dropSyncs_none ((run_unbinding (e := True) (q := True) i).queueSound trivial h) i x

theorem unbindRequest_of_invalid {b : Byte} (h : b = 0 ∨ 192 < b.toNat) : s.unbindRequest b.toNat = (.bare .badArgument, s) := by
  rw [State.unbindRequest, seatOfNumber_of_invalid h]

theorem unbindRequest_seatByte (i : SeatId) : s.unbindRequest (seatByte i).toNat =
    if s.bound i then (.done [], (s.unbindSeat i).evalOutputs) else (.bare .vacant, s) := by
  rw [State.unbindRequest, seatOfNumber_seatByte]
  rfl

/-- A request that is answered DONE, with what it does and its answer. -/
theorem exec_done {r : Request} {args : List Byte} {result : List Byte} {W : List Block} (h : Admitted s p r)
    (ha : args.length = r.argCount)
    (acts : (s.setTag p .none).perform p s.ports[p].tag args r = (.done result, u))
    (frame : ChangesOnly W (s.setTag p .none) u) (hW : Block.ports ∉ W) :
    exec (r.row p args) s = .next (u.respond p r.code (.done result)) ∧
      Answers s (u.respond p r.code (.done result)) p r.code .done result ∧
      ChangesOnly (.ports :: W) s (u.respond p r.code (.done result)) := by
  refine ⟨?_, answers_respond (frame .ports hW) r.code .done result, ?_⟩
  · rw [exec_admitted h ha, acts]
  · intro b hb
    obtain ⟨other, out⟩ := not_or.1 (List.mem_cons.not.1 hb)
    have kept := frame b out
    cases b <;> first | exact kept | exact absurd rfl other

/-- Settles O49: the seat emptied, with its answers. -/
theorem unbindFreesSeat : Obligations.UnbindFreesSeat := by
  refine ⟨fun s p b h invalid => ?_, fun s p i h => ⟨fun free => ?_, fun bound => ?_⟩⟩
  · exact exec_answered (args := [b]) h rfl (unbindRequest_of_invalid (s := s.setTag p .none) invalid)
  · refine exec_answered (args := [seatByte i]) h rfl ((unbindRequest_seatByte (s := s.setTag p .none) i).trans (if_neg ?_))
    rw [show (s.setTag p .none).bound i = false from free]
    exact Bool.false_ne_true
  · have frame : ChangesOnly (.floorCount :: .reminders :: .lamps :: acceptBlocks) (s.setTag p .none)
        ((s.setTag p .none).unbindSeat i).evalOutputs :=
      frame_then (frame_mono (frame_unbindSeat i) (by decide)) frame_evalOutputs (by decide)
    obtain ⟨taken, answers, changes⟩ := exec_done (args := [seatByte i]) h rfl
      ((unbindRequest_seatByte (s := s.setTag p .none) i).trans (if_pos bound)) frame (by decide)
    have seats := unbindSeat_seats (s.setTag p .none) i
    have battery := unbindSeat_battery (s.setTag p .none) i
    have signal := unbindSeat_signal (s.setTag p .none) i
    have mute := unbindSeat_mute (s.setTag p .none) i
    have sync := unbindSeat_sync (s.setTag p .none) i
    have slots := slot_unbindSeat (s.setTag p .none) i
    have entries := entries_unbindSeat (s.setTag p .none) i
    have gone (sound : QueueSound s) := syncs_unbindSeat (queueSound_iff_of (q' := s.setTag p .none) rfl (fun _ => rfl) sound) i
    have floorCount := unbindSeat_floorCount (s.setTag p .none) i
    have links := unbindSeat_link (s.setTag p .none) i
    generalize (s.setTag p .none).unbindSeat i = u at *
    exact ⟨_, taken, seats, battery, signal, mute, sync, slots, entries, gone, floorCount, links, answers,
      frame_mono changes (by decide)⟩

end Sys2Proof.Machine.Unbinding
end

section
/-! PROOFS. What every step keeps of the tables: their capacities, the parameters and the floor, the binding map, and the
roster's agreement with the slots and with what raises conditions. -/

namespace Sys2Proof.Machine.Invariants

open Sys2Proof Sys2Proof.Machine Sys2Proof.Machine.Laws Sys2Proof.Machine.SlotGrades Sys2Proof.Machine.Runs
open Sys2Proof.Machine.TableMoves Sys2Proof.Machine.SeatWork Sys2Proof.Machine.Unbinding Sys2Proof.Machine.EventFrames
open Sys2Proof.Machine.PowerAndRestart Sys2Proof.Machine.Choices Sys2Proof.Machine.Agreement Sys2Proof.Machine.Parameters

variable {c : Prop} {s t u v : State} {i : SeatId} {l : LinkId}

/-! ## Records behind power-on and a restart -/

theorem beginRestart_seat (s : State) (i : SeatId) : s.beginRestart.seats[i] = s.seats[i].restarted := get_map _ _ _

theorem beginRestart_signal (s : State) (i : SeatId) :
    s.beginRestart.signal[i] = if s.bound i then Signal.fresh else s.signal[i] := onBound_get s _ _ i

theorem beginRestart_mute (s : State) (i : SeatId) :
    s.beginRestart.mute[i] = if s.bound i then Mute.fresh else s.mute[i] := onBound_get s _ _ i

theorem beginRestart_link (s : State) (l : LinkId) : s.beginRestart.links[l] = s.links[l].restarted := get_map _ _ _

theorem restarted_radio (q : SeatRec) : q.restarted.radio = q.radio := by
  unfold SeatRec.restarted
  split <;> rfl

theorem restarted_of_vacant {q : SeatRec} (h : q.state = .vacant) : q.restarted = q := if_pos h

theorem beginRestart_bound (s : State) (i : SeatId) : s.beginRestart.bound i = s.bound i := by
  by_cases vacant : s.seats[i].state = .vacant
  · exact bound_of_state (by rw [beginRestart_seat, restarted_of_vacant vacant])
  · rw [(SeatWork.bound_iff (s := s)).2 vacant, SeatWork.bound_iff, beginRestart_seat, restarted_of_bound vacant]
    nofun

theorem powerOn_seat (straps : Vector Strap 4) (s : State) (i : SeatId) : (s.powerOn straps).seats[i] = SeatRec.vacant :=
  get_replicate _ i

theorem powerOn_signal (straps : Vector Strap 4) (s : State) (i : SeatId) : (s.powerOn straps).signal[i] = Signal.fresh :=
  get_replicate _ i

theorem powerOn_mute (straps : Vector Strap 4) (s : State) (i : SeatId) : (s.powerOn straps).mute[i] = Mute.fresh :=
  get_replicate _ i

/-! ## Capacities -/

/-- The open frames, strangers and histories fit their places. -/
def TablesFit (s : State) : Prop :=
  FramesFit s ∧ s.strangers.length ≤ 8 ∧ ∀ i : SeatId, s.signal[i].history.length ≤ 64

theorem key_join (o : OpenFrame) (l : LinkId) (x : Int) : OpenFrame.key (o.join l x) = OpenFrame.key o := by
  unfold OpenFrame.join OpenFrame.compare
  dsimp only
  split <;> split <;> first | rfl | (split <;> rfl)

theorem framesFit_join (h : FramesFit s) (k : FrameKey) (l : LinkId) (x : Int) : FramesFit
    { s with openFrames := s.openFrames.map fun (o : OpenFrame) => if o.key = k then o.join l x else o } := by
  have keys : (s.openFrames.map fun (o : OpenFrame) => if o.key = k then o.join l x else o).map OpenFrame.key =
      s.openFrames.map OpenFrame.key := by
    rw [List.map_map]
    refine List.map_congr_left fun o _ => ?_
    show OpenFrame.key (if o.key = k then o.join l x else o) = _
    split
    · exact key_join o l x
    · rfl
  obtain ⟨few, nodup⟩ := h
  exact ⟨(List.length_map _).trans_le few, keys ▸ nodup⟩

theorem framesFit_filter (h : FramesFit s) (f : OpenFrame → Bool) :
    FramesFit { s with openFrames := s.openFrames.filter f } := by
  obtain ⟨few, nodup⟩ := h
  exact ⟨(List.length_filter_le _ _).trans few, nodup.sublist (List.filter_sublist.map _)⟩

theorem framesFit_add (h : FramesFit s) {o : OpenFrame} (room : s.openFrames.length < 16)
    (fresh : ∀ x ∈ s.openFrames, OpenFrame.key x ≠ OpenFrame.key o) :
    FramesFit { s with openFrames := s.openFrames ++ [o] } := by
  refine ⟨by rw [List.length_append]; exact room, ?_⟩
  rw [List.map_append, List.nodup_append]
  refine ⟨h.2, List.nodup_singleton _, fun a ha b hb => ?_⟩
  obtain ⟨x, hx, rfl⟩ := List.mem_map.1 ha
  rw [List.map_singleton, List.mem_singleton] at hb
  exact hb ▸ fresh x hx

theorem length_makeRoom (clock : Stamp) {xs : List Stranger} (h : xs.length ≤ 8) : (makeRoom clock xs).length < 8 := by
  have size : Config.strangerSize = 8 := rfl
  unfold makeRoom
  split
  next room => exact room
  next full =>
    rw [oldestStranger_eq]
    cases oldest : best (olderStranger clock) xs with
    | none =>
      rw [best_eq_none.1 oldest]
      decide
    | some x =>
      refine Nat.lt_of_lt_of_le (List.length_filter_lt_length_iff_exists.2 ⟨x, mem_of_best oldest, ?_⟩) h
      simp

theorem makeRoom_sublist (clock : Stamp) (xs : List Stranger) : (makeRoom clock xs).Sublist xs := by
  unfold makeRoom
  split
  · exact .refl xs
  · split
    · exact List.filter_sublist
    · exact .refl xs

theorem makeRoom_filter (r : RadioId) (xs : List Stranger) : (withoutStranger r xs).Sublist xs := List.filter_sublist

/-- What a stranger's frame does to the list: an entry is rewritten, its radio ID kept, or one is added behind the others. -/
theorem strangerFrame_cases {motive : State → Prop} (s : State) (f : Settled)
    (rewrites : ∀ xs, xs.map (·.radio) = s.strangers.map (·.radio) → motive { s with strangers := xs })
    (adds : ∀ x : Stranger, x.radio = f.payload.radio → (∀ y ∈ s.strangers, y.radio ≠ x.radio) →
      motive ({ s with strangers := makeRoom s.clock s.strangers ++ [x] }).attendDesks) : motive (s.strangerFrame f) := by
  unfold State.strangerFrame
  dsimp only
  split
  · refine rewrites _ ?_
    rw [List.map_map]
    refine List.map_congr_left fun x _ => ?_
    show Stranger.radio (if x.radio = f.payload.radio then _ else x) = _
    split <;> rfl
  next unknown =>
    refine adds _ rfl fun y hy same => unknown ?_
    exact List.any_eq_true.2 ⟨y, hy, beq_iff_eq.2 same⟩

theorem tablesFit_of (frames : t.openFrames = s.openFrames) (strangers : t.strangers.length ≤ 8)
    (history : ∀ i : SeatId, s.signal[i].history.length ≤ 64 → t.signal[i].history.length ≤ 64) (h : TablesFit s) :
    TablesFit t := by
  obtain ⟨fit, -, short⟩ := h
  refine ⟨?_, strangers, fun i => history i (short i)⟩
  unfold FramesFit
  rw [frames]
  exact fit

theorem tablesFit_moves (h : Moves True s t) : TablesFit s → TablesFit t := by
  induction h with
  | refl => exact id
  | trans _ _ ih ih' => exact fun h => ih' (ih h)
  | orderly o => exact fun h => tablesFit_of o.openFrames (o.strangers ▸ h.2.1) o.history h
  | leaveFrames f => exact fun h => ⟨framesFit_filter h.1 f, h.2⟩
  | joinFrame k l x => exact fun h => ⟨framesFit_join h.1 k l x, h.2⟩
  | openFrame o fresh => exact fun h => ⟨framesFit_add h.1 (fresh trivial).1 (fresh trivial).2, h.2⟩
  | @stranger s f _ =>
    intro h
    refine strangerFrame_cases s f (fun xs radios => ?_) fun x _ _ => ?_
    · refine ⟨h.1, ?_, h.2.2⟩
      have same := congrArg List.length radios
      rw [List.length_map, List.length_map] at same
      exact same.trans_le h.2.1
    · refine ⟨h.1, ?_, h.2.2⟩
      show (makeRoom s.clock s.strangers ++ [x]).length ≤ 8
      rw [List.length_append]
      exact length_makeRoom s.clock h.2.1
  | aging r => exact fun h => ⟨h.1, (makeRoom_filter r _).length_le.trans h.2.1, h.2.2⟩
  | bind i r _ _ _ => exact fun h => ⟨h.1, (makeRoom_filter r _).length_le.trans h.2.1, h.2.2⟩
  | @unbind s i =>
    refine fun h => tablesFit_of (frame_unbindSeat i .openFrames (by decide))
      ((congrArg List.length (frame_unbindSeat i .strangers (by decide))).trans_le h.2.1) (fun j short => ?_) h
    rw [unbindSeat_signal]
    by_cases same : j = i
    · subst same
      rw [get_set_self]
      exact Nat.zero_le 64
    · rw [get_set_ne _ same]
      exact short
  | giveFloor i _ _ _ => exact id
  | takeFloor i _ => exact id
  | @param s q v plain =>
    have frame := frame_storeParam_of_plain s (s.storedValue q v) plain
    have signal : (s.storeParam q (s.storedValue q v)).signal = s.signal := frame .signal (by decide)
    exact fun h => tablesFit_of (frame .openFrames (by decide))
      ((congrArg List.length (frame .strangers (by decide))).trans_le h.2.1) (fun i => by rw [signal]; exact id) h

theorem tablesFit_anew (h : Anew u v) (fit : TablesFit u) : TablesFit v := by
  cases h with
  | powerOn straps =>
    refine ⟨⟨Nat.zero_le 16, .nil⟩, Nat.zero_le 8, fun i => ?_⟩
    rw [powerOn_signal]
    exact Nat.zero_le 64
  | @restarts w before =>
    refine ⟨⟨Nat.zero_le 16, .nil⟩, Nat.zero_le 8, fun i => ?_⟩
    rw [beginRestart_signal]
    split
    · exact Nat.zero_le 64
    · exact before.history i (fit.2.2 i)

theorem few_special (h : Special u v) (few : u.alerts.roster.length ≤ 48) : v.alerts.roster.length ≤ 48 := by
  cases h with
  | powerOn straps => exact Nat.zero_le 48
  | restarts _ _ => exact Nat.zero_le 48
  | reminder p _ => exact few

theorem queueLength_special (h : Special u v) (few : u.queue.length ≤ 24) : v.queue.length ≤ 24 := by
  cases h with
  | powerOn straps => exact Nat.zero_le 24
  | restarts _ _ => exact Nat.zero_le 24
  | reminder p _ => exact few

/-- Settles O55: roster and queue by the operations on them, the other tables by the moves. -/
theorem stepKeepsCapacity : Obligations.StepKeepsCapacity := by
  rintro s t ⟨roster, queue, frames, strangers, histories, keys⟩ next
  have roster' : t.alerts.roster.length ≤ 48 := step_keeps (e := False) (q := False)
    (P := fun s => s.alerts.roster.length ≤ 48) next roster (fun _ _ => False.elim) (fun _ _ => False.elim)
    (fun run => run.few) fun _ => few_special
  have queue' : t.queue.length ≤ 24 := step_keeps (e := False) (q := False)
    (P := fun s => s.queue.length ≤ 24) next queue (fun _ _ => False.elim) (fun _ _ => False.elim)
    (fun run => run.queueLength) fun _ => queueLength_special
  obtain ⟨⟨frames', keys'⟩, strangers', histories'⟩ := step_moves (c := True) (P := TablesFit) next
    ⟨⟨frames, keys⟩, strangers, histories⟩ (fun _ => ⟨frames, keys⟩) tablesFit_moves tablesFit_anew
  exact ⟨roster', queue', frames', strangers', histories', keys'⟩

/-! ## Parameters and the floor -/

/-- The floor flags, counted. -/
def floorFlags (v : Vector Mute 192) : Nat := allSeats.countP fun i => v[i].floor

theorem floorFlags_set (v : Vector Mute 192) (i : SeatId) (m : Mute) :
    floorFlags (v.set i m) + (if v[i].floor then 1 else 0) = floorFlags v + if m.floor then 1 else 0 := by
  have split (w : Vector Mute 192) : floorFlags w = (allSeats.erase i).countP (fun j => w[j].floor) + if w[i].floor then 1 else 0 := by
    have apart : allSeats.Perm (i :: allSeats.erase i) := List.perm_cons_erase (List.mem_finRange i)
    rw [floorFlags, apart.countP_eq, List.countP_cons]
  have rest : (allSeats.erase i).countP (fun j => (v.set i m)[j].floor) = (allSeats.erase i).countP fun j => v[j].floor := by
    refine List.countP_congr fun j hj => ?_
    rw [get_set_ne _ ((List.nodup_finRange 192).mem_erase_iff.1 hj).1]
  rw [split v, split (v.set i m), rest, get_set_self]
  omega

theorem floorFlags_of_same {v w : Vector Mute 192} (h : ∀ i : SeatId, w[i].floor = v[i].floor) : floorFlags w = floorFlags v :=
  List.countP_congr fun i _ => by rw [h i]

theorem settings_iff : Settings s ↔ s.params.InRange ∧ s.floorCount ≤ s.params.floorLimit ∧
    (∀ l : LinkId, -8 ≤ s.links[l].offset ∧ s.links[l].offset ≤ 7) ∧ s.floorCount = floorFlags s.mute ∧
    ∀ i : SeatId, s.mute[i].floor = true → s.bound i = true := Iff.rfl

theorem settings_of_orderly (o : Orderly s t) (h : Settings s) : Settings t := by
  obtain ⟨range, limit, offsets, count, bound⟩ := settings_iff.1 h
  refine settings_iff.2 ⟨by rw [o.params]; exact range, by rw [o.params, o.floorCount]; exact limit,
    fun l => by rw [o.offsets]; exact offsets l, ?_, fun i held => o.bound i (bound i (o.floor i ▸ held))⟩
  rw [o.floorCount, floorFlags_of_same o.floor]
  exact count

theorem settings_giveFloor (h : Settings s) (bound : s.bound i = true) (without : s.mute[i].floor = false)
    (room : s.floorCount < s.params.floorLimit) : Settings (s.giveFloor i) := by
  obtain ⟨range, -, offsets, count, owners⟩ := settings_iff.1 h
  have flags := floorFlags_set s.mute i { s.mute[i] with floor := true, hold := if s.mute[i].hold = .auto then .none else s.mute[i].hold }
  rw [without] at flags
  refine settings_iff.2 ⟨range, room, offsets, ?_, fun j held => ?_⟩
  · exact (congrArg (· + 1) count).trans flags.symm
  · by_cases same : j = i
    · subst same; exact bound
    · exact owners j ((congrArg Mute.floor (get_set_ne _ same _)).symm.trans held)

theorem settings_takeFloor (h : Settings s) (held : s.mute[i].floor = true) : Settings (s.takeFloor i) := by
  obtain ⟨range, limit, offsets, count, owners⟩ := settings_iff.1 h
  have flags := floorFlags_set s.mute i { s.mute[i] with floor := false }
  rw [held] at flags
  refine settings_iff.2 ⟨range, (Nat.sub_le _ 1).trans limit, offsets, ?_, fun j kept => ?_⟩
  · exact Nat.sub_eq_of_eq_add (count.trans flags.symm)
  · by_cases same : j = i
    · subst same
      have none : (s.takeFloor j).mute[j].floor = false := congrArg Mute.floor (get_set_self _ _ _)
      rw [none] at kept
      cases kept
    · exact owners j ((congrArg Mute.floor (get_set_ne _ same _)).symm.trans kept)

theorem bound_unbindSeat_ne {j : SeatId} (ne : j ≠ i) : (s.unbindSeat i).bound j = s.bound j :=
  bound_of_state (by rw [unbindSeat_seats, get_set_ne _ ne])

theorem settings_unbindSeat (h : Settings s) : Settings (s.unbindSeat i) := by
  obtain ⟨range, limit, offsets, count, owners⟩ := settings_iff.1 h
  have flags := floorFlags_set s.mute i Mute.fresh
  have params : (s.unbindSeat i).params = s.params := frame_unbindSeat i .params (by decide)
  refine settings_iff.2 ⟨by rw [params]; exact range, ?_, fun l => ?_, ?_, fun j held => ?_⟩
  · rw [unbindSeat_floorCount, params]
    split <;> omega
  · rw [unbindSeat_link]
    split <;> exact offsets l
  · rw [unbindSeat_floorCount, unbindSeat_mute]
    have fresh : Mute.fresh.floor = false := rfl
    rw [fresh] at flags
    cases held : s.mute[i].floor <;> rw [held] at flags <;> simp only [if_true, Bool.false_eq_true, if_false] at flags ⊢ <;> omega
  · rw [unbindSeat_mute] at held
    by_cases same : j = i
    · subst same
      rw [get_set_self] at held
      cases held
    · rw [get_set_ne _ same] at held
      rw [bound_unbindSeat_ne same]
      exact owners j held

theorem settings_bindSeat (h : Settings s) (r : RadioId) : Settings (s.bindSeat i r) := by
  obtain ⟨range, limit, offsets, count, owners⟩ := settings_iff.1 h
  refine settings_iff.2 ⟨range, limit, offsets, count, fun j held => ?_⟩
  have owner := SeatWork.bound_iff.1 (owners j held)
  refine SeatWork.bound_iff.2 ?_
  show (s.seats.set i { s.seats[i] with radio := some r, state := .awaiting })[j].state ≠ .vacant
  by_cases same : j = i
  · subst same
    rw [get_set_self]
    nofun
  · rw [get_set_ne _ same]
    exact owner

/-- A parameter stored stays in its range (R157, R69, R91). -/
theorem inRange_store (h : Settings s) (q : Param) (v : Int) : (s.params.store q (s.storedValue q v)).InRange ∧
    s.floorCount ≤ (s.params.store q (s.storedValue q v)).floorLimit := by
  obtain ⟨⟨loss, weak, low, crit, drain, voice, grace, muted, chatter, limit, window⟩, count, -⟩ := h
  have stored := storedValue_eq s q v
  cases q with
  | drain c =>
    refine ⟨⟨loss, weak, low, crit, fun d => ?_, voice, grace, muted, chatter, limit, window⟩, count⟩
    show 1 ≤ (s.params.drain.set c (s.storedValue (.drain c) v).toNat)[d] ∧ (s.params.drain.set c (s.storedValue (.drain c) v).toNat)[d] ≤ 4095
    by_cases same : d = c
    · subst same
      rw [get_set_self]
      rw [if_neg nofun] at stored
      simp only [Param.range] at stored
      omega
    · rw [get_set_ne _ same]
      exact drain d
  | floorLimit =>
    refine ⟨⟨loss, weak, low, crit, drain, voice, grace, muted, chatter, ?_, window⟩, ?_⟩
    all_goals
      rw [if_pos rfl] at stored
      simp only [Param.range] at stored
      simp only [Params.store]
      omega
  | _ =>
    refine ⟨⟨?_, ?_, ?_, ?_, drain, ?_, ?_, ?_, ?_, ?_, ?_⟩, ?_⟩ <;> simp only [Params.store] <;> first | assumption | skip
    all_goals
      rw [if_neg nofun] at stored
      simp only [Param.range] at stored
      omega

/-- A parameter's write is of a link's offset, or of the parameters. -/
theorem storeParam_cases (s : State) (q : Param) (v : Int) (plain : ∀ l, q ≠ .linkEnable l) :
    (∃ l, q = .linkOffset l ∧ s.storeParam q v = s.modLink l fun r => { r with offset := v }) ∨
      ((∀ l, q ≠ .linkOffset l) ∧ s.storeParam q v = { s with params := s.params.store q v }) := by
  cases q with
  | linkEnable l => exact absurd rfl (plain l)
  | linkOffset l => exact .inl ⟨l, rfl, rfl⟩
  | _ => exact .inr ⟨nofun, rfl⟩

theorem settings_storeParam (h : Settings s) (q : Param) (v : Int) (plain : ∀ l, q ≠ .linkEnable l) :
    Settings (s.storeParam q (s.storedValue q v)) := by
  obtain ⟨range, limit, offsets, count, owners⟩ := settings_iff.1 h
  rcases storeParam_cases s q (s.storedValue q v) plain with ⟨l, named, same⟩ | ⟨-, same⟩ <;> rw [same]
  · refine settings_iff.2 ⟨range, limit, fun m => ?_, count, owners⟩
    show -8 ≤ (s.links.set l { s.links[l] with offset := s.storedValue q v })[m].offset ∧
      (s.links.set l { s.links[l] with offset := s.storedValue q v })[m].offset ≤ 7
    by_cases same : m = l
    · subst same
      rw [get_set_self]
      have stored := storedValue_eq s q v
      rw [named, if_neg nofun] at stored
      simp only [Param.range] at stored
      rw [named]
      show -8 ≤ s.storedValue (.linkOffset m) v ∧ s.storedValue (.linkOffset m) v ≤ 7
      omega
    · rw [get_set_ne _ same]
      exact offsets m
  · obtain ⟨range', limit'⟩ := inRange_store h q v
    exact settings_iff.2 ⟨range', limit', offsets, count, owners⟩

theorem settings_moves (h : Moves c s t) : Settings s → Settings t := by
  induction h with
  | refl => exact id
  | trans _ _ ih ih' => exact fun h => ih' (ih h)
  | orderly o => exact settings_of_orderly o
  | leaveFrames f => exact id
  | joinFrame k l x => exact id
  | openFrame o _ => exact id
  | @stranger s f _ => exact fun h => strangerFrame_cases s f (fun _ _ => h) fun _ _ _ => h
  | aging r => exact id
  | bind i r _ _ _ => exact fun h => settings_bindSeat h r
  | unbind i => exact settings_unbindSeat
  | giveFloor i bound without room => exact fun h => settings_giveFloor h bound without room
  | takeFloor i held => exact fun h => settings_takeFloor h held
  | param q v plain => exact fun h => settings_storeParam h q v plain

theorem floorFlags_eq_zero {v : Vector Mute 192} (h : ∀ i : SeatId, v[i].floor = false) : floorFlags v = 0 :=
  List.countP_eq_zero.2 fun i _ => by rw [h i]; decide

theorem inRange_initial : Params.initial.InRange := by
  refine ⟨?_, ?_, ?_, ?_, ?_, ?_⟩ <;> decide

theorem settings_anew (h : Anew u v) (set : Settings u) : Settings v := by
  cases h with
  | powerOn straps =>
    have none (i : SeatId) : (u.powerOn straps).mute[i].floor = false := congrArg Mute.floor (powerOn_mute straps u i)
    refine settings_iff.2 ⟨inRange_initial, Nat.zero_le 4, fun l => ?_, (floorFlags_eq_zero none).symm, fun i held => ?_⟩
    · rw [PowerAndRestart.powerOn_link]
      exact show (-8 : Int) ≤ 0 ∧ (0 : Int) ≤ 7 by decide
    · rw [none] at held
      cases held
  | @restarts w before =>
    obtain ⟨range, -, offsets, -, owners⟩ := settings_iff.1 (settings_of_orderly before set)
    have none (i : SeatId) : w.beginRestart.mute[i].floor = false := by
      rw [beginRestart_mute]
      split
      · rfl
      next free =>
        by_contra held
        exact free (owners i (Bool.not_eq_false _ ▸ held))
    refine settings_iff.2 ⟨range, Nat.zero_le _, fun l => ?_, (floorFlags_eq_zero none).symm, fun i held => ?_⟩
    · rw [beginRestart_link]
      exact offsets l
    · rw [none] at held
      cases held

/-- Settles O56: every move keeps parameters and floor. -/
theorem stepKeepsSettings : Obligations.StepKeepsSettings := fun _ _ set next =>
  step_moves (c := False) next set False.elim settings_moves settings_anew

/-! ## The binding map -/

theorem bindingMap_iff : BindingMap s ↔ (∀ i : SeatId, s.seats[i].radio.isSome = s.bound i) ∧
    (∀ i j : SeatId, ∀ r, s.seats[i].radio = some r → s.seats[j].radio = some r → i = j) ∧
    (∀ x ∈ s.strangers, ∀ i : SeatId, s.seats[i].radio ≠ some x.radio) ∧
    (∀ i : SeatId, ∀ r, s.seats[i].radio = some r → validRadio r = true) ∧ (∀ i, Timed s i) ∧
    (s.strangers.map (·.radio)).Nodup := Iff.rfl

theorem bindingMap_of_orderly (o : Orderly s t) (h : BindingMap s) : BindingMap t := by
  obtain ⟨known, single, apart, valid, timed, distinct⟩ := bindingMap_iff.1 h
  have timed' := o.timed timed
  refine bindingMap_iff.2 ⟨fun i => ?_, fun i j r hi hj => ?_, fun x hx i => ?_, fun i r hi => ?_, fun i => (timed' i).1, ?_⟩
  · rw [o.radio, (timed' i).2]
    exact known i
  · rw [o.radio] at hi hj
    exact single i j r hi hj
  · rw [o.strangers] at hx
    rw [o.radio]
    exact apart x hx i
  · rw [o.radio] at hi
    exact valid i r hi
  · rw [o.strangers]
    exact distinct

/-- Another list of strangers, of radio IDs that are bound to no seat. -/
theorem bindingMap_setStrangers (h : BindingMap s) (xs : List Stranger) (apart : ∀ x ∈ xs, ∀ i : SeatId, s.seats[i].radio ≠ some x.radio)
    (distinct : (xs.map (·.radio)).Nodup) : BindingMap { s with strangers := xs } := by
  obtain ⟨known, single, -, valid, timed, -⟩ := bindingMap_iff.1 h
  exact bindingMap_iff.2 ⟨known, single, apart, valid, timed, distinct⟩

theorem bindingMap_withoutStranger (h : BindingMap s) (r : RadioId) :
    BindingMap { s with strangers := withoutStranger r s.strangers } := by
  obtain ⟨-, -, apart, -, -, distinct⟩ := bindingMap_iff.1 h
  exact bindingMap_setStrangers h _ (fun x hx => apart x (List.mem_of_mem_filter hx))
    (distinct.sublist ((makeRoom_filter r _).map _))

theorem bindingMap_strangerFrame (h : BindingMap s) (f : Settled) (unbound : ∀ i : SeatId, s.seats[i].radio ≠ some f.payload.radio) :
    BindingMap (s.strangerFrame f) := by
  obtain ⟨-, -, apart, -, -, distinct⟩ := bindingMap_iff.1 h
  refine strangerFrame_cases (motive := BindingMap) s f (fun xs radios => ?_) fun x named fresh => ?_
  · refine bindingMap_setStrangers h xs (fun x hx i => ?_) (radios ▸ distinct)
    obtain ⟨y, hy, same⟩ := List.mem_map.1 (radios ▸ List.mem_map_of_mem (f := Stranger.radio) hx)
    rw [← show y.radio = x.radio from same]
    exact apart y hy i
  · have kept := makeRoom_sublist s.clock s.strangers
    refine bindingMap_setStrangers (s := s) h (makeRoom s.clock s.strangers ++ [x]) (fun y hy i => ?_) ?_
    · rcases List.mem_append.1 hy with old | new
      · exact apart y (kept.subset old) i
      · rw [List.mem_singleton.1 new, named]
        exact unbound i
    · rw [List.map_append, List.nodup_append]
      refine ⟨distinct.sublist (kept.map _), List.nodup_singleton _, fun a ha b hb => ?_⟩
      obtain ⟨y, hy, rfl⟩ := List.mem_map.1 ha
      rw [List.map_singleton, List.mem_singleton] at hb
      exact hb ▸ fresh y (kept.subset hy)

theorem bindSeat_seat_ne {j : SeatId} (ne : j ≠ i) (r : RadioId) : (s.bindSeat i r).seats[j] = s.seats[j] := get_set_ne _ ne _

theorem bindSeat_seat_self (s : State) (i : SeatId) (r : RadioId) :
    (s.bindSeat i r).seats[i] = { s.seats[i] with radio := some r, state := .awaiting } := get_set_self _ _ _

theorem state_of_free (free : s.bound i = false) : s.seats[i].state = .vacant := by
  by_contra other
  rw [SeatWork.bound_iff.2 other] at free
  cases free

theorem timed_bindSeat (h : ∀ i, Timed s i) (free : s.bound i = false) (r : RadioId) : ∀ j, Timed (s.bindSeat i r) j := by
  intro j running
  have active := h j running
  by_cases same : j = i
  · subst same
    rw [state_of_free free] at active
    cases active
  · rw [bindSeat_seat_ne same]
    exact active

theorem bindingMap_bindSeat (h : BindingMap s) {r : RadioId} (free : s.bound i = false) (ok : validRadio r = true)
    (fresh : ∀ j : SeatId, s.seats[j].radio ≠ some r) : BindingMap (s.bindSeat i r) := by
  obtain ⟨known, single, apart, valid, timed, distinct⟩ := bindingMap_iff.1 h
  have here : (s.bindSeat i r).seats[i].radio = some r := by rw [bindSeat_seat_self]
  have radio {j : SeatId} (ne : j ≠ i) : (s.bindSeat i r).seats[j].radio = s.seats[j].radio := by rw [bindSeat_seat_ne ne]
  refine bindingMap_iff.2 ⟨fun j => ?_, fun j k x hj hk => ?_, fun x hx j => ?_, fun j x hj => ?_, timed_bindSeat timed free r, ?_⟩
  · by_cases same : j = i
    · subst same
      rw [here, SeatWork.bound_iff.2 (by rw [bindSeat_seat_self]; nofun)]
      rfl
    · rw [radio same, known j]
      exact (bound_of_state (by rw [bindSeat_seat_ne same])).symm
  · by_cases hji : j = i <;> by_cases hki : k = i
    · rw [hji, hki]
    · rw [hji, here] at hj
      rw [radio hki, ← hj] at hk
      exact absurd hk (fresh k)
    · rw [hki, here] at hk
      rw [radio hji, ← hk] at hj
      exact absurd hj (fresh j)
    · rw [radio hji] at hj
      rw [radio hki] at hk
      exact single j k x hj hk
  · obtain ⟨old, other⟩ := List.mem_filter.1 hx
    by_cases same : j = i
    · rw [same, here]
      exact fun e => bne_iff_ne.1 other (Option.some.inj e).symm
    · rw [radio same]
      exact apart x old j
  · by_cases same : j = i
    · rw [same, here] at hj
      exact Option.some.inj hj ▸ ok
    · rw [radio same] at hj
      exact valid j x hj
  · exact distinct.sublist ((makeRoom_filter r _).map _)

theorem unbindSeat_seat_self (s : State) (i : SeatId) : (s.unbindSeat i).seats[i] = SeatRec.vacant := by
  rw [unbindSeat_seats, get_set_self]

theorem unbindSeat_seat_ne {j : SeatId} (ne : j ≠ i) : (s.unbindSeat i).seats[j] = s.seats[j] := by
  rw [unbindSeat_seats, get_set_ne _ ne]

theorem unbindSeat_signal_ne {j : SeatId} (ne : j ≠ i) : (s.unbindSeat i).signal[j] = s.signal[j] := by
  rw [unbindSeat_signal, get_set_ne _ ne]

theorem timed_unbindSeat (h : ∀ i, Timed s i) : ∀ j, Timed (s.unbindSeat i) j := by
  intro j running
  by_cases same : j = i
  · subst same
    rw [unbindSeat_signal, get_set_self] at running
    cases running
  · rw [unbindSeat_signal_ne same] at running
    rw [unbindSeat_seat_ne same]
    exact h j running

theorem bindingMap_unbindSeat (h : BindingMap s) : BindingMap (s.unbindSeat i) := by
  obtain ⟨known, single, apart, valid, timed, distinct⟩ := bindingMap_iff.1 h
  have strangers : (s.unbindSeat i).strangers = s.strangers := frame_unbindSeat i .strangers (by decide)
  have radio {j : SeatId} {r : RadioId} (hj : (s.unbindSeat i).seats[j].radio = some r) : s.seats[j].radio = some r := by
    by_cases same : j = i
    · subst same
      rw [unbindSeat_seat_self] at hj
      cases hj
    · rwa [unbindSeat_seat_ne same] at hj
  refine bindingMap_iff.2 ⟨fun j => ?_, fun j k r hj hk => single j k r (radio hj) (radio hk), fun x hx j hj => ?_,
    fun j r hj => valid j r (radio hj), timed_unbindSeat timed, by rw [strangers]; exact distinct⟩
  · by_cases same : j = i
    · subst same
      rw [State.bound, unbindSeat_seat_self]
      rfl
    · rw [unbindSeat_seat_ne same, known j]
      exact (bound_unbindSeat_ne same).symm
  · rw [strangers] at hx
    exact apart x hx j (radio hj)

theorem bindingMap_of_frame {W : List Block} (h : ChangesOnly W s t)
    (hW : Block.seats ∉ W ∧ Block.signal ∉ W ∧ Block.strangers ∉ W) (map : BindingMap s) : BindingMap t := by
  have seats : t.seats = s.seats := h .seats hW.1
  have signal : t.signal = s.signal := h .signal hW.2.1
  have strangers : t.strangers = s.strangers := h .strangers hW.2.2
  obtain ⟨known, single, apart, valid, timed, distinct⟩ := bindingMap_iff.1 map
  refine bindingMap_iff.2 ⟨fun i => ?_, by rw [seats]; exact single, by rw [seats, strangers]; exact apart,
    by rw [seats]; exact valid, fun i running => ?_, by rw [strangers]; exact distinct⟩
  · rw [bound_of_seats seats, seats]
    exact known i
  · rw [signal] at running
    rw [seats]
    exact timed i running

theorem bindingMap_moves (h : Moves c s t) : BindingMap s → BindingMap t := by
  induction h with
  | refl => exact id
  | trans _ _ ih ih' => exact fun h => ih' (ih h)
  | orderly o => exact bindingMap_of_orderly o
  | leaveFrames f => exact id
  | joinFrame k l x => exact id
  | openFrame o _ => exact id
  | stranger f unbound => exact fun h => bindingMap_strangerFrame h f unbound
  | aging r => exact fun h => bindingMap_withoutStranger h r
  | bind i r free valid fresh => exact fun h => bindingMap_bindSeat h free valid fresh
  | unbind i => exact bindingMap_unbindSeat
  | giveFloor i _ _ _ => exact bindingMap_of_frame (frame_giveFloor i) (by decide)
  | takeFloor i _ => exact bindingMap_of_frame (frame_takeFloor i) (by decide)
  | param q v plain => exact bindingMap_of_frame (frame_storeParam_of_plain _ _ plain) (by decide)

theorem timed_beginRestart (h : ∀ i, Timed s i) : ∀ i, Timed s.beginRestart i := by
  intro i running
  rw [beginRestart_signal] at running
  split at running
  · cases running
  next free =>
    have vacant := state_of_free (Bool.not_eq_true _ ▸ free)
    rw [h i running] at vacant
    cases vacant

theorem bindingMap_anew (h : Anew u v) (map : BindingMap u) : BindingMap v := by
  cases h with
  | powerOn straps =>
    have radio (i : SeatId) : (u.powerOn straps).seats[i].radio = none := congrArg SeatRec.radio (powerOn_seat straps u i)
    refine bindingMap_iff.2 ⟨fun i => ?_, fun i j r hi => ?_, nofun, fun i r hi => ?_, fun i running => ?_, .nil⟩
    · rw [radio, State.bound, powerOn_seat]
      rfl
    · rw [radio] at hi
      cases hi
    · rw [radio] at hi
      cases hi
    · rw [powerOn_signal] at running
      cases running
  | @restarts w before =>
    obtain ⟨known, single, -, valid, timed, -⟩ := bindingMap_iff.1 (bindingMap_of_orderly before map)
    have radio (i : SeatId) : w.beginRestart.seats[i].radio = w.seats[i].radio := by
      rw [beginRestart_seat, restarted_radio]
    refine bindingMap_iff.2 ⟨fun i => ?_, fun i j r hi hj => ?_, nofun, fun i r hi => ?_, timed_beginRestart timed, .nil⟩
    · rw [radio, beginRestart_bound]
      exact known i
    · rw [radio] at hi hj
      exact single i j r hi hj
    · rw [radio] at hi
      exact valid i r hi

/-- Settles O57: every move keeps the binding map. -/
theorem stepKeepsBindingMap : Obligations.StepKeepsBindingMap := fun _ _ map next =>
  step_moves (c := False) next map False.elim bindingMap_moves bindingMap_anew

/-! ## The roster's agreement -/

theorem seatFits_of_records {j : SeatId} (state : t.seats[j].state = s.seats[j].state) (signal : t.signal[j] = s.signal[j])
    (timers : ∀ k, qualifyTimer t.mute[j] k = qualifyTimer s.mute[j] k)
    (grades : ∀ k, grade (t.slot (.seat j k)) = grade (s.slot (.seat j k))) (h : SeatFits s j) : SeatFits t j :=
  (seatKeeps_of state (by rw [signal]) (by rw [signal]) (grades _) (by rw [signal]; exact id)
    fun fits k => kindFits_of_same state (timers k) (grades k) (fits k)).fits h

/-- A seat that is not bound has nothing at work. -/
theorem seatFits_of_idle (stopped : Stopped t.mute[i]) (timer : t.signal[i].lossTimer = none)
    (loss : (t.slot (.seat i .signalLoss)).isRaised = false) (cause : ∀ l, t.signal[i].cause ≠ .link l) : SeatFits t i :=
  have timed : Timed t i := fun running => by
    rw [timer] at running
    cases running
  ⟨fun k => kindFits_of_stopped (stopped k), timed, lossFits_of_unlost ⟨loss, cause⟩⟩

theorem idle_of_free (fits : SeatFits s i) (free : s.bound i = false) : Stopped s.mute[i] ∧
    s.signal[i].lossTimer = none ∧ (s.slot (.seat i .signalLoss)).isRaised = false ∧ ∀ l, s.signal[i].cause ≠ .link l := by
  have vacant := state_of_free free
  obtain ⟨kinds, timed, loss, cause⟩ := fits
  refine ⟨fun k => ?_, ?_, ?_, fun l h => ?_⟩
  · cases timer : qualifyTimer s.mute[i] k with
    | none => rfl
    | some n =>
      have bound := (kinds k (by rw [timer]; rfl)).2
      rw [free] at bound
      cases bound
  · cases timer : s.signal[i].lossTimer with
    | none => rfl
    | some n =>
      have active := timed (by rw [timer]; rfl)
      rw [vacant] at active
      cases active
  · by_contra raised
    have lost := (loss (Bool.not_eq_false _ ▸ raised)).1
    rw [vacant] at lost
    cases lost
  · have lost := cause l h
    rw [vacant] at lost
    cases lost

theorem conditionsMatch_bindSeat (fits : ConditionsMatch s) (free : s.bound i = false) (r : RadioId) :
    ConditionsMatch (s.bindSeat i r) := by
  obtain ⟨seats, links⟩ := conditionsMatch_iff.1 fits
  refine conditionsMatch_iff.2 ⟨fun j => ?_, links⟩
  by_cases same : j = i
  · subst same
    obtain ⟨stopped, timer, loss, cause⟩ := idle_of_free (seats j) free
    exact seatFits_of_idle (t := s.bindSeat j r) stopped timer loss cause
  · exact seatFits_of_records (s := s) (by rw [bindSeat_seat_ne same]) rfl (fun _ => rfl) (fun _ => rfl) (seats j)

theorem conditionsMatch_unbindSeat (fits : ConditionsMatch s) : ConditionsMatch (s.unbindSeat i) := by
  obtain ⟨seats, links⟩ := conditionsMatch_iff.1 fits
  have slots (o : Source) (ne : o.seat? ≠ some i) : grade ((s.unbindSeat i).slot o) = grade (s.slot o) := by
    rw [grade_unbindSeat, if_neg ne]
  refine conditionsMatch_iff.2 ⟨fun j => ?_, fun l => ?_⟩
  · by_cases same : j = i
    · subst same
      refine seatFits_of_idle ?_ ?_ ?_ fun l => ?_
      · rw [unbindSeat_mute, get_set_self]
        exact fun k => by cases k <;> rfl
      · rw [unbindSeat_signal, get_set_self]
        rfl
      · rw [slot_unbindSeat]
        rfl
      · rw [unbindSeat_signal, get_set_self]
        nofun
    · refine seatFits_of_records (by rw [unbindSeat_seat_ne same]) (unbindSeat_signal_ne same) (fun k => ?_)
        (fun k => slots _ fun e => same (Option.some.inj e)) (seats j)
      rw [unbindSeat_mute, get_set_ne _ same]
  · have link := unbindSeat_link s i l
    refine linkFits_of_same ?_ ?_ ?_ (isRaised_of_grade (slots _ nofun)) (links l)
    all_goals
      rw [link]
      split <;> rfl

theorem conditionsMatch_floor {n : Nat} {f : Mute → Mute} (fits : ConditionsMatch s)
    (hf : ∀ m k, qualifyTimer (f m) k = qualifyTimer m k) :
    ConditionsMatch { s.modMute i f with floorCount := n } := by
  obtain ⟨seats, links⟩ := conditionsMatch_iff.1 fits
  refine conditionsMatch_iff.2 ⟨fun j => ?_, links⟩
  refine seatFits_of_records (s := s) rfl rfl (fun k => ?_) (fun _ => rfl) (seats j)
  show qualifyTimer (s.mute.set i (f s.mute[i]))[j] k = _
  by_cases same : j = i
  · subst same
    rw [get_set_self, hf]
  · rw [get_set_ne _ same]

theorem conditionsMatch_setOffset (fits : ConditionsMatch s) (l : LinkId) (v : Int) :
    ConditionsMatch (s.modLink l fun r => { r with offset := v }) := by
  obtain ⟨seats, links⟩ := conditionsMatch_iff.1 fits
  refine conditionsMatch_iff.2 ⟨seats, fun m => ?_⟩
  by_cases same : m = l
  · subst same
    have link : (s.modLink m fun r => { r with offset := v }).links[m] = { s.links[m] with offset := v } := get_set_self _ _ _
    exact linkFits_of_same (s := s) (by rw [link]) (by rw [link]) (by rw [link]) rfl (links m)
  · have link : (s.modLink l fun r => { r with offset := v }).links[m] = s.links[m] := get_set_ne _ same _
    exact linkFits_of_same (s := s) (by rw [link]) (by rw [link]) (by rw [link]) rfl (links m)

theorem conditionsMatch_moves (h : Moves c s t) : ConditionsMatch s → ConditionsMatch t := by
  induction h with
  | refl => exact id
  | trans _ _ ih ih' => exact fun h => ih' (ih h)
  | orderly o => exact o.fits
  | leaveFrames f => exact id
  | joinFrame k l x => exact id
  | openFrame o _ => exact id
  | @stranger s f _ => exact fun h => strangerFrame_cases s f (fun _ _ => h) fun _ _ _ => h
  | aging r => exact id
  | bind i r free _ _ => exact fun h => conditionsMatch_bindSeat h free r
  | unbind i => exact conditionsMatch_unbindSeat
  | giveFloor i _ _ _ => exact fun h => conditionsMatch_floor h fun _ k => by cases k <;> rfl
  | takeFloor i _ => exact fun h => conditionsMatch_floor h fun _ k => by cases k <;> rfl
  | @param s q v plain =>
    intro h
    rcases storeParam_cases s q (s.storedValue q v) plain with ⟨l, -, same⟩ | ⟨-, same⟩ <;> rw [same]
    · exact conditionsMatch_setOffset h l _
    · exact h

theorem slot_initial (h : t.alerts = Alerts.initial) (o : Source) : t.slot o = .clear := by
  rw [State.slot, h]
  exact initial_slot o

theorem entriesMatch_initial (h : t.alerts = Alerts.initial) : EntriesMatch t := by
  refine ⟨?_, ?_, fun src r raised => ?_, fun src r raised => ?_⟩
  · rw [h]
    exact .nil
  · rw [h]
    nofun
  · rw [slot_initial h] at raised
    cases raised
  · rw [slot_initial h] at raised
    cases raised

theorem entriesMatch_special (h : Special u v) (agree : EntriesMatch u) : EntriesMatch v := by
  cases h with
  | powerOn straps => exact entriesMatch_initial rfl
  | restarts _ _ => exact entriesMatch_initial rfl
  | reminder p _ => exact entriesMatch_of_alerts rfl agree

theorem linkFits_of_quiet (silence : t.links[l].silence = none) (slot : t.slot (.link l) = .clear)
    (enable : t.links[l].enable = false → t.links[l].state = .disabled) : LinkFits t l :=
  have silent (running : t.links[l].silence.isSome = true) : t.links[l].state = .up := by
    rw [silence] at running
    cases running
  ⟨silent, fun _ => by rw [slot]; rfl, enable⟩

theorem conditionsMatch_anew (h : Anew u v) (fits : ConditionsMatch u) : ConditionsMatch v := by
  cases h with
  | powerOn straps =>
    have slots := slot_initial (t := u.powerOn straps) rfl
    refine conditionsMatch_iff.2 ⟨fun i => ?_, fun l => ?_⟩
    · refine seatFits_of_idle ?_ ?_ ?_ fun l => ?_
      · rw [powerOn_mute]
        exact fun k => by cases k <;> rfl
      · rw [powerOn_signal]
        rfl
      · rw [slots]
        rfl
      · rw [powerOn_signal]
        nofun
    · have link := PowerAndRestart.powerOn_link straps u l
      refine linkFits_of_quiet (by rw [link]; rfl) (slots _) ?_
      rw [link]
      nofun
  | @restarts w before =>
    have slots := slot_initial (t := w.beginRestart) rfl
    obtain ⟨seats, -⟩ := conditionsMatch_iff.1 (before.fits fits)
    refine conditionsMatch_iff.2 ⟨fun i => ?_, fun l => ?_⟩
    · have loss : (w.beginRestart.slot (.seat i .signalLoss)).isRaised = false := by rw [slots]; rfl
      cases bound : w.bound i with
      | true =>
        have mute : w.beginRestart.mute[i] = Mute.fresh := by rw [beginRestart_mute, if_pos bound]
        have signal : w.beginRestart.signal[i] = Signal.fresh := by rw [beginRestart_signal, if_pos bound]
        exact seatFits_of_idle (by rw [mute]; exact fun k => by cases k <;> rfl) (by rw [signal]; rfl) loss
          (by rw [signal]; nofun)
      | false =>
        have unbound : ¬w.bound i = true := by rw [bound]; decide
        have mute : w.beginRestart.mute[i] = w.mute[i] := by rw [beginRestart_mute, if_neg unbound]
        have signal : w.beginRestart.signal[i] = w.signal[i] := by rw [beginRestart_signal, if_neg unbound]
        obtain ⟨stopped, timer, -, cause⟩ := idle_of_free (seats i) bound
        exact seatFits_of_idle (by rw [mute]; exact stopped) (by rw [signal]; exact timer) loss (by rw [signal]; exact cause)
    · have link := beginRestart_link w l
      refine linkFits_of_quiet (by rw [link]; rfl) (slots _) fun off => ?_
      rw [link] at off ⊢
      exact if_neg (by rw [show w.links[l].enable = false from off]; decide)

/-- Settles O41: chains raise only what is not RAISED, so roster and slots agree; and moves keep what raises in order. -/
theorem stepKeepsRosterMatched : Obligations.StepKeepsRosterMatched := by
  rintro s t ⟨agree, fits⟩ next
  refine ⟨?_, step_moves (c := False) next fits False.elim conditionsMatch_moves conditionsMatch_anew⟩
  exact step_keeps (e := True) (q := False) next agree (fun cs xs _ => (orderly_taking s cs xs).fits fits)
    (fun _ _ => False.elim) (fun run => run.entriesMatch trivial) fun _ => entriesMatch_special

end Sys2Proof.Machine.Invariants
end

section
/-! PROOFS. The state after reset satisfies every invariant: its tables are empty, and its records those of a fresh part. -/

namespace Sys2Proof.Machine.Invariants

open Sys2Proof Sys2Proof.Machine Sys2Proof.Machine.Laws Sys2Proof.Machine.RosterSoundness Sys2Proof.Machine.SeatWork
open Sys2Proof.Machine.PowerAndRestart

theorem reset_seat (i : SeatId) : State.reset.seats[i] = SeatRec.vacant := get_replicate _ i

theorem reset_signal (i : SeatId) : State.reset.signal[i] = Signal.fresh := get_replicate _ i

theorem reset_mute (i : SeatId) : State.reset.mute[i] = Mute.fresh := get_replicate _ i

theorem reset_link (l : LinkId) : State.reset.links[l] = LinkRec.initial := get_replicate _ l

theorem bound_reset (i : SeatId) : State.reset.bound i = false := by
  show (State.reset.seats[i].state != .vacant) = false
  rw [reset_seat]
  rfl

theorem capacity_reset : Capacity State.reset := by
  refine ⟨Nat.zero_le _, Nat.zero_le _, Nat.zero_le _, Nat.zero_le _, fun i => ?_, .nil⟩
  rw [reset_signal]
  exact Nat.zero_le _

theorem settings_reset : Settings State.reset := by
  refine settings_iff.2 ⟨inRange_initial, Nat.zero_le 4, fun l => ?_, (floorFlags_eq_zero fun i => ?_).symm, fun i held => ?_⟩
  · rw [reset_link]
    exact show (-8 : Int) ≤ 0 ∧ (0 : Int) ≤ 7 by decide
  · rw [reset_mute]
    rfl
  · rw [reset_mute] at held
    cases held

theorem bindingMap_reset : BindingMap State.reset := by
  refine bindingMap_iff.2 ⟨fun i => ?_, fun i j r named => ?_, nofun, fun i r named => ?_, fun i running => ?_, .nil⟩
  · rw [reset_seat, bound_reset]
    rfl
  · rw [reset_seat] at named
    cases named
  · rw [reset_seat] at named
    cases named
  · rw [reset_signal] at running
    cases running

theorem conditionsMatch_reset : ConditionsMatch State.reset := by
  have slots := slot_initial (t := State.reset) rfl
  refine conditionsMatch_iff.2 ⟨fun i => ?_, fun l => ?_⟩
  · refine seatFits_of_idle ?_ ?_ ?_ fun l => ?_
    · rw [reset_mute]
      exact fun k => by cases k <;> rfl
    · rw [reset_signal]
      rfl
    · rw [slots]
      rfl
    · rw [reset_signal]
      nofun
  · refine linkFits_of_quiet ?_ (slots _) ?_ <;> rw [reset_link]
    · rfl
    · nofun

theorem offIdle_reset : OffIdle State.reset.ports := by
  intro p _
  have port : State.reset.ports[p] = PortRec.initial _ := get_map _ _ p
  rw [port]
  exact ⟨rfl, rfl⟩

theorem outputsFollow_reset : OutputsFollow State.reset := by
  refine ⟨fun p => ?_, fun m => ?_⟩
  · have reminder : State.reset.reminders[p] = Reminder.initial := get_replicate _ p
    show State.reset.reminders[p].timer.isSome = (State.reset.reminders[p].active != 0 && _)
    rw [reminder]
    rfl
  · have lamp : State.reset.lamps[m] = Lamp.initial := get_replicate _ m
    rw [lamp]
    rfl

/-- Settles O54: the tables of a part after reset are empty. -/
theorem resetIsSafe : Obligations.ResetIsSafe :=
  ⟨capacity_reset, settings_reset, bindingMap_reset, rosterSound_initial rfl,
    ⟨entriesMatch_initial rfl, conditionsMatch_reset⟩, nofun, queueSound_of_empty rfl,
    offPorts_iff.2 ⟨offIdle_reset, offQuiet_of_fresh rfl rfl rfl fun p => congrArg Reminder.timer (get_replicate _ p)⟩,
    outputsFollow_reset⟩

end Sys2Proof.Machine.Invariants
end

section
/-! PROOFS. What the Downlink Queue leaves of a seat's SYNC record and of its IN_FLIGHT SYNC: only an echo or a failed SYNC
changes confirmed and stalled, a request changes the owed flag alone, and no event but an issue puts a SYNC in flight. -/

namespace Sys2Proof.Machine.SyncRecords

open Sys2Proof Sys2Proof.Machine Sys2Proof.Machine.Laws Sys2Proof.Machine.QueueOps

variable {s t u : State} {i j : SeatId} {skip : Option SeatId} {W : List Block}

/-! ## What a request leaves (R129) -/

theorem requestSync_sync_ne (ne : j ≠ i) : (s.requestSync i).syncs[j] = s.syncs[j] := by
  rw [requestSync_syncs, get_set_ne _ ne]

theorem requestSync_sync_self (s : State) (i : SeatId) :
    (s.requestSync i).syncs[i] = { s.syncs[i] with owed := (s.requestSync i).syncs[i].owed } := by
  conv => lhs; rw [requestSync_syncs, get_set_self]

theorem owed_requestSync_of_inactive (h : s.seats[i].state ≠ .active) : (s.requestSync i).syncs[i].owed = true :=
  ((syncRequested_requestSync s i).1 h).2

theorem mem_requestSync {x : QEntry} (h : x ∈ s.queue) (i : SeatId) : x ∈ (s.requestSync i).queue := by
  rcases requestSync_queue s i with same | ⟨-, -, -, more⟩
  · rw [same]
    exact h
  · rw [more]
    exact List.mem_append_left _ h

/-- The seat holds a QUEUED SYNC or is owed one. -/
def Awaits (s : State) (i : SeatId) : Prop := QEntry.sync i .queued ∈ s.queue ∨ s.syncs[i].owed = true

theorem awaits_requestSync (s : State) (i : SeatId) : Awaits (s.requestSync i) i := by
  obtain ⟨inactive, queued, full, room, -⟩ := syncRequested_requestSync s i
  by_cases active : s.seats[i].state = .active
  · by_cases has : QEntry.sync i .queued ∈ s.queue
    · exact .inl (mem_requestSync has i)
    · by_cases long : 24 ≤ s.queue.length
      · exact .inr (full active has long).2
      · refine .inl ?_
        rw [(room active has (by omega)).1]
        exact List.mem_append_right _ (List.mem_singleton_self _)
  · exact .inr (inactive active).2

/-- An ACTIVE seat that is owed a SYNC after a request met a full queue. -/
theorem full_of_owed_requestSync (active : s.seats[i].state = .active) (owed : (s.requestSync i).syncs[i].owed = true) :
    24 ≤ (s.requestSync i).queue.length := by
  obtain ⟨-, queued, full, room, -⟩ := syncRequested_requestSync s i
  by_cases has : QEntry.sync i .queued ∈ s.queue
  · rw [(queued active has).2] at owed
    cases owed
  · by_cases long : 24 ≤ s.queue.length
    · rw [(full active has long).1]
      exact long
    · rw [(room active has (by omega)).2] at owed
      cases owed

/-! ## What no request and no departure changes of a record -/

/-- Order tags, confirmed values and stalled marks are as they were. -/
def KeepsOrders (s t : State) : Prop := ∀ j : SeatId,
  t.syncs[j].confirmed = s.syncs[j].confirmed ∧ t.syncs[j].orderTag = s.syncs[j].orderTag ∧
    t.syncs[j].stalled = s.syncs[j].stalled

theorem keepsOrders_refl : KeepsOrders s s := fun _ => ⟨rfl, rfl, rfl⟩

theorem KeepsOrders.trans (h : KeepsOrders s t) (k : KeepsOrders t u) : KeepsOrders s u := fun j => by
  obtain ⟨confirmed, tag, stalled⟩ := h j
  obtain ⟨confirmed', tag', stalled'⟩ := k j
  exact ⟨confirmed'.trans confirmed, tag'.trans tag, stalled'.trans stalled⟩

theorem keepsOrders_of_syncs (h : t.syncs = s.syncs) : KeepsOrders s t := fun j => by
  rw [h]
  exact ⟨rfl, rfl, rfl⟩

theorem keepsOrders_of_frame (h : ChangesOnly W s t) (hW : Block.syncs ∉ W) : KeepsOrders s t :=
  keepsOrders_of_syncs (h .syncs hW)

theorem keepsOrders_ite {c : Prop} [Decidable c] (ht : c → KeepsOrders s t) (hu : ¬c → KeepsOrders s u) :
    KeepsOrders s (if c then t else u) := by
  split
  · exact ht ‹_›
  · exact hu ‹_›

theorem keepsOrders_modSync {g : SyncRec → SyncRec}
    (hg : ∀ y, (g y).confirmed = y.confirmed ∧ (g y).orderTag = y.orderTag ∧ (g y).stalled = y.stalled) :
    KeepsOrders s (s.modSync i g) := fun j => by
  rw [modSync_syncs]
  by_cases same : j = i
  · subst same
    rw [get_set_self]
    exact hg _
  · rw [get_set_ne _ same]
    exact ⟨rfl, rfl, rfl⟩

theorem keepsOrders_requestSync (i : SeatId) : KeepsOrders s (s.requestSync i) := fun j => by
  by_cases same : j = i
  · subst same
    rw [requestSync_sync_self]
    exact ⟨rfl, rfl, rfl⟩
  · rw [requestSync_sync_ne same]
    exact ⟨rfl, rfl, rfl⟩

theorem keepsOrders_serveOwed (skip : Option SeatId) : KeepsOrders s (s.serveOwed skip) :=
  serveOwed_cases s skip (fun _ => keepsOrders_refl) fun i _ _ => keepsOrders_requestSync i

theorem keepsOrders_leave (skip : Option SeatId) (f : QEntry → Bool) : KeepsOrders s (s.leave skip f) :=
  leave_induction (P := fun t => KeepsOrders s t) (fun _ h => h.trans (keepsOrders_serveOwed skip))
    (fun _ _ _ _ _ h => h.trans (keepsOrders_of_syncs rfl)) (keepsOrders_of_syncs rfl) keepsOrders_refl

theorem keepsOrders_dropSyncs (i : SeatId) : KeepsOrders s (s.dropSyncs i) :=
  (keepsOrders_leave _ _).trans (keepsOrders_leave _ _)

theorem keepsOrders_dropSyncsOwed (i : SeatId) : KeepsOrders s (s.dropSyncsOwed i) :=
  (keepsOrders_dropSyncs i).trans (keepsOrders_modSync fun _ => ⟨rfl, rfl, rfl⟩)

theorem keepsOrders_depart (i : SeatId) : KeepsOrders s (s.depart i) := by
  refine KeepsOrders.trans (keepsOrders_of_frame (W := [.seats, .mute, .signal, .alerts, .attention]) ?_ (by decide))
    (keepsOrders_dropSyncsOwed i)
  refine frame_then (W := [.seats, .mute, .signal, .alerts, .attention]) ?_ (frame_clearQuiet i) (by decide)
  refine frame_then (W := [.seats, .mute, .signal, .alerts, .attention]) ?_ (frame_modSignal i _) (by decide)
  refine frame_then (W := [.seats, .mute, .signal, .alerts, .attention]) ?_ (frame_modMute i _) (by decide)
  exact frame_then (frame_mono (frame_modSignal i _) (by decide)) (frame_foldl (W := rosterBlocks) _ _
    (fun _ _ => frame_endOrCancel _) _) (by decide)

theorem keepsOrders_derive (i : SeatId) : KeepsOrders s (s.derive i) :=
  keepsOrders_ite (fun _ => keepsOrders_refl) fun _ =>
    KeepsOrders.trans (keepsOrders_of_syncs rfl) (keepsOrders_requestSync i)

theorem keepsOrders_indicator (i : SeatId) : KeepsOrders s (s.indicator i) :=
  keepsOrders_ite (fun _ => (keepsOrders_derive i).trans (keepsOrders_requestSync i)) fun _ => keepsOrders_derive i

/-! ## SYNCs in flight -/

/-- No SYNC is in flight that was not. -/
def KeepsFlights (s t : State) : Prop := ∀ j g, QEntry.sync j (.inFlight g) ∈ t.queue → QEntry.sync j (.inFlight g) ∈ s.queue

theorem KeepsFlights.trans (h : KeepsFlights s t) (k : KeepsFlights t u) : KeepsFlights s u :=
  fun j g mem => h j g (k j g mem)

theorem keepsFlights_of_queue (h : t.queue = s.queue) : KeepsFlights s t := fun j g mem => by
  rwa [h] at mem

theorem keepsFlights_of_frame (h : ChangesOnly W s t) (hW : Block.queue ∉ W) : KeepsFlights s t :=
  keepsFlights_of_queue (h .queue hW)

theorem keepsFlights_ite {c : Prop} [Decidable c] (ht : c → KeepsFlights s t) (hu : ¬c → KeepsFlights s u) :
    KeepsFlights s (if c then t else u) := by
  split
  · exact ht ‹_›
  · exact hu ‹_›

theorem keepsFlights_requestSync (i : SeatId) : KeepsFlights s (s.requestSync i) := fun j g mem => by
  rcases requestSync_queue s i with same | ⟨-, -, -, more⟩
  · rwa [same] at mem
  · rw [more] at mem
    rcases List.mem_append.1 mem with old | new
    · exact old
    · cases List.mem_singleton.1 new

theorem keepsFlights_leave (skip : Option SeatId) (f : QEntry → Bool) : KeepsFlights s (s.leave skip f) := fun j g mem => by
  rcases (holdsAtMost_leave s skip f).2 _ mem with old | ⟨k, new, -⟩
  · exact List.mem_of_mem_eraseP old
  · cases new

theorem keepsFlights_dropSyncsOwed (i : SeatId) : KeepsFlights s (s.dropSyncsOwed i) :=
  ((keepsFlights_leave (some i) _).trans (keepsFlights_leave (some i) _)).trans (keepsFlights_of_queue rfl)

theorem keepsFlights_depart (i : SeatId) : KeepsFlights s (s.depart i) := by
  refine KeepsFlights.trans (keepsFlights_of_frame (W := [.seats, .mute, .signal, .alerts, .attention]) ?_ (by decide))
    (keepsFlights_dropSyncsOwed i)
  refine frame_then (W := [.seats, .mute, .signal, .alerts, .attention]) ?_ (frame_clearQuiet i) (by decide)
  refine frame_then (W := [.seats, .mute, .signal, .alerts, .attention]) ?_ (frame_modSignal i _) (by decide)
  refine frame_then (W := [.seats, .mute, .signal, .alerts, .attention]) ?_ (frame_modMute i _) (by decide)
  exact frame_then (frame_mono (frame_modSignal i _) (by decide)) (frame_foldl (W := rosterBlocks) _ _
    (fun _ _ => frame_endOrCancel _) _) (by decide)

theorem keepsFlights_derive (i : SeatId) : KeepsFlights s (s.derive i) :=
  keepsFlights_ite (fun _ => keepsFlights_of_queue rfl) fun _ =>
    KeepsFlights.trans (keepsFlights_of_queue rfl) (keepsFlights_requestSync i)

theorem keepsFlights_indicator (i : SeatId) : KeepsFlights s (s.indicator i) :=
  keepsFlights_ite (fun _ => (keepsFlights_derive i).trans (keepsFlights_requestSync i)) fun _ => keepsFlights_derive i

/-! ## The derivation and step 6 of R14 -/

theorem derive_cases {motive : State → Prop} (s : State) (i : SeatId)
    (same : s.patternFor i = s.mute[i].pattern → holdOf s.mute[i].hold = s.mute[i].order → motive s)
    (asks : motive ((s.modMute i fun m => { m with pattern := s.patternFor i, order := holdOf s.mute[i].hold }).requestSync i)) :
    motive (s.derive i) := by
  unfold State.derive
  dsimp only
  split
  next h => exact same h.1 h.2
  next => exact asks

theorem derive_mute (s : State) (i : SeatId) : (s.derive i).mute = s.mute.set i
    { s.mute[i] with pattern := s.patternFor i, order := holdOf s.mute[i].hold } := by
  refine derive_cases (motive := fun t => t.mute = _) s i (fun pattern order => ?_) ?_
  · rw [pattern, order]
    exact (Vector.set_getElem_self _).symm
  · rw [show (State.requestSync _ i).mute = _ from frame_requestSync i .mute (by decide), modMute_mute]

theorem indicator_mute (s : State) (i : SeatId) : (s.indicator i).mute = s.mute.set i
    { s.mute[i] with pattern := s.patternFor i, order := holdOf s.mute[i].hold } := by
  rw [← derive_mute, State.indicator]
  split
  · exact frame_requestSync i .mute (by decide)
  · rfl

theorem mem_derive {x : QEntry} (h : x ∈ s.queue) (i : SeatId) : x ∈ (s.derive i).queue :=
  derive_cases (motive := fun t => x ∈ t.queue) s i (fun _ _ => h) (mem_requestSync (s := s.modMute i _) h i)

theorem mem_indicator {x : QEntry} (h : x ∈ s.queue) (i : SeatId) : x ∈ (s.indicator i).queue := by
  rw [State.indicator]
  split
  · exact mem_requestSync (mem_derive h i) i
  · exact mem_derive h i

theorem awaits_derive (h : Awaits s i) : Awaits (s.derive i) i :=
  derive_cases (motive := fun t => Awaits t i) s i (fun _ _ => h) (awaits_requestSync _ i)

theorem awaits_indicator (h : Awaits s i) : Awaits (s.indicator i) i := by
  rw [State.indicator]
  split
  · exact awaits_requestSync _ i
  · exact awaits_derive h

theorem derive_seats (s : State) (i : SeatId) : (s.derive i).seats = s.seats := frame_derive i .seats (by decide)

theorem indicator_seats (s : State) (i : SeatId) : (s.indicator i).seats = s.seats := frame_indicator i .seats (by decide)

/-- A seat that is not ACTIVE stays owed what it is owed. -/
theorem owed_derive (inactive : s.seats[i].state ≠ .active) (owed : s.syncs[i].owed = true) :
    (s.derive i).syncs[i].owed = true :=
  derive_cases (motive := fun t => t.syncs[i].owed = true) s i (fun _ _ => owed) (owed_requestSync_of_inactive inactive)

theorem owed_indicator (inactive : s.seats[i].state ≠ .active) (owed : s.syncs[i].owed = true) :
    (s.indicator i).syncs[i].owed = true := by
  rw [State.indicator, if_neg]
  · exact owed_derive inactive owed
  · rw [derive_seats]
    exact fun h => inactive h.1

/-- An ACTIVE seat stays owed only where the queue is full (R14, step 6). -/
theorem full_of_owed_indicator (active : (s.indicator i).seats[i].state = .active)
    (owed : (s.indicator i).syncs[i].owed = true) : 24 ≤ (s.indicator i).queue.length := by
  rw [indicator_seats] at active
  rw [State.indicator] at owed ⊢
  split at owed
  next h =>
    rw [if_pos h]
    exact full_of_owed_requestSync h.1 owed
  next h => exact absurd ⟨derive_seats s i ▸ active, owed⟩ h

/-! ## The order echo (R134) -/

theorem readEcho_of_none (h : s.inFlight i = none) (echo : BitVec 4) : s.readEcho i echo = s := by
  rw [State.readEcho, h]

theorem readEcho_of_other {g : InFlight} (h : s.inFlight i = some g) {echo : BitVec 4} (other : echo ≠ g.tag) :
    s.readEcho i echo = s := by
  rw [State.readEcho, h]
  exact if_neg other

/-- The state after an echo of the tag in flight, before the confirmed values are compared with the desired ones. -/
def confirming (s : State) (i : SeatId) (g : InFlight) : State :=
  (s.modSync i fun y => { y with confirmed := some (g.pattern, g.hold), stalled := false }).leave none (·.isInFlightOf i)

theorem readEcho_of_tag {g : InFlight} (h : s.inFlight i = some g) : s.readEcho i g.tag =
    if (confirming s i g).syncs[i].confirmed = some ((confirming s i g).mute[i].pattern, (confirming s i g).mute[i].order)
    then confirming s i g else (confirming s i g).requestSync i := by
  rw [State.readEcho, h]
  exact if_pos rfl

theorem confirming_sync (s : State) (i : SeatId) (g : InFlight) :
    (confirming s i g).syncs[i].confirmed = some (g.pattern, g.hold) ∧ (confirming s i g).syncs[i].stalled = false := by
  obtain ⟨confirmed, -, stalled⟩ := keepsOrders_leave (s := s.modSync i fun y =>
    { y with confirmed := some (g.pattern, g.hold), stalled := false }) none (·.isInFlightOf i) i
  rw [modSync_syncs, get_set_self] at confirmed stalled
  exact ⟨confirmed, stalled⟩

theorem frame_confirming (g : InFlight) : ChangesOnly queueBlocks s (confirming s i g) :=
  frame_trans (W := queueBlocks) (frame_mono (frame_modSync i _) (by decide)) (frame_leave _ _)

theorem readEcho_sync {g : InFlight} (h : s.inFlight i = some g) :
    (s.readEcho i g.tag).syncs[i].confirmed = some (g.pattern, g.hold) ∧ (s.readEcho i g.tag).syncs[i].stalled = false := by
  rw [readEcho_of_tag h]
  split
  · exact confirming_sync s i g
  · obtain ⟨confirmed, -, stalled⟩ := keepsOrders_requestSync (s := confirming s i g) i i
    rw [confirmed, stalled]
    exact confirming_sync s i g

theorem isInFlightOf_self (i : SeatId) (g : InFlight) : (QEntry.sync i (.inFlight g)).isInFlightOf i = true :=
  isInFlightOf_iff.2 ⟨g, rfl⟩

/-- The confirmed SYNC has left the queue. -/
theorem landed_readEcho {pre post : List QEntry} {g : InFlight} (split : s.queue = pre ++ .sync i (.inFlight g) :: post)
    (single : ∀ h, QEntry.sync i (.inFlight h) ∉ pre ++ post) (h : InFlight) :
    QEntry.sync i (.inFlight h) ∉ (s.readEcho i g.tag).queue := by
  have first (x) (hx : x ∈ pre) : ¬x.isInFlightOf i = true := fun own => by
    obtain ⟨h, rfl⟩ := isInFlightOf_iff.1 own
    exact single h (List.mem_append_left _ hx)
  have flying : s.inFlight i = some g := inFlight_of_split split fun h mem => single h (List.mem_append_left _ mem)
  have landed : QEntry.sync i (.inFlight h) ∉ (confirming s i g).queue := fun mem => by
    rcases (holdsAtMost_leave _ none (·.isInFlightOf i)).2 _ mem with old | ⟨k, new, -⟩
    · rw [modSync_queue, split, List.eraseP_append_right _ first, List.eraseP_cons_of_pos (isInFlightOf_self i g)] at old
      exact single h old
    · cases new
  rw [readEcho_of_tag flying]
  split
  · exact landed
  · exact fun mem => landed (keepsFlights_requestSync i i h mem)

/-- Confirmed values that are not the desired ones ask for another SYNC. -/
theorem awaits_readEcho {g : InFlight} (h : s.inFlight i = some g)
    (other : (g.pattern, g.hold) ≠ (s.mute[i].pattern, s.mute[i].order)) : Awaits (s.readEcho i g.tag) i := by
  have mute : (confirming s i g).mute = s.mute := frame_confirming g .mute (by decide)
  rw [readEcho_of_tag h, if_neg]
  · exact awaits_requestSync _ i
  · rw [(confirming_sync s i g).1, mute]
    exact fun same => other (Option.some.inj same)

end Sys2Proof.Machine.SyncRecords
end

section
/-! PROOFS. What the Mute and Floor Supervisor leaves of a frame it reads: the mute record of the seat and the grades of its
four conditions, each given by a function of their values before. -/

namespace Sys2Proof.Machine.SeatWork

open Sys2Proof Sys2Proof.Machine Sys2Proof.Machine.Laws Sys2Proof.Machine.SlotGrades Sys2Proof.Machine.SyncRecords

variable {s t u : State} {i : SeatId} {f : SeatFrame} {c : FrameClass} {a : AudioState} {k : SeatKind}

/-! ## Dropping a condition -/

theorem endOrCancel_mute (s : State) (src : Source) : (s.endOrCancel src).mute = s.mute := frame_endOrCancel src .mute (by decide)

theorem raise_mute (s : State) (src : Source) (sev : Severity) (d : FixedDetail) : (s.raise src sev d).mute = s.mute :=
  frame_raise src sev d .mute (by decide)

theorem dropFloorMuted_mute (s : State) (i : SeatId) :
    (s.dropFloorMuted i).mute = s.mute.set i { s.mute[i] with floorMutedQualify := none } := by
  rw [State.dropFloorMuted, modMute_mute, endOrCancel_mute]

theorem dropOpenNoFloor_mute (s : State) (i : SeatId) :
    (s.dropOpenNoFloor i).mute = s.mute.set i { s.mute[i] with openGrace := none } := by
  rw [State.dropOpenNoFloor, modMute_mute, endOrCancel_mute]

theorem setsGrade_dropFloorMuted (s : State) (i : SeatId) : SetsGrade (.seat i .floorMuted) .clear s (s.dropFloorMuted i) :=
  (setsGrade_endOrCancel s _).then (keepsGrades_of_alerts rfl)

theorem setsGrade_dropOpenNoFloor (s : State) (i : SeatId) : SetsGrade (.seat i .openNoFloor) .clear s (s.dropOpenNoFloor i) :=
  (setsGrade_endOrCancel s _).then (keepsGrades_of_alerts rfl)

/-! ## VOICE_IN_MUTE (R96) -/

def voiceGrade (a : AudioState) : Grade → Grade
  | .raised sev => .raised sev
  | _ => if a = .mutedVoice then .qualifying else .clear

def voiceMute (a : AudioState) (qualify : Nat) (m : Mute) : Grade → Mute
  | .clear => if a = .mutedVoice then { m with voiceQualify := some qualify } else m
  | .qualifying => if a = .mutedVoice then m else { m with voiceQualify := none }
  | .raised _ => if a = .mutedVoice then { m with voiceEnd := some 30 } else m

theorem voiceFrame_spec (s : State) (i : SeatId) (a : AudioState) :
    SetsGrade (.seat i .voiceInMute) (voiceGrade a (grade (s.slot (.seat i .voiceInMute)))) s (s.voiceFrame i a) ∧
    (s.voiceFrame i a).mute =
      s.mute.set i (voiceMute a s.params.voiceQualify s.mute[i] (grade (s.slot (.seat i .voiceInMute)))) := by
  unfold State.voiceFrame
  dsimp only
  cases slot : s.slot (.seat i .voiceInMute) with
  | clear =>
    by_cases h : a = .mutedVoice <;> simp only [h, if_true, if_false, SlotGrades.grade, voiceGrade, voiceMute]
    · exact ⟨(setsGrade_setSlot s _ .qualifying).then (keepsGrades_of_alerts rfl), rfl⟩
    · exact ⟨setsGrade_same (by rw [slot]; rfl), (set_same _ _).symm⟩
  | qualifying =>
    by_cases h : a = .mutedVoice <;> simp only [h, if_true, if_false, SlotGrades.grade, voiceGrade, voiceMute]
    · exact ⟨setsGrade_same (by rw [slot]; rfl), (set_same _ _).symm⟩
    · exact ⟨(setsGrade_setSlot s _ .clear).then (keepsGrades_of_alerts rfl), rfl⟩
  | raised r =>
    by_cases h : a = .mutedVoice <;> simp only [h, if_true, if_false, SlotGrades.grade, voiceGrade, voiceMute]
    · exact ⟨(setsGrade_same (by rw [slot]; rfl)).then (keepsGrades_of_alerts rfl), rfl⟩
    · exact ⟨setsGrade_same (by rw [slot]; rfl), (set_same _ _).symm⟩

/-! ## OPEN_NO_FLOOR (R94, R96) -/

/-- OPEN_NO_FLOOR is raised at once at a live frame without the floor. -/
def opensAtOnce (a : AudioState) (ps : Params) (m : Mute) : Bool := a.isLive && !m.floor && decide (ps.openGrace = 0)

def openGrade (a : AudioState) (ps : Params) (m : Mute) : Grade → Grade
  | .clear => if opensAtOnce a ps m then .raised .warning else if a.isLive && !m.floor then .qualifying else .clear
  | g => if a.isMuted then .clear else g

/-- Auto-mute holds the seat at once. -/
def autoHolds (a : AudioState) (ps : Params) (m : Mute) : Grade → Bool
  | .clear => opensAtOnce a ps m && (ps.autoMute && m.hold == .none)
  | _ => false

def openMute (a : AudioState) (ps : Params) (m : Mute) : Grade → Mute
  | .clear =>
    if opensAtOnce a ps m then
      if ps.autoMute && m.hold == .none then { m with hold := .auto, floorMutedQualify := none } else m
    else if a.isLive && !m.floor then { m with openGrace := some ps.openGrace } else m
  | _ => if a.isMuted then { m with openGrace := none } else m

theorem raiseOpenNoFloor_spec (s : State) (i : SeatId) (a : AudioState) :
    grade ((s.raiseOpenNoFloor i a).slot (.seat i .openNoFloor)) = .raised .warning ∧
    grade ((s.raiseOpenNoFloor i a).slot (.seat i .floorMuted)) =
      (if s.params.autoMute && s.mute[i].hold == .none then .clear else grade (s.slot (.seat i .floorMuted))) ∧
    (∀ o, o ≠ .seat i .openNoFloor → o ≠ .seat i .floorMuted →
      grade ((s.raiseOpenNoFloor i a).slot o) = grade (s.slot o)) ∧
    (s.raiseOpenNoFloor i a).mute = s.mute.set i
      (if s.params.autoMute && s.mute[i].hold == .none then { s.mute[i] with hold := .auto, floorMutedQualify := none }
       else s.mute[i]) := by
  obtain ⟨raised, others⟩ := setsGrade_raise s (.seat i .openNoFloor) .warning (.audio a)
  unfold State.raiseOpenNoFloor
  dsimp only
  split
  · obtain ⟨cleared, rest⟩ := setsGrade_dropFloorMuted
      ((s.raise (.seat i .openNoFloor) .warning (.audio a)).modMute i fun m => { m with hold := .auto }) i
    refine ⟨(rest (.seat i .openNoFloor) nofun).trans raised, cleared, fun o ne ne' => (rest o ne').trans (others o ne), ?_⟩
    rw [dropFloorMuted_mute, modMute_mute, get_set_self, set_set_self, raise_mute]
  · exact ⟨raised, others _ nofun, fun o ne _ => others o ne, (raise_mute s _ _ _).trans (set_same _ _).symm⟩

theorem openFrame_spec (s : State) (i : SeatId) (a : AudioState) :
    grade ((s.openFrame i a).slot (.seat i .openNoFloor)) =
      openGrade a s.params s.mute[i] (grade (s.slot (.seat i .openNoFloor))) ∧
    grade ((s.openFrame i a).slot (.seat i .floorMuted)) =
      (if autoHolds a s.params s.mute[i] (grade (s.slot (.seat i .openNoFloor))) then .clear
       else grade (s.slot (.seat i .floorMuted))) ∧
    (∀ o, o ≠ .seat i .openNoFloor → o ≠ .seat i .floorMuted → grade ((s.openFrame i a).slot o) = grade (s.slot o)) ∧
    (s.openFrame i a).mute = s.mute.set i (openMute a s.params s.mute[i] (grade (s.slot (.seat i .openNoFloor)))) := by
  generalize before : grade (s.slot (.seat i .openNoFloor)) = g
  have plain (u : State) (auto : autoHolds a s.params s.mute[i] g = false)
      (set : SetsGrade (.seat i .openNoFloor) (openGrade a s.params s.mute[i] g) s u)
      (mute : u.mute = s.mute.set i (openMute a s.params s.mute[i] g)) :
      grade (u.slot (.seat i .openNoFloor)) = openGrade a s.params s.mute[i] g ∧
      grade (u.slot (.seat i .floorMuted)) = (if autoHolds a s.params s.mute[i] g then .clear
        else grade (s.slot (.seat i .floorMuted))) ∧
      (∀ o, o ≠ .seat i .openNoFloor → o ≠ .seat i .floorMuted → grade (u.slot o) = grade (s.slot o)) ∧
      u.mute = s.mute.set i (openMute a s.params s.mute[i] g) := by
    rw [auto]
    exact ⟨set.1, set.2 _ nofun, fun o ne _ => set.2 o ne, mute⟩
  unfold State.openFrame
  dsimp only
  cases slot : s.slot (.seat i .openNoFloor) with
  | clear =>
    rw [slot] at before
    subst before
    cases live : a.isLive && !s.mute[i].floor with
    | false =>
      have late : opensAtOnce a s.params s.mute[i] = false := by rw [opensAtOnce, live]; rfl
      refine plain s ?_ (setsGrade_same ?_) ?_ <;>
        simp only [SlotGrades.grade, autoHolds, openGrade, openMute, late, live, slot, set_same, Bool.false_and,
          Bool.false_eq_true, if_false]
    | true =>
      by_cases grace : 0 < s.params.openGrace
      · have late : opensAtOnce a s.params s.mute[i] = false := by
          rw [opensAtOnce, live, decide_eq_false (by omega)]; rfl
        rw [if_pos rfl, if_pos grace]
        refine plain _ ?_ ?_ ?_ <;>
          simp only [SlotGrades.grade, autoHolds, openGrade, openMute, late, live, Bool.false_and, Bool.false_eq_true, if_false,
            if_true]
        · exact (setsGrade_setSlot s _ .qualifying).then (keepsGrades_of_alerts rfl)
        · rfl
      · have once : opensAtOnce a s.params s.mute[i] = true := by
          rw [opensAtOnce, live, decide_eq_true (by omega)]; rfl
        simp only [SlotGrades.grade, openGrade, openMute, autoHolds, once, grace, Bool.true_and, if_false, if_true]
        exact raiseOpenNoFloor_spec s i a
  | qualifying =>
    rw [slot] at before
    subst before
    cases muted : a.isMuted with
    | false =>
      refine plain s rfl (setsGrade_same ?_) ?_ <;>
        simp only [slot, SlotGrades.grade, openGrade, openMute, muted, set_same, Bool.false_eq_true, if_false]
    | true =>
      refine plain _ rfl ?_ ?_ <;> simp only [SlotGrades.grade, openGrade, openMute, muted, if_true]
      · exact setsGrade_dropOpenNoFloor s i
      · exact dropOpenNoFloor_mute s i
  | raised r =>
    rw [slot] at before
    subst before
    cases muted : a.isMuted with
    | false =>
      refine plain s rfl (setsGrade_same ?_) ?_ <;>
        simp only [slot, SlotGrades.grade, openGrade, openMute, muted, set_same, Bool.false_eq_true, if_false]
    | true =>
      refine plain _ rfl ?_ ?_ <;> simp only [SlotGrades.grade, openGrade, openMute, muted, if_true]
      · exact setsGrade_dropOpenNoFloor s i
      · exact dropOpenNoFloor_mute s i

/-! ## FLOOR_MUTED (R97) -/

def floorGrade (a : AudioState) (m : Mute) : Grade → Grade
  | .clear => if a.isMuted && m.floor && m.hold == .none then .qualifying else .clear
  | g => if a.isLive then .clear else g

def floorMute (a : AudioState) (qualify : Nat) (m : Mute) : Grade → Mute
  | .clear => if a.isMuted && m.floor && m.hold == .none then { m with floorMutedQualify := some qualify } else m
  | _ => if a.isLive then { m with floorMutedQualify := none } else m

theorem floorFrame_spec (s : State) (i : SeatId) (a : AudioState) :
    SetsGrade (.seat i .floorMuted) (floorGrade a s.mute[i] (grade (s.slot (.seat i .floorMuted)))) s (s.floorFrame i a) ∧
    (s.floorFrame i a).mute = s.mute.set i
      (floorMute a s.params.floorMutedQualify s.mute[i] (grade (s.slot (.seat i .floorMuted)))) := by
  unfold State.floorFrame
  dsimp only
  cases slot : s.slot (.seat i .floorMuted) with
  | clear =>
    cases h : a.isMuted && s.mute[i].floor && s.mute[i].hold == .none <;>
      simp only [SlotGrades.grade, floorGrade, floorMute, h, Bool.false_eq_true, if_false, if_true]
    · exact ⟨setsGrade_same (by rw [slot]; rfl), (set_same _ _).symm⟩
    · exact ⟨(setsGrade_setSlot s _ .qualifying).then (keepsGrades_of_alerts rfl), rfl⟩
  | qualifying =>
    cases h : a.isLive <;> simp only [SlotGrades.grade, floorGrade, floorMute, h, Bool.false_eq_true, if_false, if_true]
    · exact ⟨setsGrade_same (by rw [slot]; rfl), (set_same _ _).symm⟩
    · exact ⟨setsGrade_dropFloorMuted s i, dropFloorMuted_mute s i⟩
  | raised r =>
    cases h : a.isLive <;> simp only [SlotGrades.grade, floorGrade, floorMute, h, Bool.false_eq_true, if_false, if_true]
    · exact ⟨setsGrade_same (by rw [slot]; rfl), (set_same _ _).symm⟩
    · exact ⟨setsGrade_dropFloorMuted s i, dropFloorMuted_mute s i⟩

/-! ## MUTE_CHATTER (R98 to R100) -/

def countedMute (m : Mute) : Mute :=
  if m.chatterWindow = none then { m with toggles := 1, chatterWindow := some 100 }
  else { m with toggles := min 15 (m.toggles + 1) }

def countedGrade (m : Mute) : Grade → Grade
  | .clear => if m.chatterWindow = none then .qualifying else .clear
  | g => g

theorem countedGrade_of_running {m : Mute} (h : m.chatterWindow ≠ none) (g : Grade) : countedGrade m g = g := by
  cases g with
  | clear => exact if_neg h
  | _ => rfl

theorem countedGrade_of_set {m : Mute} {g : Grade} (h : g ≠ .clear) : countedGrade m g = g := by
  cases g with
  | clear => exact absurd rfl h
  | _ => rfl

theorem countToggle_spec (s : State) (i : SeatId) :
    SetsGrade (.seat i .muteChatter) (countedGrade s.mute[i] (grade (s.slot (.seat i .muteChatter)))) s (s.countToggle i) ∧
    (s.countToggle i).mute = s.mute.set i (countedMute s.mute[i]) := by
  unfold State.countToggle countedMute
  dsimp only
  by_cases window : s.mute[i].chatterWindow = none
  · have first : s.mute[i].chatterWindow.isNone = true := by rw [window]; rfl
    rw [if_pos first, if_pos window]
    by_cases idle : s.slot (.seat i .muteChatter) = .clear
    · rw [if_pos (show (s.modMute i _).slot (.seat i .muteChatter) = .clear from idle), idle]
      have starts : countedGrade s.mute[i] .clear = .qualifying := if_pos window
      exact ⟨starts ▸ SetsGrade.after (keepsGrades_of_alerts rfl) (setsGrade_setSlot (s.modMute i _) _ .qualifying), rfl⟩
    · rw [if_neg (show ¬(s.modMute i _).slot (.seat i .muteChatter) = .clear from idle),
        countedGrade_of_set fun h => idle (grade_eq_clear.1 h)]
      exact ⟨(setsGrade_same rfl).then (keepsGrades_of_alerts rfl), rfl⟩
  · have later : ¬s.mute[i].chatterWindow.isNone = true := by
      rw [Option.isNone_iff_eq_none]
      exact window
    rw [if_neg later, if_neg window, countedGrade_of_running window]
    exact ⟨(setsGrade_same rfl).then (keepsGrades_of_alerts rfl), rfl⟩

def chatterGrade (threshold : Nat) (m : Mute) (g : Grade) : Grade :=
  if threshold ≤ m.toggles ∧ g.severity?.isSome = false then .raised .notice else g

theorem chatterTest_spec (s : State) (i : SeatId) (a : AudioState) :
    SetsGrade (.seat i .muteChatter) (chatterGrade s.params.chatterThreshold s.mute[i] (grade (s.slot (.seat i .muteChatter))))
      s (s.chatterTest i a) ∧ (s.chatterTest i a).mute = s.mute := by
  unfold State.chatterTest chatterGrade
  rw [← isRaised_eq]
  dsimp only
  by_cases h : s.params.chatterThreshold ≤ s.mute[i].toggles ∧ (s.slot (.seat i .muteChatter)).isRaised = false
  · have model : s.params.chatterThreshold ≤ s.mute[i].toggles ∧ (!(s.slot (.seat i .muteChatter)).isRaised) = true := by
      rw [h.2]
      exact ⟨h.1, rfl⟩
    rw [if_pos h, if_pos model]
    exact ⟨setsGrade_raise s _ _ _, raise_mute s _ _ _⟩
  · have model : ¬(s.params.chatterThreshold ≤ s.mute[i].toggles ∧ (!(s.slot (.seat i .muteChatter)).isRaised) = true) :=
      fun both => h ⟨both.1, Bool.not_eq_true' _ ▸ both.2⟩
    rw [if_neg h, if_neg model]
    exact ⟨setsGrade_same rfl, rfl⟩

end Sys2Proof.Machine.SeatWork
end

section
/-! PROOFS. The Supervisor's reading of a frame as a whole: `Supervised` says what it leaves by functions of what was before,
and `SupervisorReads` follows from it. -/

namespace Sys2Proof.Machine.SeatWork

open Sys2Proof Sys2Proof.Machine Sys2Proof.Machine.Laws Sys2Proof.Machine.SlotGrades

variable {s t u : State} {i : SeatId} {f : SeatFrame} {c : FrameClass} {a : AudioState} {ps : Params} {m : Mute}

/-! ## The mute record field by field -/

def voiceTimer (a : AudioState) (qualify : Nat) (old : Timer) : Grade → Timer
  | .clear => if a = .mutedVoice then some qualify else old
  | .qualifying => if a = .mutedVoice then old else none
  | .raised _ => old

def voiceEndTimer (a : AudioState) (old : Timer) : Grade → Timer
  | .raised _ => if a = .mutedVoice then some 30 else old
  | _ => old

theorem voiceMute_eq (a : AudioState) (q : Nat) (m : Mute) (g : Grade) : voiceMute a q m g =
    { m with voiceQualify := voiceTimer a q m.voiceQualify g, voiceEnd := voiceEndTimer a m.voiceEnd g } := by
  cases g <;> simp only [voiceMute, voiceTimer, voiceEndTimer] <;> split <;> rfl

def graceTimer (a : AudioState) (ps : Params) (m : Mute) : Grade → Timer
  | .clear => if (a.isLive && !m.floor) && !opensAtOnce a ps m then some ps.openGrace else m.openGrace
  | _ => if a.isMuted then none else m.openGrace

theorem openMute_eq (a : AudioState) (ps : Params) (m : Mute) (g : Grade) : openMute a ps m g =
    { m with
      openGrace := graceTimer a ps m g
      hold := if autoHolds a ps m g then .auto else m.hold
      floorMutedQualify := if autoHolds a ps m g then none else m.floorMutedQualify } := by
  cases g with
  | clear =>
    cases once : opensAtOnce a ps m with
    | true =>
      cases auto : ps.autoMute && m.hold == .none <;>
        simp only [openMute, graceTimer, autoHolds, once, auto, Bool.true_and, Bool.not_true, Bool.and_false,
          Bool.false_eq_true, if_true, if_false]
    | false =>
      cases live : a.isLive && !m.floor <;>
        simp only [openMute, graceTimer, autoHolds, once, live, Bool.false_and, Bool.and_true, Bool.not_false,
          Bool.false_eq_true, if_true, if_false]
  | qualifying =>
    cases muted : a.isMuted <;>
      simp only [openMute, graceTimer, autoHolds, muted, Bool.false_eq_true, if_true,
        if_false]
  | raised sev =>
    cases muted : a.isMuted <;>
      simp only [openMute, graceTimer, autoHolds, muted, Bool.false_eq_true, if_true,
        if_false]

def floorTimer (a : AudioState) (qualify : Nat) (m : Mute) : Grade → Timer
  | .clear => if a.isMuted && m.floor && m.hold == .none then some qualify else m.floorMutedQualify
  | _ => if a.isLive then none else m.floorMutedQualify

theorem floorMute_eq (a : AudioState) (q : Nat) (m : Mute) (g : Grade) :
    floorMute a q m g = { m with floorMutedQualify := floorTimer a q m g } := by
  cases g <;> simp only [floorMute, floorTimer] <;> split <;> rfl

theorem countedMute_eq (m : Mute) : countedMute m = { m with
    toggles := if m.chatterWindow = none then 1 else min 15 (m.toggles + 1)
    chatterWindow := if m.chatterWindow = none then some 100 else m.chatterWindow } := by
  unfold countedMute
  split <;> rfl

/-! ## The three conditions together -/

/-- The mute record after VOICE_IN_MUTE, OPEN_NO_FLOOR and FLOOR_MUTED have read a frame, from the grades of the three. -/
def frameMute (a : AudioState) (ps : Params) (m : Mute) (voice opened muted : Grade) : Mute :=
  { m with
    voiceQualify := voiceTimer a ps.voiceQualify m.voiceQualify voice
    voiceEnd := voiceEndTimer a m.voiceEnd voice
    openGrace := graceTimer a ps m opened
    hold := if autoHolds a ps m opened then .auto else m.hold
    floorMutedQualify := if autoHolds a ps m opened then none else floorTimer a ps.floorMutedQualify m muted }

theorem not_isMuted_of_isLive (h : a.isLive = true) : a.isMuted = false := by cases a <;> first | rfl | cases h

theorem isLive_of_autoHolds {g : Grade} (h : autoHolds a ps m g = true) : a.isLive = true := by
  cases g with
  | clear =>
    simp only [autoHolds, opensAtOnce, Bool.and_eq_true] at h
    exact h.1.1.1
  | _ => cases h

/-- Where the seat is held at once, FLOOR_MUTED is CLEAR with its timer stopped, as after the frame it is anyway. -/
theorem floor_of_autoHolds {g : Grade} (h : autoHolds a ps m g = true) (q : Nat) (n : Mute) :
    (∀ x, floorGrade a n x = .clear) ∧ (n.floorMutedQualify = none → floorTimer a q n .clear = none) := by
  have live := isLive_of_autoHolds h
  have unmuted := not_isMuted_of_isLive live
  refine ⟨fun x => ?_, fun stopped => ?_⟩
  · cases x <;> simp only [floorGrade, live, unmuted, Bool.false_and, Bool.false_eq_true, if_false, if_true]
  · simp only [floorTimer, unmuted, Bool.false_and, Bool.false_eq_true, if_false, stopped]

/-- VOICE_IN_MUTE, OPEN_NO_FLOOR and FLOOR_MUTED read a frame, in that order. -/
def threeFrames (s : State) (i : SeatId) (a : AudioState) : State := ((s.voiceFrame i a).openFrame i a).floorFrame i a

theorem threeFrames_spec (s : State) (i : SeatId) (a : AudioState) :
    grade ((threeFrames s i a).slot (.seat i .voiceInMute)) = voiceGrade a (grade (s.slot (.seat i .voiceInMute))) ∧
    grade ((threeFrames s i a).slot (.seat i .openNoFloor)) =
      openGrade a s.params s.mute[i] (grade (s.slot (.seat i .openNoFloor))) ∧
    grade ((threeFrames s i a).slot (.seat i .floorMuted)) = floorGrade a s.mute[i] (grade (s.slot (.seat i .floorMuted))) ∧
    (∀ o, o ≠ .seat i .voiceInMute → o ≠ .seat i .openNoFloor → o ≠ .seat i .floorMuted →
      grade ((threeFrames s i a).slot o) = grade (s.slot o)) ∧
    (threeFrames s i a).mute = s.mute.set i (frameMute a s.params s.mute[i] (grade (s.slot (.seat i .voiceInMute)))
      (grade (s.slot (.seat i .openNoFloor))) (grade (s.slot (.seat i .floorMuted)))) := by
  obtain ⟨⟨voice, unvoiced⟩, voiceMute⟩ := voiceFrame_spec s i a
  obtain ⟨opened, auto, unopened, openMute⟩ := openFrame_spec (s.voiceFrame i a) i a
  obtain ⟨⟨muted, unmuted⟩, floorMute⟩ := floorFrame_spec ((s.voiceFrame i a).openFrame i a) i a
  have voiceParams : (s.voiceFrame i a).params = s.params := frame_voiceFrame i a .params (by decide)
  have openParams : ((s.voiceFrame i a).openFrame i a).params = s.params :=
    (frame_openFrame i a .params (by decide)).trans voiceParams
  rw [voiceMute, voiceParams, voiceMute_eq, get_set_self, unvoiced (.seat i .openNoFloor) nofun] at openMute opened auto
  rw [unvoiced (.seat i .floorMuted) nofun] at auto
  rw [openParams, openMute, openMute_eq, get_set_self, set_set_self, set_set_self] at floorMute
  rw [openMute, openMute_eq, get_set_self] at muted
  have held (n : Mute) (floor : n.floor = s.mute[i].floor) (hold : n.hold = s.mute[i].hold) (g : Grade) :
      autoHolds a s.params n g = autoHolds a s.params s.mute[i] g := by
    simp only [autoHolds, opensAtOnce, floor, hold]
  refine ⟨?_, ?_, ?_, fun o ne ne' ne'' => ?_, ?_⟩
  · exact ((unmuted (.seat i .voiceInMute) nofun).trans (unopened (.seat i .voiceInMute) nofun nofun)).trans voice
  · rw [threeFrames, unmuted (.seat i .openNoFloor) nofun, opened]
    rfl
  · rw [threeFrames, muted, auto]
    split
    next h =>
      rw [(floor_of_autoHolds h 0 _).1]
      exact ((floor_of_autoHolds h 0 _).1 _).symm
    next => cases grade (s.slot (.seat i .floorMuted)) <;> rfl
  · exact ((unmuted o ne'').trans (unopened o ne' ne'')).trans (unvoiced o ne)
  · rw [threeFrames, floorMute, floorMute_eq, auto]
    refine congrArg (s.mute.set i) ?_
    rw [held { s.mute[i] with
      voiceQualify := voiceTimer a s.params.voiceQualify s.mute[i].voiceQualify (grade (s.slot (.seat i .voiceInMute)))
      voiceEnd := voiceEndTimer a s.mute[i].voiceEnd (grade (s.slot (.seat i .voiceInMute))) } rfl rfl]
    by_cases h : autoHolds a s.params s.mute[i] (grade (s.slot (.seat i .openNoFloor))) = true
    · simp only [frameMute, if_pos h]
      rw [(floor_of_autoHolds h _ _).2 rfl]
      rfl
    · simp only [frameMute, if_neg h]
      cases grade (s.slot (.seat i .floorMuted)) <;> rfl

/-! ## The reading as a whole -/

/-- What the Supervisor leaves of a frame with audio state `a`, which is a toggle or not. -/
structure Supervised (i : SeatId) (a : AudioState) (toggle : Bool) (s t : State) : Prop where
  voice : grade (t.slot (.seat i .voiceInMute)) = voiceGrade a (grade (s.slot (.seat i .voiceInMute)))
  opened : grade (t.slot (.seat i .openNoFloor)) = openGrade a s.params s.mute[i] (grade (s.slot (.seat i .openNoFloor)))
  muted : grade (t.slot (.seat i .floorMuted)) = floorGrade a s.mute[i] (grade (s.slot (.seat i .floorMuted)))
  chatter : grade (t.slot (.seat i .muteChatter)) =
    if toggle then chatterGrade s.params.chatterThreshold (countedMute s.mute[i])
      (countedGrade s.mute[i] (grade (s.slot (.seat i .muteChatter))))
    else grade (s.slot (.seat i .muteChatter))
  mute : ∃ pattern order, t.mute[i] = { frameMute a s.params (if toggle then countedMute s.mute[i] else s.mute[i])
    (grade (s.slot (.seat i .voiceInMute))) (grade (s.slot (.seat i .openNoFloor))) (grade (s.slot (.seat i .floorMuted)))
    with pattern := pattern, order := order }

/-- Openings and holds read of the mute record the floor flag and the hold alone, which counting a toggle leaves. -/
theorem openGrade_counted (g : Grade) : openGrade a ps (countedMute m) g = openGrade a ps m g := by
  rw [countedMute_eq]
  cases g <;> rfl

theorem floorGrade_counted (g : Grade) : floorGrade a (countedMute m) g = floorGrade a m g := by
  rw [countedMute_eq]
  cases g <;> rfl

/-- The kinds of condition the Supervisor keeps. -/
def supervisedKinds : List SeatKind := [.voiceInMute, .openNoFloor, .floorMuted, .muteChatter]

theorem grade_threeFrames {k : SeatKind} (hk : k ∉ [SeatKind.voiceInMute, .openNoFloor, .floorMuted]) :
    grade ((threeFrames s i a).slot (.seat i k)) = grade (s.slot (.seat i k)) := by
  obtain ⟨-, -, -, others, -⟩ := threeFrames_spec s i a
  refine others _ ?_ ?_ ?_ <;> rintro ⟨⟩ <;> exact hk (by decide)

theorem supervisorReads_eq (s : State) (i : SeatId) (f : SeatFrame) (c : FrameClass) : s.supervisorReads i f c =
    if isToggle c s.mute[i].hold s.seats[i].lastAudio f.audio then (threeFrames (s.countToggle i) i f.audio).chatterTest i f.audio
    else threeFrames s i f.audio := by
  unfold State.supervisorReads threeFrames
  dsimp only
  split <;> rfl

theorem supervised_supervisorReads (s : State) (i : SeatId) (f : SeatFrame) (c : FrameClass) :
    Supervised i f.audio (isToggle c s.mute[i].hold s.seats[i].lastAudio f.audio) s (s.supervisorReads i f c) := by
  rw [supervisorReads_eq]
  cases toggle : isToggle c s.mute[i].hold s.seats[i].lastAudio f.audio with
  | false =>
    rw [if_neg (show ¬false = true by decide)]
    obtain ⟨voice, opened, muted, -, mute⟩ := threeFrames_spec s i f.audio
    exact ⟨voice, opened, muted, grade_threeFrames (by decide), _, _, by
      rw [mute, get_set_self]
      rfl⟩
  | true =>
    rw [if_pos rfl]
    obtain ⟨⟨counted, uncounted⟩, countMute⟩ := countToggle_spec s i
    obtain ⟨voice, opened, muted, others, mute⟩ := threeFrames_spec (s.countToggle i) i f.audio
    obtain ⟨⟨tested, untested⟩, testedMute⟩ := chatterTest_spec (threeFrames (s.countToggle i) i f.audio) i f.audio
    have countParams : (s.countToggle i).params = s.params := frame_countToggle i .params (by decide)
    have params : (threeFrames (s.countToggle i) i f.audio).params = s.params :=
      ((frame_floorFrame i _ .params (by decide)).trans ((frame_openFrame i _ .params (by decide)).trans
        (frame_voiceFrame i _ .params (by decide)))).trans countParams
    rw [countMute, get_set_self, set_set_self, countParams] at mute
    rw [countMute, get_set_self] at opened muted
    rw [countParams] at opened
    rw [uncounted (.seat i .voiceInMute) nofun] at voice mute
    rw [uncounted (.seat i .openNoFloor) nofun] at opened mute
    rw [uncounted (.seat i .floorMuted) nofun] at muted mute
    rw [mute, get_set_self, params, grade_threeFrames (by decide), counted] at tested
    refine ⟨?_, ?_, ?_, ?_, (countedMute s.mute[i]).pattern, (countedMute s.mute[i]).order, ?_⟩
    · exact (untested (.seat i .voiceInMute) nofun).trans voice
    · exact ((untested (.seat i .openNoFloor) nofun).trans opened).trans (openGrade_counted _)
    · exact ((untested (.seat i .floorMuted) nofun).trans muted).trans (floorGrade_counted _)
    · exact tested
    · rw [if_pos rfl, testedMute, mute, get_set_self]
      rfl

theorem grade_supervisorReads {k : SeatKind} (hk : k ∉ supervisedKinds) :
    grade ((s.supervisorReads i f c).slot (.seat i k)) = grade (s.slot (.seat i k)) := by
  have ne {k'} (hk' : k' ∈ supervisedKinds) : Source.seat i k ≠ .seat i k' := by
    rintro ⟨⟩
    exact hk hk'
  have three : k ∉ [SeatKind.voiceInMute, .openNoFloor, .floorMuted] := fun h => hk
    (show k ∈ [SeatKind.voiceInMute, .openNoFloor, .floorMuted] ++ [.muteChatter] from List.mem_append_left _ h)
  rw [supervisorReads_eq]
  split
  · rw [(chatterTest_spec _ i f.audio).1.2 _ (ne (by decide)), grade_threeFrames three,
      (countToggle_spec s i).1.2 _ (ne (by decide))]
  · exact grade_threeFrames three

/-! ## What the obligations say of it -/

theorem isToggle_eq (c : FrameClass) (hold : MuteHold) (last : Option AudioState) (a : AudioState) : isToggle c hold last a =
    (!c.isAppearance && decide (hold = .none) && last.any fun x => (x.isMuted && a.isLive) || (x.isLive && a.isMuted)) := by
  cases last <;> rfl

theorem isRaised_voiceGrade {g : Grade} {sev : Severity} (h : g = .raised sev) : voiceGrade a g = g := by rw [h]; rfl

theorem slotStays_of_grade {src : Source} (h : grade (t.slot src) = grade (s.slot src)) : SlotStays s t src :=
  ⟨severity?_of_grade h, isQualifying_of_grade h⟩

/-- Counting a toggle leaves what the three conditions read and their timers. -/
theorem counted_fields (toggle : Bool) (m : Mute) : ∃ n w,
    (if toggle then countedMute m else m) = { m with toggles := n, chatterWindow := w } ∧
    n = (if toggle then (if m.chatterWindow = none then 1 else min 15 (m.toggles + 1)) else m.toggles) ∧
    w = (if toggle = true ∧ m.chatterWindow = none then some 100 else m.chatterWindow) := by
  cases toggle
  · exact ⟨_, _, rfl, rfl, (if_neg fun h => by cases h.1).symm⟩
  · refine ⟨_, _, countedMute_eq m, rfl, ?_⟩
    simp only [true_and]

/-- The frame is a toggle (R99). -/
def togglesAt (s : State) (i : SeatId) (a : AudioState) (appearance : Bool) : Bool :=
  !appearance && decide (s.mute[i].hold = .none) &&
    s.seats[i].lastAudio.any fun x => (x.isMuted && a.isLive) || (x.isLive && a.isMuted)

theorem grade_of_clear {x : Slot} (h : x = .clear) : grade x = .clear := grade_eq_clear.2 h

theorem grade_of_qualifying {x : Slot} (h : x = .qualifying) : grade x = .qualifying := grade_eq_qualifying.2 h

theorem grade_of_isRaised {x : Slot} (h : x.isRaised = true) : ∃ sev, grade x = .raised sev := by
  obtain ⟨r, rfl⟩ := isRaised_iff.1 h
  exact ⟨_, rfl⟩

/-- Off CLEAR a grade is one of a condition at work. -/
theorem openGrade_of_set {g : Grade} (h : g ≠ .clear) : openGrade a ps m g = (if a.isMuted then .clear else g) ∧
    graceTimer a ps m g = (if a.isMuted then none else m.openGrace) ∧ autoHolds a ps m g = false := by
  cases g with
  | clear => exact absurd rfl h
  | _ => exact ⟨rfl, rfl, rfl⟩

theorem floorGrade_of_set {g : Grade} (h : g ≠ .clear) (q : Nat) : floorGrade a m g = (if a.isLive then .clear else g) ∧
    floorTimer a q m g = if a.isLive then none else m.floorMutedQualify := by
  cases g with
  | clear => exact absurd rfl h
  | _ => exact ⟨rfl, rfl⟩

theorem not_isLive_of_isMuted (h : a.isMuted = true) : a.isLive = false := by cases a <;> first | rfl | cases h

def qualifies : Grade → Bool
  | .qualifying => true
  | _ => false

theorem isQualifying_eq (x : Slot) : x.isQualifying = qualifies (grade x) := by cases x <;> rfl

theorem countedMute_toggles (m : Mute) :
    (countedMute m).toggles = if m.chatterWindow = none then 1 else min 15 (m.toggles + 1) := by rw [countedMute_eq]

/-- The grade of MUTE_CHATTER after a toggle: raised where the count has come to the threshold, else at work where the window
starts. -/
theorem chatterGrade_counted (threshold : Nat) (m : Mute) (g : Grade) :
    (chatterGrade threshold (countedMute m) (countedGrade m g)).severity?.isSome =
      (g.severity?.isSome || decide (threshold ≤ (countedMute m).toggles)) ∧
    ((chatterGrade threshold (countedMute m) (countedGrade m g)).severity?.isSome = false →
      qualifies (chatterGrade threshold (countedMute m) (countedGrade m g)) =
        (qualifies g || decide (m.chatterWindow = none))) := by
  cases g with
  | raised sev =>
    have stays : chatterGrade threshold (countedMute m) (countedGrade m (.raised sev)) = .raised sev := if_neg fun h => by cases h.2
    rw [stays]
    exact ⟨rfl, nofun⟩
  | clear =>
    by_cases window : m.chatterWindow = none <;> by_cases reached : threshold ≤ (countedMute m).toggles <;>
      simp [chatterGrade, countedGrade, window, reached, Grade.severity?, qualifies]
  | qualifying =>
    by_cases reached : threshold ≤ (countedMute m).toggles <;>
      simp [chatterGrade, countedGrade, reached, Grade.severity?, qualifies]

theorem autoHolds_iff {g : Grade} : autoHolds a ps m g = true ↔ g = .clear ∧ a.isLive = true ∧ m.floor = false ∧
    ps.openGrace = 0 ∧ ps.autoMute = true ∧ m.hold = .none := by
  cases g with
  | clear =>
    simp only [autoHolds, opensAtOnce, Bool.and_eq_true, Bool.not_eq_true', decide_eq_true_eq, beq_iff_eq, true_and, and_assoc]
  | _ => exact ⟨nofun, nofun⟩

/-- A frame of the muted group holds no seat. -/
theorem held_of_isMuted (h : a.isMuted = true) {g : Grade} : a.isLive = false ∧ autoHolds a ps m g = false := by
  have dead := not_isLive_of_isMuted h
  refine ⟨dead, Bool.eq_false_iff.2 fun held => ?_⟩
  rw [(autoHolds_iff.1 held).2.1] at dead
  cases dead

theorem chatter_of_supervised {toggle : Bool} (h : Supervised i a toggle s t) (count : t.mute[i].toggles = if toggle then
    (if s.mute[i].chatterWindow = none then 1 else min 15 (s.mute[i].toggles + 1)) else s.mute[i].toggles) :
    (t.slot (.seat i .muteChatter)).isRaised = ((s.slot (.seat i .muteChatter)).isRaised ||
      (toggle && decide (s.params.chatterThreshold ≤ t.mute[i].toggles))) ∧
    ((t.slot (.seat i .muteChatter)).isRaised = false → (t.slot (.seat i .muteChatter)).isQualifying =
      ((s.slot (.seat i .muteChatter)).isQualifying || (toggle && decide (s.mute[i].chatterWindow = none)))) := by
  have chatter := h.chatter
  cases toggle with
  | false =>
    rw [if_neg (by decide)] at chatter
    rw [isRaised_of_grade chatter, isQualifying_of_grade chatter]
    simp only [Bool.false_and, Bool.or_false, implies_true, and_self]
  | true =>
    rw [if_pos rfl] at chatter count
    rw [count, ← countedMute_toggles, isRaised_eq, isQualifying_eq, isRaised_eq, isQualifying_eq, chatter]
    exact chatterGrade_counted _ _ _

theorem supervisorReads_of_supervised {appearance : Bool} (h : Supervised i a (togglesAt s i a appearance) s t) :
    SupervisorReads s t i a appearance := by
  obtain ⟨voice, opened, muted, -, pattern, order, mute⟩ := id h
  obtain ⟨n, w, counted, hn, hw⟩ := counted_fields (togglesAt s i a appearance) s.mute[i]
  rw [counted] at mute
  have toggles : t.mute[i].toggles = n := congrArg Mute.toggles mute
  have window : t.mute[i].chatterWindow = w := congrArg Mute.chatterWindow mute
  have voiceQualify : t.mute[i].voiceQualify = voiceTimer a s.params.voiceQualify s.mute[i].voiceQualify
    (grade (s.slot (.seat i .voiceInMute))) := congrArg Mute.voiceQualify mute
  have voiceEnd : t.mute[i].voiceEnd = voiceEndTimer a s.mute[i].voiceEnd (grade (s.slot (.seat i .voiceInMute))) :=
    congrArg Mute.voiceEnd mute
  have openGrace : t.mute[i].openGrace = graceTimer a s.params s.mute[i] (grade (s.slot (.seat i .openNoFloor))) :=
    congrArg Mute.openGrace mute
  have hold : t.mute[i].hold = if autoHolds a s.params s.mute[i] (grade (s.slot (.seat i .openNoFloor))) then .auto
    else s.mute[i].hold := congrArg Mute.hold mute
  have floorMutedQualify : t.mute[i].floorMutedQualify =
      if autoHolds a s.params s.mute[i] (grade (s.slot (.seat i .openNoFloor))) then none
      else floorTimer a s.params.floorMutedQualify s.mute[i] (grade (s.slot (.seat i .floorMuted))) :=
    congrArg Mute.floorMutedQualify mute
  obtain ⟨chatterRaised, chatterIdle⟩ := chatter_of_supervised h (toggles.trans hn)
  refine ⟨toggles.trans hn, window.trans hw, chatterRaised, chatterIdle, ?_⟩
  refine ⟨fun idle heard => ?_, fun idle other => ?_, fun works heard => ?_, fun works other => ?_, fun raised => ?_,
    fun idle live without grace => ?_, fun idle live without grace => ?_, fun idle covered => ?_, fun works quiet => ?_,
    fun works live => ?_, ?_, fun idle quiet held free => ?_, fun idle covered => ?_, fun works live => ?_,
    fun works quiet => ?_⟩
  · rw [grade_of_clear idle] at voice voiceQualify
    exact ⟨grade_eq_qualifying.1 (voice.trans (if_pos heard)), voiceQualify.trans (if_pos heard)⟩
  · rw [grade_of_clear idle] at voice voiceQualify
    exact ⟨grade_eq_clear.1 (voice.trans (if_neg other)), voiceQualify.trans (if_neg other)⟩
  · rw [grade_of_qualifying works] at voice voiceQualify
    exact ⟨grade_eq_qualifying.1 (voice.trans (if_pos heard)), voiceQualify.trans (if_pos heard)⟩
  · rw [grade_of_qualifying works] at voice voiceQualify
    exact ⟨grade_eq_clear.1 (voice.trans (if_neg other)), voiceQualify.trans (if_neg other)⟩
  · obtain ⟨sev, was⟩ := grade_of_isRaised raised
    rw [was] at voiceEnd
    exact ⟨slotStays_of_grade (voice.trans (isRaised_voiceGrade was)), voiceEnd⟩
  · have late : opensAtOnce a s.params s.mute[i] = false := by
      rw [opensAtOnce, live, without, decide_eq_false (by omega)]; rfl
    rw [grade_of_clear idle] at opened openGrace
    simp only [openGrade, graceTimer, late, live, without, Bool.false_eq_true, if_false, Bool.not_false, Bool.and_self, if_true]
      at opened openGrace
    exact ⟨grade_eq_qualifying.1 opened, openGrace⟩
  · have once : opensAtOnce a s.params s.mute[i] = true := by rw [opensAtOnce, live, without, decide_eq_true grace]; rfl
    rw [grade_of_clear idle, openGrade, if_pos once] at opened
    rw [severity?_eq, opened]
    rfl
  · have shut : (a.isLive && !s.mute[i].floor) = false := by
      rcases covered with quiet | held
      · rw [not_isLive_of_isMuted quiet]; rfl
      · rw [held, Bool.not_true, Bool.and_false]
    have late : opensAtOnce a s.params s.mute[i] = false := by rw [opensAtOnce, shut]; rfl
    rw [grade_of_clear idle] at opened
    simp only [openGrade, late, shut, Bool.false_eq_true, if_false] at opened
    exact grade_eq_clear.1 opened
  · obtain ⟨grade', timer, -⟩ := openGrade_of_set (a := a) (ps := s.params) (m := s.mute[i]) fun h => works (grade_eq_clear.1 h)
    exact ⟨grade_eq_clear.1 ((opened.trans grade').trans (if_pos quiet)), (openGrace.trans timer).trans (if_pos quiet)⟩
  · obtain ⟨grade', timer, -⟩ := openGrade_of_set (a := a) (ps := s.params) (m := s.mute[i]) fun h => works (grade_eq_clear.1 h)
    have unmuted : ¬a.isMuted = true := by rw [not_isMuted_of_isLive live]; decide
    exact ⟨slotStays_of_grade ((opened.trans grade').trans (if_neg unmuted)), (openGrace.trans timer).trans (if_neg unmuted)⟩
  · rw [hold]
    refine if_congr ?_ rfl rfl
    rw [autoHolds_iff, grade_eq_clear]
  · rw [grade_of_clear idle, floorGrade, if_pos (by rw [quiet, held, free]; rfl)] at muted
    obtain ⟨-, unheld⟩ := held_of_isMuted quiet
    rw [unheld, if_neg (by decide), grade_of_clear idle, floorTimer, if_pos (by rw [quiet, held, free]; rfl)]
      at floorMutedQualify
    exact ⟨grade_eq_qualifying.1 muted, floorMutedQualify⟩
  · rw [grade_of_clear idle, floorGrade, if_neg] at muted
    · exact grade_eq_clear.1 muted
    · rw [Bool.and_eq_true, Bool.and_eq_true, beq_iff_eq]
      rintro ⟨⟨quiet, held⟩, free⟩
      rcases covered with live | without | held'
      · rw [not_isMuted_of_isLive live] at quiet
        cases quiet
      · rw [without] at held
        cases held
      · exact held' free
  · obtain ⟨grade', timer⟩ := floorGrade_of_set (a := a) (m := s.mute[i]) (fun h => works (grade_eq_clear.1 h))
      s.params.floorMutedQualify
    rw [timer, if_pos live, ite_self] at floorMutedQualify
    exact ⟨grade_eq_clear.1 ((muted.trans grade').trans (if_pos live)), floorMutedQualify⟩
  · obtain ⟨grade', timer⟩ := floorGrade_of_set (a := a) (m := s.mute[i]) (fun h => works (grade_eq_clear.1 h))
      s.params.floorMutedQualify
    have dead : ¬a.isLive = true := by rw [not_isLive_of_isMuted quiet]; decide
    rw [(held_of_isMuted quiet).2, if_neg (by decide), timer, if_neg dead] at floorMutedQualify
    exact ⟨slotStays_of_grade ((muted.trans grade').trans (if_neg dead)), floorMutedQualify⟩

end Sys2Proof.Machine.SeatWork
end

section
/-! PROOFS. A settled frame of a bound seat: it is discarded by its class, or accepted; what acceptance leaves of the seat, step
by step (R13, R14). -/

namespace Sys2Proof.Machine.SeatWork

open Sys2Proof Sys2Proof.Machine Sys2Proof.Machine.Laws Sys2Proof.Machine.SlotGrades Sys2Proof.Machine.SyncRecords
open Sys2Proof.Machine.TableMoves Sys2Proof.Machine.QueueOps

variable {s t u : State} {o : OpenFrame} {i : SeatId} {f : SeatFrame} {c : FrameClass} {d : Nat}

/-! ## An open frame that settles (R50, R3) -/

/-- The state without an open frame. -/
def withoutFrame (s : State) (o : OpenFrame) : State := { s with openFrames := openFramesWithout s o }

theorem openFrame?_of_stands (h : Stands s o) : s.openFrame? (OpenFrame.key o) = some o := by
  obtain ⟨present, only⟩ := h
  cases found : s.openFrame? (OpenFrame.key o) with
  | none => exact absurd rfl (openFrame?_eq_none found present)
  | some x =>
    have same : (OpenFrame.key x == OpenFrame.key o) = true := List.find?_some (p := fun y => OpenFrame.key y == _) found
    rw [only x (List.mem_of_find?_eq_some found) (beq_iff_eq.1 same)]

theorem exec_windowExpiry (h : Stands s o) :
    exec (.mergeWindowExpiry (OpenFrame.key o)) s = .next (s.settle o).evalOutputs := by
  have found := openFrame?_of_stands h
  have expires : s.windowExpires (OpenFrame.key o) = s.settle o := by rw [State.windowExpires, found]
  rw [← expires]
  exact congrArg Host.Outcome.next (if_pos (by rw [found]; rfl))

theorem seatOf_of_boundTo {r : RadioId} (h : BoundTo s r i) : s.seatOf r = some i := by
  obtain ⟨-, -, own, single⟩ := h
  cases found : s.seatOf r with
  | none => exact absurd own (seatOf_eq_none found i)
  | some j =>
    have radio : (s.seats[j].radio == some r) = true := List.find?_some (p := fun k : SeatId => s.seats[k].radio == some r) found
    rw [single j (beq_iff_eq.1 radio)]

theorem settle_of_boundTo (h : BoundTo s o.payload.radio i) :
    s.settle o = (withoutFrame s o).seatFrame i o.settled.read := by
  have valid : (!validRadio o.payload.radio) = false := by
    obtain ⟨nonzero, ordinary, -⟩ := h
    simp only [validRadio, Bool.not_eq_false', Bool.and_eq_true, bne_iff_ne]
    exact ⟨nonzero, ordinary⟩
  have seat : (withoutFrame s o).seatOf o.payload.radio = some i := seatOf_of_boundTo h
  unfold State.settle State.settledFrame
  show (if (!validRadio o.payload.radio) = true then _ else match (withoutFrame s o).seatOf o.payload.radio with
    | some i => (withoutFrame s o).seatFrame i o.settled.read
    | none => (withoutFrame s o).strangerFrame o.settled) = _
  rw [valid, seat]
  rfl

theorem frame_settled (h : ChangesOnly [.openFrames] s t) {W : List Block} (k : ChangesOnly W t u) (out : ∀ b ∈ W, b ∈
    [Block.openFrames, .seats, .battery, .signal, .mute, .links, .alerts, .attention, .queue, .syncs, .markers]) :
    ChangesOnly [.openFrames, .seats, .battery, .signal, .mute, .links, .alerts, .attention, .queue, .syncs, .markers,
      .reminders, .lamps] s u.evalOutputs := by
  refine frame_then (frame_then (frame_mono h ?_) k fun b hb => ?_) frame_evalOutputs (by decide)
  · decide
  · exact List.mem_append_left [.reminders, .lamps] (out b hb)

theorem frame_withoutFrame (s : State) (o : OpenFrame) : ChangesOnly [.openFrames] s (withoutFrame s o) := fun b hb => by
  cases b <;> first | rfl | exact absurd (by decide) hb

/-! ## The class of a frame (R13) -/

theorem classify_appearance (bound : s.seats[i].state ≠ .vacant) {boot : BitVec 8} {frame : BitVec 16}
    (fresh : s.seats[i].state = .awaiting ∨ s.seats[i].lastBoot ≠ some boot) : s.seats[i].classify boot frame = .appearance := by
  unfold SeatRec.classify
  cases state : s.seats[i].state with
  | vacant => exact absurd state bound
  | awaiting => rfl
  | _ =>
    have other : s.seats[i].lastBoot ≠ some boot := fresh.resolve_left (by rw [state]; decide)
    exact if_neg other

theorem classify_of_hears (h : Hears s i) {boot : BitVec 8} {frame last : BitVec 16} (same : s.seats[i].lastBoot = some boot)
    (known : s.seats[i].lastFrame = some last) : s.seats[i].classify boot frame = classOfDelta (frame - last).toNat := by
  unfold SeatRec.classify
  rcases h with state | state | state <;> rw [state, known] <;> exact if_pos same

theorem classOfDelta_normal (ahead : 0 < d) (near : d < 32768) : classOfDelta d = .normal d := by
  rw [classOfDelta, if_neg (by omega), if_neg (by omega)]

theorem seatFrame_of_discarded (h : s.seats[i].classify f.boot f.frame = .duplicate ∨
    s.seats[i].classify f.boot f.frame = .stale ∨ s.seats[i].classify f.boot f.frame = .ignored) : s.seatFrame i f = s := by
  unfold State.seatFrame
  rcases h with h | h | h <;> rw [h]

theorem seatFrame_of_appearance (h : s.seats[i].classify f.boot f.frame = .appearance) :
    s.seatFrame i f = s.accept i f .appearance := by
  unfold State.seatFrame
  rw [h]

theorem seatFrame_of_normal (h : s.seats[i].classify f.boot f.frame = .normal d) :
    s.seatFrame i f = s.accept i f (.normal d) := by
  unfold State.seatFrame
  rw [h]

/-- Settles O19: such a frame's class is one that is discarded. -/
theorem repeatedFramesDiscarded : Obligations.RepeatedFramesDiscarded := by
  intro s o i stands bound boot old
  have discarded : (withoutFrame s o).seatFrame i o.settled.read = withoutFrame s o := by
    refine seatFrame_of_discarded ?_
    rcases old with refused | ⟨hears, last, known, delta⟩
    · refine .inr (.inr ?_)
      show s.seats[i].classify o.payload.boot o.payload.frame = .ignored
      rw [SeatRec.classify, refused]
      exact if_pos boot
    · have class' : s.seats[i].classify o.payload.boot o.payload.frame = _ := classify_of_hears hears boot known
      show s.seats[i].classify o.payload.boot o.payload.frame = .duplicate ∨
        s.seats[i].classify o.payload.boot o.payload.frame = .stale ∨ _
      rw [class', classOfDelta]
      rcases delta with zero | far
      · exact .inl (if_pos zero)
      · refine .inr (.inl ?_)
        rw [if_neg (by omega), if_pos far]
  refine ⟨_, exec_windowExpiry stands, ?_⟩
  rw [settle_of_boundTo bound, discarded]
  exact ⟨rfl, frame_then (frame_mono (frame_withoutFrame s o) (by decide)) frame_evalOutputs (by decide)⟩

end Sys2Proof.Machine.SeatWork
end

section
/-! PROOFS. The tables of a seat after an accepted frame: the acceptance fields, the seat state, what the evaluators leave, and
the indicator (R14 to R22). -/

namespace Sys2Proof.Machine.SeatWork

open Sys2Proof Sys2Proof.Machine Sys2Proof.Machine.Laws Sys2Proof.Machine.SlotGrades Sys2Proof.Machine.SyncRecords
open Sys2Proof.Machine.Runs

variable {s t u : State} {o : OpenFrame} {i : SeatId} {f : SeatFrame} {c : FrameClass} {d : Nat}

/-! ## Up to the seat state -/

/-- The seat record with the acceptance fields of a frame. -/
def acceptedRec (q : SeatRec) (f : SeatFrame) (clock : Stamp) : SeatRec :=
  { q with lastBoot := some f.boot, lastFrame := some f.frame, bestLink := some f.bestLink, copies := f.copies,
           lastHeard := some clock }

theorem received_seats (s : State) (i : SeatId) (f : SeatFrame) (c : FrameClass) :
    (received s i f c).seats = s.seats.set i (acceptedRec s.seats[i] f s.clock) := by
  unfold received
  split
  · rfl
  · rw [show (State.readEcho _ i f.echo).seats = _ from frame_readEcho i f.echo .seats (by decide)]
    rfl

theorem frame_received (c : FrameClass) : ChangesOnly (.seats :: queueBlocks) s (received s i f c) :=
  frame_ite (frame_mono (frame_acceptFields i f) (by decide))
    (frame_then (frame_mono (frame_acceptFields i f) (by decide)) (frame_readEcho i _) (by decide))

/-- The frame up to the close of a loss. -/
def unlost (s : State) (i : SeatId) (f : SeatFrame) (c : FrameClass) : State := (received s i f c).endLossIfLost i

theorem unlost_seats (s : State) (i : SeatId) (f : SeatFrame) (c : FrameClass) :
    (unlost s i f c).seats = s.seats.set i (acceptedRec s.seats[i] f s.clock) :=
  (endLossIfLost_seats _ i).trans (received_seats s i f c)

theorem unlost_seat (s : State) (i : SeatId) (f : SeatFrame) (c : FrameClass) :
    (unlost s i f c).seats[i] = acceptedRec s.seats[i] f s.clock := by rw [unlost_seats, get_set_self]

theorem unlost_state (s : State) (i : SeatId) (f : SeatFrame) (c : FrameClass) :
    (unlost s i f c).seats[i].state = s.seats[i].state := by rw [unlost_seat]; rfl

theorem frame_unlost (c : FrameClass) : ChangesOnly [.seats, .signal, .links, .alerts, .attention, .queue, .syncs, .markers] s
    (unlost s i f c) :=
  frame_then (frame_mono (frame_received c) (by decide)) (W := [.seats, .signal, .links, .alerts, .attention, .queue, .syncs,
    .markers]) (frame_ite (frame_endLoss i) frame_refl) (by decide)

theorem unlost_of_not_lost (h : s.seats[i].state ≠ .lost) : unlost s i f c = received s i f c := by
  refine endLossIfLost_of_not ?_
  rw [received_seats, get_set_self]
  exact h

theorem unlost_signal (s : State) (i : SeatId) (f : SeatFrame) (c : FrameClass) : (unlost s i f c).signal = s.signal.set i
    (if s.seats[i].state = .lost then { s.signal[i] with cause := .none, lossStart := none, grace := none }
     else s.signal[i]) := by
  have signal : (received s i f c).signal = s.signal := frame_received c .signal (by decide)
  rw [unlost, endLossIfLost_signal, received_seats, get_set_self, signal]
  rfl

/-- The frame up to the seat state (R14, step 3). -/
def stepped (s : State) (i : SeatId) (f : SeatFrame) (c : FrameClass) : State := (received s i f c).seatStep i f c

theorem stepped_appear (window : f.inWindow = true) : stepped s i f .appearance = (unlost s i f .appearance).appear i f :=
  if_pos window

theorem stepped_refuse (window : f.inWindow = false) : stepped s i f .appearance = (unlost s i f .appearance).refuse i f :=
  if_neg (by rw [window]; decide)

theorem stepped_normal : stepped s i f (.normal d) = (unlost s i f (.normal d)).normalFrame i f := rfl

/-- Without a loss to close, no link changes up to the seat state. -/
theorem stepped_links (h : s.seats[i].state ≠ .lost) (c : FrameClass) : (stepped s i f c).links = s.links := by
  have received' : (received s i f c).links = s.links := frame_received c .links (by decide)
  have step : (stepped s i f c).links = (unlost s i f c).links := by
    show (if c.isAppearance then (if f.inWindow then (unlost s i f c).appear i f else (unlost s i f c).refuse i f)
      else (unlost s i f c).normalFrame i f).links = _
    split
    · split
      · exact frame_appear_sections _ i f .links (by decide)
      · exact frame_refuse_sections _ i f .links (by decide)
    · exact frame_normalFrame_sections _ i f .links (by decide)
  rw [step, unlost_of_not_lost h, received']

/-! ## From the seat state on -/

/-- The frame from the evaluators on (R14, steps 4 to 6). -/
def concluded (u : State) (i : SeatId) (f : SeatFrame) (c : FrameClass) : State :=
  ((u.evaluators i f c).takeAudio i f).indicator i

theorem accept_eq_concluded (s : State) (i : SeatId) (f : SeatFrame) (c : FrameClass) :
    s.accept i f c = concluded (stepped s i f c) i f c := rfl

theorem frame_evaluators_sections (f : SeatFrame) (c : FrameClass) :
    ChangesOnly [.battery, .signal, .mute, .alerts, .attention] s (s.evaluators i f c) := by
  unfold State.evaluators
  split
  · refine frame_then (W := [.battery, .signal, .mute, .alerts, .attention]) ?_ (frame_supervisorReads i f c) (by decide)
    exact frame_then (frame_mono (frame_gaugeReads i f c) (by decide)) (frame_monitorReads i f c) (by decide)
  · exact frame_mono (frame_gaugeReads i f c) (by decide)
  all_goals exact frame_refl

theorem frame_concluded (f : SeatFrame) (c : FrameClass) : ChangesOnly [.seats, .battery, .signal, .mute, .alerts, .attention,
    .queue, .syncs] s (concluded s i f c) :=
  frame_then (frame_then (frame_mono (frame_evaluators_sections f c) (by decide)) (frame_takeAudio i f) (by decide))
    (frame_indicator i) (by decide)

theorem concluded_seats (u : State) (i : SeatId) (f : SeatFrame) (c : FrameClass) :
    (concluded u i f c).seats = u.seats.set i { u.seats[i] with lastAudio := some f.audio } := by
  rw [concluded, indicator_seats, State.takeAudio, modSeat_seats,
    show (u.evaluators i f c).seats = u.seats from frame_evaluators_sections f c .seats (by decide)]

theorem concluded_signal (u : State) (i : SeatId) (f : SeatFrame) (c : FrameClass) :
    (concluded u i f c).signal = (u.evaluators i f c).signal := by
  rw [concluded, show (State.indicator _ i).signal = _ from frame_indicator i .signal (by decide), State.takeAudio,
    modSeat_signal]

theorem concluded_battery (u : State) (i : SeatId) (f : SeatFrame) (c : FrameClass) :
    (concluded u i f c).battery = (u.evaluators i f c).battery := by
  rw [concluded, show (State.indicator _ i).battery = _ from frame_indicator i .battery (by decide), State.takeAudio,
    modSeat_battery]

theorem concluded_alerts (u : State) (i : SeatId) (f : SeatFrame) (c : FrameClass) :
    (concluded u i f c).alerts = (u.evaluators i f c).alerts := by
  rw [concluded, show (State.indicator _ i).alerts = _ from frame_indicator i .alerts (by decide), State.takeAudio,
    modSeat_alerts]

theorem evaluators_of_active (h : u.seats[i].state = .active) :
    u.evaluators i f c = ((u.gaugeReads i f c).monitorReads i f c).supervisorReads i f c := by
  rw [State.evaluators, h]

theorem evaluators_of_standby (h : u.seats[i].state = .standby) : u.evaluators i f c = u.gaugeReads i f c := by
  rw [State.evaluators, h]

theorem evaluators_of_refused (h : u.seats[i].state = .refused) : u.evaluators i f c = u := by
  rw [State.evaluators, h]

theorem concluded_signal_of_active (h : u.seats[i].state = .active) : (concluded u i f c).signal[i] = { u.signal[i] with
    strength := some (smoothed u.signal[i] f)
    weakStreak := weakAfter u.params.weakThreshold (u.slot (.seat i .signalWeak)).isRaised (smoothed u.signal[i] f)
      u.signal[i].weakStreak
    history := pushSlots u.signal[i].history (slotsOf c) } := by
  have signal : (u.gaugeReads i f c).signal = u.signal := frame_gaugeReads i f c .signal (by decide)
  have params : (u.gaugeReads i f c).params = u.params := frame_gaugeReads i f c .params (by decide)
  rw [concluded_signal, evaluators_of_active h, show (State.supervisorReads _ i f c).signal = _ from
    frame_supervisorReads i f c .signal (by decide), monitorReads_signal, get_set_self, signal, params,
    isRaised_of_grade (grade_gaugeReads (o := .seat i .signalWeak) nofun)]

theorem concluded_signal_of_standby (h : u.seats[i].state = .standby) : (concluded u i f c).signal = u.signal := by
  rw [concluded_signal, evaluators_of_standby h]
  exact frame_gaugeReads i f c .signal (by decide)

/-- The Gauge reads the frame of a seat that is ACTIVE or STANDBY. -/
theorem concluded_battery_of_heard (h : u.seats[i].state = .active ∨ u.seats[i].state = .standby) :
    (concluded u i f c).battery = (u.gaugeReads i f c).battery := by
  rw [concluded_battery]
  rcases h with h | h
  · rw [evaluators_of_active h, show (State.supervisorReads _ i f c).battery = _ from
      frame_supervisorReads i f c .battery (by decide)]
    exact frame_monitorReads i f c .battery (by decide)
  · rw [evaluators_of_standby h]

theorem sample_cls_level (b : Battery) (level : Nat) : (b.sample level).cls = b.cls ∧ (b.sample level).level = b.level := by
  unfold Battery.sample
  split <;> exact ⟨rfl, rfl⟩

theorem read_cls_level (b : Battery) (ps : Params) (f : SeatFrame) (c : FrameClass) :
    (b.read ps f c).cls = f.cls ∧ (b.read ps f c).level = some f.level := by
  unfold Battery.read
  dsimp only [Battery.runTests, Battery.withMinutes]
  split
  · exact ⟨rfl, rfl⟩
  · split
    · exact ⟨rfl, rfl⟩
    · exact sample_cls_level _ _

theorem gaugeReads_cls_level (s : State) (i : SeatId) (f : SeatFrame) (c : FrameClass) :
    (s.gaugeReads i f c).battery[i].cls = f.cls ∧ (s.gaugeReads i f c).battery[i].level = some f.level := by
  rw [(gaugeReads_spec s i f c).2, get_set_self]
  exact read_cls_level _ _ f c

/-- The evaluators leave every condition that none of them keeps. -/
theorem grade_concluded {k : SeatKind} (hk : k = .formatRefused ∨ k = .signalLoss) :
    grade ((concluded u i f c).slot (.seat i k)) = grade (u.slot (.seat i k)) := by
  have unsupervised : k ∉ supervisedKinds := by rcases hk with rfl | rfl <;> decide
  have ne {k'} (other : k' ∉ [SeatKind.formatRefused, .signalLoss]) : Source.seat i k ≠ .seat i k' := by
    rintro ⟨⟩
    rcases hk with rfl | rfl <;> exact other (by decide)
  rw [slot_of_alerts (concluded_alerts u i f c)]
  unfold State.evaluators
  split
  · rw [grade_supervisorReads unsupervised, (monitorReads_grade _ i f c).2.2 _ (ne (by decide)) (ne (by decide)),
      grade_gaugeReads (ne (by decide))]
  · exact grade_gaugeReads (ne (by decide))
  all_goals rfl

theorem keepsOrders_concluded (f : SeatFrame) (c : FrameClass) : KeepsOrders u (concluded u i f c) :=
  KeepsOrders.trans (keepsOrders_of_frame (frame_then (W := [.seats, .battery, .signal, .mute, .alerts, .attention])
    (frame_mono (frame_evaluators_sections f c) (by decide)) (frame_takeAudio i f) (by decide)) (by decide))
    (keepsOrders_indicator i)

theorem owed_concluded (inactive : u.seats[i].state ≠ .active) (owed : u.syncs[i].owed = true) :
    (concluded u i f c).syncs[i].owed = true := by
  have frame : ChangesOnly [.seats, .battery, .signal, .mute, .alerts, .attention] u ((u.evaluators i f c).takeAudio i f) :=
    frame_then (frame_mono (frame_evaluators_sections f c) (by decide)) (frame_takeAudio i f) (by decide)
  refine owed_indicator ?_ ?_
  · rw [State.takeAudio, modSeat_seats, get_set_self,
      show (u.evaluators i f c).seats = u.seats from frame_evaluators_sections f c .seats (by decide)]
    exact inactive
  · rw [show ((u.evaluators i f c).takeAudio i f).syncs = u.syncs from frame .syncs (by decide)]
    exact owed

end Sys2Proof.Machine.SeatWork
end

section
/-! PROOFS. Appearances inside and outside the format window, and normal frames (O20 to O22). -/

namespace Sys2Proof.Machine.SeatWork

open Sys2Proof Sys2Proof.Machine Sys2Proof.Machine.Laws Sys2Proof.Machine.SlotGrades Sys2Proof.Machine.SyncRecords
open Sys2Proof.Machine.Runs Sys2Proof.Machine.QueueOps

variable {s t u : State} {o : OpenFrame} {i : SeatId} {f : SeatFrame} {c : FrameClass} {d : Nat} {b : Byte}

/-! ## The payload as it is read (R3) -/

theorem audioOfByte_standby : audioOfByte b = .standby ↔ b = 4 := by
  unfold audioOfByte
  constructor
  · intro h
    repeat' split at h
    all_goals first | assumption | cases h
  · rintro rfl
    rfl

theorem isLive_audioOfByte : (audioOfByte b).isLive = decide (b = 2 ∨ b = 3) := by
  unfold audioOfByte
  repeat' split
  all_goals first | subst b; rfl | simp_all [AudioState.isLive]

theorem read_standby_iff : o.settled.read.audio = .standby ↔ o.payload.audio = 4 := audioOfByte_standby

theorem target_read (o : OpenFrame) : o.settled.read.target = if o.payload.audio = 4 then .standby else .active :=
  if_congr read_standby_iff rfl rfl

/-! ## What step 3 leaves of the SYNC record -/

theorem forgotten_sync (u : State) (i : SeatId) : ((u.dropSyncsOwed i).forgetConfirmed i).syncs[i].owed = true ∧
    ((u.dropSyncsOwed i).forgetConfirmed i).syncs[i].confirmed = none := by
  rw [State.forgetConfirmed, modSync_syncs, get_set_self, State.dropSyncsOwed, modSync_syncs, get_set_self]
  exact ⟨rfl, rfl⟩

theorem refuse_sync (s : State) (i : SeatId) (f : SeatFrame) :
    (s.refuse i f).syncs[i].owed = true ∧ (s.refuse i f).syncs[i].confirmed = none := by
  have syncs : (s.refuse i f).syncs = (((s.departIfActive i).dropSyncsOwed i).forgetConfirmed i).syncs := by
    rw [show (s.refuse i f).syncs = _ from frame_refuse_refusing s i f .syncs (by decide), refusing,
      show (State.clearQuiet _ i).syncs = _ from frame_clearQuiet i .syncs (by decide), State.setSeatState, modSeat_syncs]
  rw [syncs]
  exact forgotten_sync _ i

theorem appear_sync (s : State) (i : SeatId) (f : SeatFrame) : (s.appear i f).syncs[i].confirmed = none := by
  have syncs : (s.appear i f).syncs = _ := frame_appear_appearing s i f .syncs (by decide)
  rw [syncs, appearing, show (State.clearQuiet _ i).syncs = _ from frame_clearQuiet i .syncs (by decide),
    show (State.endCondition _ _).syncs = _ from frame_endCondition _ .syncs (by decide)]
  exact (forgotten_sync _ i).2

/-! ## The whole event -/

theorem exec_appearance (stands : Stands s o) (bound : BoundTo s o.payload.radio i) (occupied : s.seats[i].state ≠ .vacant)
    (fresh : s.seats[i].state = .awaiting ∨ s.seats[i].lastBoot ≠ some o.payload.boot) :
    exec (.mergeWindowExpiry (OpenFrame.key o)) s =
      .next ((withoutFrame s o).accept i o.settled.read .appearance).evalOutputs := by
  rw [exec_windowExpiry stands, settle_of_boundTo bound, seatFrame_of_appearance]
  exact classify_appearance (s := s) occupied fresh

theorem exec_normal (stands : Stands s o) (bound : BoundTo s o.payload.radio i) (hears : Hears s i) {last : BitVec 16}
    (boot : s.seats[i].lastBoot = some o.payload.boot) (known : s.seats[i].lastFrame = some last)
    (ahead : 0 < (o.payload.frame - last).toNat) (near : (o.payload.frame - last).toNat < 32768) :
    exec (.mergeWindowExpiry (OpenFrame.key o)) s =
      .next ((withoutFrame s o).accept i o.settled.read (.normal (o.payload.frame - last).toNat)).evalOutputs := by
  rw [exec_windowExpiry stands, settle_of_boundTo bound, seatFrame_of_normal]
  exact (classify_of_hears (s := s) hears boot known).trans (classOfDelta_normal ahead near)

/-- What holds of every accepted frame. -/
theorem accepted_others (s : State) (o : OpenFrame) (i : SeatId) (c : FrameClass) :
    OtherSeatsSame i s ((withoutFrame s o).accept i o.settled.read c) ∧
    ((withoutFrame s o).accept i o.settled.read c).mute[i].floor = s.mute[i].floor ∧
    (s.seats[i].state ≠ .lost → ((withoutFrame s o).accept i o.settled.read c).links = s.links) ∧
    ChangesOnly [.openFrames, .seats, .battery, .signal, .mute, .links, .alerts, .attention, .queue, .syncs, .markers,
      .reminders, .lamps] s ((withoutFrame s o).accept i o.settled.read c).evalOutputs := by
  have own : AtSeat i (withoutFrame s o) ((withoutFrame s o).accept i o.settled.read c) := atSeat_accept _ c
  refine ⟨⟨own.seats, own.battery, own.signal, own.mute⟩, own.floor, fun kept => ?_,
    frame_settled (frame_withoutFrame s o) own.frame (by decide)⟩
  have links : (stepped (withoutFrame s o) i o.settled.read c).links = s.links := stepped_links (s := withoutFrame s o) kept c
  rw [accept_eq_concluded]
  exact (frame_concluded _ c .links (by decide)).trans links

theorem accept_openFrames (s : State) (o : OpenFrame) (i : SeatId) (f : SeatFrame) (c : FrameClass) :
    ((withoutFrame s o).accept i f c).openFrames = openFramesWithout s o := frame_accept i f c .openFrames (by decide)

/-! ## Refusals -/

theorem concluded_mute_of_refused (h : u.seats[i].state = .refused) :
    ∃ pattern order, (concluded u i f c).mute = u.mute.set i { u.mute[i] with pattern := pattern, order := order } := by
  rw [concluded, evaluators_of_refused h]
  exact ⟨_, _, indicator_mute (u.takeAudio i f) i⟩

theorem unlost_history_strength (s : State) (i : SeatId) (f : SeatFrame) (c : FrameClass) :
    (unlost s i f c).signal[i].history = s.signal[i].history ∧ (unlost s i f c).signal[i].strength = s.signal[i].strength ∧
    (unlost s i f c).signal[i].lossTimer = s.signal[i].lossTimer ∧
    (unlost s i f c).signal[i].weakStreak = s.signal[i].weakStreak := by
  rw [unlost_signal, get_set_self]
  split <;> exact ⟨rfl, rfl, rfl, rfl⟩

theorem frame_refused (window : f.inWindow = false) : ChangesOnly [.seats, .signal, .mute, .links, .alerts, .attention, .queue,
    .syncs, .markers] s (s.accept i f .appearance) := by
  have state : (stepped s i f .appearance).seats[i].state = .refused := by
    rw [stepped_refuse window, refuse_seats, get_set_self]
  rw [accept_eq_concluded, concluded, evaluators_of_refused state, stepped_refuse window]
  refine frame_then (W := [.seats, .signal, .mute, .links, .alerts, .attention, .queue, .syncs, .markers]) ?_
    (frame_indicator i) (by decide)
  refine frame_then (W := [.seats, .signal, .mute, .links, .alerts, .attention, .queue, .syncs, .markers]) ?_
    (frame_takeAudio i f) (by decide)
  exact frame_then (frame_mono (frame_unlost .appearance) (by decide)) (frame_refuse_sections _ i f) (by decide)

/-- The tables of a seat whose appearance has been refused, up to the seat state. -/
theorem stepped_refused (window : f.inWindow = false) :
    (stepped s i f .appearance).seats[i] = { acceptedRec s.seats[i] f s.clock with state := .refused, quiet := false } ∧
    ((stepped s i f .appearance).slot (.seat i .formatRefused)).isRaised = true ∧
    ((stepped s i f .appearance).syncs[i].owed = true ∧ (stepped s i f .appearance).syncs[i].confirmed = none) ∧
    ((stepped s i f .appearance).signal[i].history = s.signal[i].history ∧
      (stepped s i f .appearance).signal[i].strength = s.signal[i].strength) ∧
    (stepped s i f .appearance).mute[i].hold = s.mute[i].hold ∧ (stepped s i f .appearance).battery = s.battery := by
  rw [stepped_refuse window]
  refine ⟨?_, isRaised_refuse _ i f, refuse_sync _ i f, ?_, ?_, ?_⟩
  · rw [refuse_seats, get_set_self, unlost_seat]
  · obtain ⟨history, strength, -⟩ := unlost_history_strength s i f .appearance
    rw [refuse_signal, get_set_self]
    split <;> exact ⟨history, strength⟩
  · have mute : (unlost s i f .appearance).mute = s.mute := frame_unlost .appearance .mute (by decide)
    rw [refuse_mute, get_set_self, mute]
    split <;> rfl
  · have battery : (unlost s i f .appearance).battery = s.battery := frame_unlost .appearance .battery (by decide)
    rw [show (State.refuse _ i f).battery = _ from frame_refuse_sections _ i f .battery (by decide), battery]

/-- The tables of a seat whose appearance has been refused. -/
theorem accept_refused (window : f.inWindow = false) :
    (s.accept i f .appearance).seats[i] = { acceptedRec s.seats[i] f s.clock with
      state := .refused, quiet := false, lastAudio := some f.audio } ∧
    ((s.accept i f .appearance).slot (.seat i .formatRefused)).isRaised = true ∧
    (s.accept i f .appearance).syncs[i].owed = true ∧ (s.accept i f .appearance).syncs[i].confirmed = none ∧
    (s.accept i f .appearance).signal[i].history = s.signal[i].history ∧
    (s.accept i f .appearance).signal[i].strength = s.signal[i].strength ∧
    (s.accept i f .appearance).battery[i] = s.battery[i] ∧ (s.accept i f .appearance).mute[i].hold = s.mute[i].hold := by
  obtain ⟨seat, raised, ⟨owed, confirmed⟩, ⟨history, strength⟩, hold, battery⟩ := stepped_refused (s := s) (i := i) window
  rw [accept_eq_concluded]
  generalize stepped s i f .appearance = u at *
  have state : u.seats[i].state = .refused := by rw [seat]
  obtain ⟨pattern, order, mute⟩ := concluded_mute_of_refused (f := f) (c := .appearance) state
  refine ⟨?_, ?_, owed_concluded (by rw [state]; decide) owed, ?_, ?_, ?_, ?_, ?_⟩
  · rw [concluded_seats, get_set_self, seat]
  · rw [isRaised_of_grade (grade_concluded (.inl rfl))]
    exact raised
  · rw [(keepsOrders_concluded f .appearance i).1]
    exact confirmed
  · rw [concluded_signal, evaluators_of_refused state]
    exact history
  · rw [concluded_signal, evaluators_of_refused state]
    exact strength
  · rw [concluded_battery, evaluators_of_refused state, battery]
  · rw [mute, get_set_self]
    exact hold

/-- Settles O22: the appearance is refused, and no evaluator reads it. -/
theorem appearanceRefused : Obligations.AppearanceRefused := by
  intro s o i stands bound occupied fresh format
  refine ⟨_, exec_appearance stands bound occupied fresh, ?_⟩
  obtain ⟨others, floor, links, -⟩ := accepted_others s o i .appearance
  have window : o.settled.read.inWindow = false := by
    show (decide (2 ≤ o.payload.format.toNat) && decide (o.payload.format.toNat ≤ 5)) = false
    rcases format with low | high
    · rw [decide_eq_false (by omega)]; rfl
    · rw [decide_eq_false (p := o.payload.format.toNat ≤ 5) (by omega), Bool.and_false]
  obtain ⟨seat, raised, owed, confirmed, history, strength, battery, hold⟩ :=
    accept_refused (s := withoutFrame s o) (i := i) window
  have frame := frame_then (frame_then (W := [.openFrames, .seats, .signal, .mute, .links, .alerts, .attention, .queue, .syncs,
    .markers, .reminders, .lamps]) (frame_mono (frame_withoutFrame s o) (by decide)) (frame_refused (i := i) window) (by decide))
    frame_evalOutputs (by decide)
  have openFrames := accept_openFrames s o i o.settled.read .appearance
  generalize (withoutFrame s o).accept i o.settled.read .appearance = u at *
  exact ⟨openFrames, seat, raised, owed, confirmed, history, strength, battery, links, floor, hold, others, frame⟩

end Sys2Proof.Machine.SeatWork
end

section
/-! PROOFS. Appearances inside the format window (O21). -/

namespace Sys2Proof.Machine.SeatWork

open Sys2Proof Sys2Proof.Machine Sys2Proof.Machine.Laws Sys2Proof.Machine.SlotGrades Sys2Proof.Machine.SyncRecords

variable {s t u : State} {o : OpenFrame} {i : SeatId} {f : SeatFrame} {c : FrameClass}

theorem stepped_appear_seat (window : f.inWindow = true) : (stepped s i f .appearance).seats[i] =
    { acceptedRec s.seats[i] f s.clock with state := f.target, quiet := false } := by
  rw [stepped_appear window, appear_seats, get_set_self, unlost_seat]

theorem stepped_appear_signal_of_active (window : f.inWindow = true) (active : f.target = .active) :
    (stepped s i f .appearance).signal[i] =
      { reset (unlost s i f .appearance).signal[i] f with lossTimer := some s.params.lossTime } := by
  have params : (unlost s i f .appearance).params = s.params := frame_unlost .appearance .params (by decide)
  rw [stepped_appear window, appear_signal_of_active active, get_set_self, params]

theorem stepped_appear_signal_of_standby (window : f.inWindow = true) (standby : f.target = .standby) :
    (stepped s i f .appearance).signal[i] = reset (if s.seats[i].state = .active then
      departedSignal (unlost s i f .appearance).signal[i] else (unlost s i f .appearance).signal[i]) f := by
  rw [stepped_appear window, appear_signal_of_standby standby, get_set_self, unlost_state]

/-- A smoothed strength that is the frame's own stays. -/
theorem smoothed_self {g : Signal} (h : g.strength = some (10 * f.strength)) : smoothed g f = 10 * f.strength := by
  rw [smoothed, h]
  show 10 * f.strength + (10 * f.strength - 10 * f.strength).tdiv 8 = _
  rw [sub_self, Int.zero_tdiv, add_zero]

theorem pushSlots_appearance : pushSlots [] (slotsOf .appearance) = [true] := by decide

/-- The signal record of a seat that has appeared ACTIVE. -/
theorem accept_appeared_signal_of_active (window : f.inWindow = true) (active : f.target = .active) :
    (s.accept i f .appearance).signal[i].history = [true] ∧
    (s.accept i f .appearance).signal[i].strength = some (10 * f.strength) ∧
    (s.accept i f .appearance).signal[i].lossTimer = some s.params.lossTime := by
  have signal := stepped_appear_signal_of_active (s := s) (i := i) window active
  have state : (stepped s i f .appearance).seats[i].state = .active := by rw [stepped_appear_seat window, active]
  rw [accept_eq_concluded, concluded_signal_of_active state, signal]
  exact ⟨pushSlots_appearance, congrArg some (smoothed_self rfl), rfl⟩

/-- The signal record of a seat that has appeared in STANDBY. -/
theorem accept_appeared_signal_of_standby (window : f.inWindow = true) (standby : f.target = .standby) :
    (s.accept i f .appearance).signal[i].history = [] ∧
    (s.accept i f .appearance).signal[i].strength = some (10 * f.strength) ∧
    (s.seats[i].state = .active → (s.accept i f .appearance).signal[i].lossTimer = none) := by
  have signal := stepped_appear_signal_of_standby (s := s) (i := i) window standby
  have state : (stepped s i f .appearance).seats[i].state = .standby := by rw [stepped_appear_seat window, standby]
  rw [accept_eq_concluded, concluded_signal_of_standby state, signal]
  refine ⟨rfl, rfl, fun was => ?_⟩
  rw [if_pos was]
  rfl

/-- The other tables of a seat that has appeared. -/
theorem accept_appeared (window : f.inWindow = true) :
    (s.accept i f .appearance).seats[i] = { acceptedRec s.seats[i] f s.clock with
      state := f.target, quiet := false, lastAudio := some f.audio } ∧
    (s.accept i f .appearance).battery[i].cls = f.cls ∧ (s.accept i f .appearance).battery[i].level = some f.level ∧
    (s.accept i f .appearance).syncs[i].confirmed = none ∧
    ((s.accept i f .appearance).slot (.seat i .formatRefused)).isRaised = false := by
  have seat := stepped_appear_seat (s := s) (i := i) window
  have confirmed : (stepped s i f .appearance).syncs[i].confirmed = none := by
    rw [stepped_appear window]
    exact appear_sync _ i f
  have refused : ((stepped s i f .appearance).slot (.seat i .formatRefused)).isRaised = false := by
    rw [stepped_appear window]
    exact slot_formatRefused_appear _ i f
  rw [accept_eq_concluded]
  generalize stepped s i f .appearance = u at *
  have state : u.seats[i].state = .active ∨ u.seats[i].state = .standby := by
    rw [seat]
    exact target_eq_active_or_standby f
  obtain ⟨cls, level⟩ := gaugeReads_cls_level u i f .appearance
  refine ⟨?_, ?_, ?_, ?_, ?_⟩
  · rw [concluded_seats, get_set_self, seat]
  · rw [concluded_battery_of_heard state, cls]
  · rw [concluded_battery_of_heard state, level]
  · rw [(keepsOrders_concluded f .appearance i).1]
    exact confirmed
  · rw [isRaised_of_grade (grade_concluded (.inl rfl))]
    exact refused

/-- Settles O21: the seat table at the appearance, and what the evaluators leave of a fresh signal record. -/
theorem appearanceAccepted : Obligations.AppearanceAccepted := by
  intro s o i stands bound occupied fresh low high
  refine ⟨_, exec_appearance stands bound occupied fresh, ?_⟩
  obtain ⟨others, floor, links, frame⟩ := accepted_others s o i .appearance
  have window : o.settled.read.inWindow = true := by
    show (decide (2 ≤ o.payload.format.toNat) && decide (o.payload.format.toNat ≤ 5)) = true
    rw [decide_eq_true low, decide_eq_true high]
    rfl
  have target := target_read o
  obtain ⟨seat, cls, level, confirmed, refused⟩ := accept_appeared (s := withoutFrame s o) (i := i) window
  have ofActive := accept_appeared_signal_of_active (s := withoutFrame s o) (i := i) window
  have ofStandby := accept_appeared_signal_of_standby (s := withoutFrame s o) (i := i) window
  have openFrames := accept_openFrames s o i o.settled.read .appearance
  rw [target] at seat ofActive ofStandby
  generalize (withoutFrame s o).accept i o.settled.read .appearance = u at *
  by_cases standby : o.payload.audio = 4
  · obtain ⟨history, strength, lossTimer⟩ := ofStandby (if_pos standby)
    exact ⟨openFrames, seat, history.trans (if_pos standby).symm, strength, fun live => absurd standby live, fun _ => lossTimer,
      cls, level, confirmed, refused, links, floor, others, frame⟩
  · obtain ⟨history, strength, lossTimer⟩ := ofActive (if_neg standby)
    exact ⟨openFrames, seat, history.trans (if_neg standby).symm, strength, fun _ => lossTimer,
      fun quiet => absurd quiet standby, cls, level, confirmed, refused, links, floor, others, frame⟩

end Sys2Proof.Machine.SeatWork
end

section
/-! PROOFS. Normal frames of a bound seat (O20). -/

namespace Sys2Proof.Machine.SeatWork

open Sys2Proof Sys2Proof.Machine Sys2Proof.Machine.Laws Sys2Proof.Machine.SlotGrades Sys2Proof.Machine.SyncRecords
open Sys2Proof.Machine.QueueOps

variable {s t u : State} {o : OpenFrame} {i : SeatId} {f : SeatFrame} {c : FrameClass} {d : Nat} {g : InFlight}

/-! ## The seat and its signal record -/

theorem hears_unlost (h : Hears s i) (c : FrameClass) : Hears (unlost s i f c) i := by
  unfold Hears
  rw [unlost_state]
  exact h

theorem stepped_normal_seat (h : Hears s i) : (stepped s i f (.normal d)).seats[i] = { acceptedRec s.seats[i] f s.clock with
    state := f.target
    quiet := if f.audio = .standby ∧ s.seats[i].state = .active then false else s.seats[i].quiet } := by
  rw [stepped_normal, normalFrame_seats (hears_unlost h _), get_set_self, unlost_seat]
  rfl

theorem stepped_normal_signal_of_live (h : Hears s i) (live : f.audio ≠ .standby) : (stepped s i f (.normal d)).signal[i] =
    { (unlost s i f (.normal d)).signal[i] with lossTimer := some s.params.lossTime } := by
  have params : (unlost s i f (.normal d)).params = s.params := frame_unlost _ .params (by decide)
  rw [stepped_normal, normalFrame_signal_of_live (hears_unlost h _) live, get_set_self, params]

theorem stepped_normal_signal_of_standby (h : Hears s i) (standby : f.audio = .standby) :
    (stepped s i f (.normal d)).signal[i] = if s.seats[i].state = .active then
      departedSignal (unlost s i f (.normal d)).signal[i] else (unlost s i f (.normal d)).signal[i] := by
  rw [stepped_normal, normalFrame_signal_of_standby (hears_unlost h _) standby, get_set_self, unlost_state]

/-- A loss has ended. -/
def Ended (g : Signal) : Prop := g.cause = .none ∧ g.lossStart = none ∧ g.grace = none

theorem ended_unlost (h : s.seats[i].state = .lost) (c : FrameClass) : Ended (unlost s i f c).signal[i] := by
  rw [unlost_signal, get_set_self, if_pos h]
  exact ⟨rfl, rfl, rfl⟩

theorem pushSlots_normal (h : List Bool) (d : Nat) : pushSlots h (slotsOf (.normal d)) =
    (h ++ List.replicate (min (d - 1) 64) false ++ [true]).drop
      ((h ++ List.replicate (min (d - 1) 64) false ++ [true]).length - 64) := by
  rw [List.append_assoc]
  rfl

/-- The signal record after a live normal frame. -/
theorem accept_normal_signal_of_live (h : Hears s i) (live : f.audio ≠ .standby) :
    (s.accept i f (.normal d)).signal[i].lossTimer = some s.params.lossTime ∧
    (∀ e, s.signal[i].strength = some e →
      (s.accept i f (.normal d)).signal[i].strength = some (e + (10 * f.strength - e).tdiv 8)) ∧
    (s.accept i f (.normal d)).signal[i].history = pushSlots s.signal[i].history (slotsOf (.normal d)) ∧
    (s.seats[i].state = .lost → Ended (s.accept i f (.normal d)).signal[i]) := by
  have signal := stepped_normal_signal_of_live (d := d) h live
  have state : (stepped s i f (.normal d)).seats[i].state = .active := by
    rw [stepped_normal_seat h, target_of_live live]
  obtain ⟨history, strength, -⟩ := unlost_history_strength s i f (.normal d)
  have ended := ended_unlost (s := s) (i := i) (f := f) (c := .normal d)
  rw [accept_eq_concluded, concluded_signal_of_active state, signal]
  refine ⟨rfl, fun e known => ?_, ?_, ended⟩
  · show some (smooth (((unlost s i f (.normal d)).signal[i].strength).getD _) _) = _
    rw [strength, known]
    rfl
  · show pushSlots (unlost s i f (.normal d)).signal[i].history _ = _
    rw [history]

/-- The signal record after a normal frame that says STANDBY. -/
theorem accept_normal_signal_of_standby (h : Hears s i) (standby : f.audio = .standby) :
    (s.accept i f (.normal d)).signal[i].strength = s.signal[i].strength ∧
    (s.accept i f (.normal d)).signal[i].history = s.signal[i].history ∧
    (s.seats[i].state = .active → (s.accept i f (.normal d)).signal[i].lossTimer = none ∧
      (s.accept i f (.normal d)).signal[i].weakStreak = 0) ∧
    (s.seats[i].state = .lost → Ended (s.accept i f (.normal d)).signal[i]) := by
  have signal := stepped_normal_signal_of_standby (d := d) h standby
  have state : (stepped s i f (.normal d)).seats[i].state = .standby := by
    rw [stepped_normal_seat h, target_of_standby standby]
  obtain ⟨history, strength, -⟩ := unlost_history_strength s i f (.normal d)
  have ended := ended_unlost (s := s) (i := i) (f := f) (c := .normal d)
  rw [accept_eq_concluded, concluded_signal_of_standby state, signal]
  by_cases active : s.seats[i].state = .active
  · rw [if_pos active]
    exact ⟨strength, history, fun _ => ⟨rfl, rfl⟩, fun lost => by rw [active] at lost; cases lost⟩
  · rw [if_neg active]
    exact ⟨strength, history, fun was => absurd was active, ended⟩

/-- The seat and the battery record after a normal frame. -/
theorem accept_normal (h : Hears s i) :
    (s.accept i f (.normal d)).seats[i] = { acceptedRec s.seats[i] f s.clock with
      state := f.target, lastAudio := some f.audio,
      quiet := if f.audio = .standby ∧ s.seats[i].state = .active then false else s.seats[i].quiet } ∧
    (s.accept i f (.normal d)).battery[i].cls = f.cls ∧ (s.accept i f (.normal d)).battery[i].level = some f.level := by
  have seat := stepped_normal_seat (f := f) (d := d) h
  rw [accept_eq_concluded]
  generalize stepped s i f (.normal d) = u at *
  have state : u.seats[i].state = .active ∨ u.seats[i].state = .standby := by
    rw [seat]
    exact target_eq_active_or_standby f
  obtain ⟨cls, level⟩ := gaugeReads_cls_level u i f (.normal d)
  rw [concluded_battery_of_heard state, concluded_seats, get_set_self, seat]
  exact ⟨rfl, cls, level⟩

/-! ## The order echo -/

theorem keepsOrders_normalFrame : KeepsOrders s (s.normalFrame i f) := by
  unfold State.normalFrame
  split
  · exact keepsOrders_ite (fun _ => (keepsOrders_depart i).trans
      (keepsOrders_of_frame (frame_setSeatState i _) (by decide))) fun _ => keepsOrders_of_syncs rfl
  · exact keepsOrders_ite (fun _ => keepsOrders_refl) fun _ =>
      KeepsOrders.trans (keepsOrders_of_syncs rfl) (keepsOrders_modSync fun _ => ⟨rfl, rfl, rfl⟩)
  · exact keepsOrders_ite (fun _ => keepsOrders_of_syncs rfl) fun _ => keepsOrders_of_syncs rfl
  all_goals exact keepsOrders_refl

theorem keepsFlights_normalFrame : KeepsFlights s (s.normalFrame i f) := by
  unfold State.normalFrame
  split
  · exact keepsFlights_ite (fun _ => (keepsFlights_depart i).trans
      (keepsFlights_of_frame (frame_setSeatState i _) (by decide))) fun _ =>
      keepsFlights_of_queue rfl
  · exact keepsFlights_ite (fun _ => keepsFlights_of_queue rfl) fun _ => keepsFlights_of_queue rfl
  · exact keepsFlights_ite (fun _ => keepsFlights_of_queue rfl) fun _ => keepsFlights_of_queue rfl
  all_goals exact keepsFlights_of_queue rfl

/-- A live frame leaves the queue as it is up to the evaluators. -/
theorem normalFrame_queue_of_live (live : f.audio ≠ .standby) : (s.normalFrame i f).queue = s.queue := by
  unfold State.normalFrame
  split
  · rw [if_neg live]; rfl
  · rw [if_neg live]; rfl
  · rw [if_neg live]; rfl
  all_goals rfl

/-- From the order echo on, orders and flights are kept, and a live frame takes nothing out of the queue. -/
theorem accept_after_echo (s : State) (i : SeatId) (f : SeatFrame) (d : Nat) :
    KeepsOrders (received s i f (.normal d)) (s.accept i f (.normal d)) ∧
    KeepsFlights (received s i f (.normal d)) (s.accept i f (.normal d)) ∧
    (f.audio ≠ .standby → ∀ x ∈ (received s i f (.normal d)).queue, x ∈ (s.accept i f (.normal d)).queue) := by
  have loss : ChangesOnly lossBlocks (received s i f (.normal d)) (unlost s i f (.normal d)) :=
    frame_ite (frame_endLoss i) frame_refl
  have reads (u : State) : ChangesOnly [.seats, .battery, .signal, .mute, .alerts, .attention] u
      ((u.evaluators i f (.normal d)).takeAudio i f) :=
    frame_then (frame_mono (frame_evaluators_sections f _) (by decide)) (frame_takeAudio i f) (by decide)
  rw [accept_eq_concluded, stepped_normal]
  refine ⟨?_, ?_, fun live x mem => ?_⟩
  · exact ((keepsOrders_of_frame loss (by decide)).trans keepsOrders_normalFrame).trans (keepsOrders_concluded f _)
  · refine KeepsFlights.trans (t := (unlost s i f (.normal d)).normalFrame i f)
      ((keepsFlights_of_frame loss (by decide)).trans keepsFlights_normalFrame) ?_
    exact (keepsFlights_of_frame (reads _) (by decide)).trans (keepsFlights_indicator i)
  · refine mem_indicator ?_ i
    rw [show (State.takeAudio _ i f).queue = _ from reads _ .queue (by decide), normalFrame_queue_of_live live,
      show (unlost s i f (.normal d)).queue = _ from loss .queue (by decide)]
    exact mem

/-- An ACTIVE seat that awaits a SYNC after the echo of a live frame still does after the frame. -/
theorem awaits_accept (active : s.seats[i].state = .active) (live : f.audio ≠ .standby)
    (h : Awaits (received s i f (.normal d)) i) : Awaits (s.accept i f (.normal d)) i := by
  have kept : s.seats[i].state ≠ .lost := by rw [active]; decide
  have state : (received s i f (.normal d)).seats[i].state = .active := by
    rw [received_seats, get_set_self]
    exact active
  have step : stepped s i f (.normal d) = (received s i f (.normal d)).startLossTimer i := by
    rw [stepped_normal, unlost_of_not_lost kept, normalFrame_of_active state, if_neg live]
  have reads : ChangesOnly [.seats, .battery, .signal, .mute, .alerts, .attention] (stepped s i f (.normal d))
      (((stepped s i f (.normal d)).evaluators i f (.normal d)).takeAudio i f) :=
    frame_then (frame_mono (frame_evaluators_sections f _) (by decide)) (frame_takeAudio i f) (by decide)
  rw [accept_eq_concluded, concluded]
  refine awaits_indicator ?_
  unfold Awaits
  rw [show (State.takeAudio _ i f).queue = _ from reads .queue (by decide),
    show (State.takeAudio _ i f).syncs = _ from reads .syncs (by decide), step]
  exact h

theorem received_of_no_flight (none : ∀ g, QEntry.sync i (.inFlight g) ∉ s.queue) :
    received s i f (.normal d) = s.acceptFields i f :=
  readEcho_of_none ((inFlight_eq_none (s.acceptFields i f) i).2 none) f.echo

/-- The echo of the tag in flight, where the seat has one SYNC in flight. -/
theorem echo_of_tag {pre post : List QEntry} (split : s.queue = pre ++ .sync i (.inFlight g) :: post)
    (single : ∀ h, QEntry.sync i (.inFlight h) ∉ pre ++ post) (same : f.echo = g.tag) :
    (s.accept i f (.normal d)).syncs[i].confirmed = some (g.pattern, g.hold) ∧
    (s.accept i f (.normal d)).syncs[i].stalled = false ∧
    (∀ h, QEntry.sync i (.inFlight h) ∉ (s.accept i f (.normal d)).queue) ∧
    (s.seats[i].state = .active → f.audio ≠ .standby → (g.pattern, g.hold) ≠ (s.mute[i].pattern, s.mute[i].order) →
      Awaits (s.accept i f (.normal d)) i) := by
  have flying : (s.acceptFields i f).inFlight i = some g :=
    inFlight_of_split (s := s.acceptFields i f) split fun h mem => single h (List.mem_append_left _ mem)
  have echo : received s i f (.normal d) = (s.acceptFields i f).readEcho i g.tag := by
    rw [← same]
    rfl
  obtain ⟨orders, flights, -⟩ := accept_after_echo s i f d
  rw [echo] at orders flights
  obtain ⟨confirmed, stalled⟩ := readEcho_sync flying
  obtain ⟨confirmed', -, stalled'⟩ := orders i
  refine ⟨confirmed'.trans confirmed, stalled'.trans stalled, fun h mem => ?_, fun active live other => ?_⟩
  · exact landed_readEcho (s := s.acceptFields i f) split single h (flights i h mem)
  · refine awaits_accept active live ?_
    rw [echo]
    exact awaits_readEcho flying other

/-- The echo of another tag, where the seat has one SYNC in flight. -/
theorem echo_of_other {pre post : List QEntry} (split : s.queue = pre ++ .sync i (.inFlight g) :: post)
    (single : ∀ h, QEntry.sync i (.inFlight h) ∉ pre ++ post) (other : f.echo ≠ g.tag) :
    (s.accept i f (.normal d)).syncs[i].confirmed = s.syncs[i].confirmed ∧
    (s.accept i f (.normal d)).syncs[i].stalled = s.syncs[i].stalled ∧
    (f.audio ≠ .standby → QEntry.sync i (.inFlight g) ∈ (s.accept i f (.normal d)).queue) := by
  have flying : (s.acceptFields i f).inFlight i = some g :=
    inFlight_of_split (s := s.acceptFields i f) split fun h mem => single h (List.mem_append_left _ mem)
  have echo : received s i f (.normal d) = s.acceptFields i f := readEcho_of_other flying other
  obtain ⟨orders, -, stays⟩ := accept_after_echo s i f d
  rw [echo] at orders stays
  obtain ⟨confirmed, -, stalled⟩ := orders i
  refine ⟨confirmed, stalled, fun live => stays live _ ?_⟩
  show QEntry.sync i (.inFlight g) ∈ s.queue
  rw [split]
  exact List.mem_append_right _ (List.mem_cons_self ..)

theorem orders_of_no_flight (none : ∀ g, QEntry.sync i (.inFlight g) ∉ s.queue) :
    (s.accept i f (.normal d)).syncs[i].confirmed = s.syncs[i].confirmed ∧
    (s.accept i f (.normal d)).syncs[i].stalled = s.syncs[i].stalled := by
  obtain ⟨orders, -⟩ := accept_after_echo s i f d
  rw [received_of_no_flight none] at orders
  obtain ⟨confirmed, -, stalled⟩ := orders i
  exact ⟨confirmed, stalled⟩

/-! ## The obligation -/

theorem echoRead_accept {pre post : List QEntry} (split : s.queue = pre ++ .sync i (.inFlight g) :: post)
    (single : ∀ h, QEntry.sync i (.inFlight h) ∉ pre ++ post) :
    EchoRead s ((withoutFrame s o).accept i o.settled.read (.normal d)) i o g := by
  have tag := echo_of_tag (s := withoutFrame s o) (f := o.settled.read) (d := d) split single
  have other := echo_of_other (s := withoutFrame s o) (f := o.settled.read) (d := d) split single
  refine ⟨fun same => ?_, fun differs => ?_⟩
  · obtain ⟨confirmed, stalled, landed, awaits⟩ := tag same
    exact ⟨confirmed, stalled, landed, fun active live => awaits active fun standby => live (read_standby_iff.1 standby)⟩
  · obtain ⟨confirmed, stalled, stays⟩ := other differs
    exact ⟨confirmed, stalled, fun live => stays fun standby => live (read_standby_iff.1 standby)⟩

/-- Settles O20: the tables after a normal frame, live or in STANDBY, and its order echo. -/
theorem normalFrameAccepted : Obligations.NormalFrameAccepted := by
  intro s o i last stands bound hears boot known ahead near
  refine ⟨_, exec_normal stands bound hears boot known ahead near, ?_⟩
  generalize (o.payload.frame - last).toNat = d
  obtain ⟨others, floor, links, frame⟩ := accepted_others s o i (.normal d)
  obtain ⟨seat, cls, level⟩ := accept_normal (s := withoutFrame s o) (f := o.settled.read) (d := d) hears
  have ofLive := accept_normal_signal_of_live (s := withoutFrame s o) (f := o.settled.read) (d := d) hears
  have ofStandby := accept_normal_signal_of_standby (s := withoutFrame s o) (f := o.settled.read) (d := d) hears
  have echo (pre post g) := echoRead_accept (s := s) (o := o) (i := i) (d := d) (g := g) (pre := pre) (post := post)
  have idle := orders_of_no_flight (s := withoutFrame s o) (i := i) (f := o.settled.read) (d := d)
  have openFrames := accept_openFrames s o i o.settled.read (.normal d)
  have audio := read_standby_iff (o := o)
  simp only [target_read, audio] at seat
  generalize (withoutFrame s o).accept i o.settled.read (.normal d) = u at *
  have ended (lost : s.seats[i].state = .lost) : Ended u.signal[i] := by
    by_cases standby : o.payload.audio = 4
    · exact (ofStandby (audio.2 standby)).2.2.2 lost
    · exact (ofLive fun h => standby (audio.1 h)).2.2.2 lost
  refine ⟨openFrames, seat, cls, level, fun live => ?_, fun standby => ?_, ended, echo, idle, links, floor, others, frame⟩
  · obtain ⟨lossTimer, strength, history, -⟩ := ofLive fun h => live (audio.1 h)
    exact ⟨lossTimer, strength, history.trans (pushSlots_normal _ d)⟩
  · obtain ⟨strength, history, departed, -⟩ := ofStandby (audio.2 standby)
    exact ⟨strength, history, departed⟩

end Sys2Proof.Machine.SeatWork
end

section
/-! PROOFS. What the evaluators leave of an accepted frame (O28): the Gauge, the Signal Monitor, the Supervisor and the
indicator, from the seat as step 3 leaves it. -/

namespace Sys2Proof.Machine.SeatWork

open Sys2Proof Sys2Proof.Machine Sys2Proof.Machine.Laws Sys2Proof.Machine.SlotGrades Sys2Proof.Machine.SyncRecords

variable {s t u v w : State} {o : OpenFrame} {i : SeatId} {f : SeatFrame} {c : FrameClass} {d : Nat} {b : Battery} {ps : Params}

/-! ## The battery record after a frame (R54 to R61) -/

/-- The record before the minutes and the tests. -/
def runBattery (b : Battery) (ps : Params) (f : SeatFrame) (c : FrameClass) : Battery :=
  if b.level.isNone then (b.take f).firstFrame ps f.level
  else if b.swaps f c then (b.take f).swapTo ps f.level
  else ({ b.take f with weighted := addWeighted b.weighted c.periods (audioWeight f.audio) }).sample f.level

theorem swaps_of_unknown (h : b.level = none) : b.swaps f c = false := by rw [Battery.swaps, h]; rfl

theorem runBattery_of_start (h : b.level = none ∨ b.swaps f c = true) :
    (runBattery b ps f c).ref = f.level ∧ (runBattery b ps f c).weighted = 0 ∧
    (runBattery b ps f c).drain = ps.drain[f.cls] ∧ (runBattery b ps f c).samples = 0 := by
  unfold runBattery
  split
  · exact ⟨rfl, rfl, rfl, rfl⟩
  next known =>
    have swap : b.swaps f c = true := h.resolve_left fun unknown => known (by rw [unknown]; rfl)
    rw [if_pos swap]
    exact ⟨rfl, rfl, rfl, rfl⟩

theorem runBattery_of_run (known : b.level ≠ none) (stays : b.swaps f c = false) : runBattery b ps f c =
    ({ b.take f with weighted := addWeighted b.weighted c.periods (audioWeight f.audio) }).sample f.level := by
  have some : ¬b.level.isNone = true := by rwa [Option.isNone_iff_eq_none]
  rw [runBattery, if_neg some, stays]
  rfl

theorem sample_streaks (b : Battery) (level : Nat) : (b.sample level).lowStreak = b.lowStreak ∧
    (b.sample level).critStreak = b.critStreak ∧ (b.sample level).status = b.status := by
  unfold Battery.sample
  split <;> exact ⟨rfl, rfl, rfl⟩

theorem runBattery_streaks (b : Battery) (ps : Params) (f : SeatFrame) (c : FrameClass) :
    (runBattery b ps f c).lowStreak = (if b.swaps f c then 0 else b.lowStreak) ∧
    (runBattery b ps f c).critStreak = (if b.swaps f c then 0 else b.critStreak) ∧
    (runBattery b ps f c).status = b.status ∧ (runBattery b ps f c).cls = f.cls := by
  unfold runBattery
  split
  next unknown =>
    rw [swaps_of_unknown (Option.isNone_iff_eq_none.1 unknown)]
    exact ⟨rfl, rfl, rfl, rfl⟩
  · split
    · exact ⟨rfl, rfl, rfl, rfl⟩
    · obtain ⟨low, crit, status⟩ := sample_streaks { b.take f with
        weighted := addWeighted b.weighted c.periods (audioWeight f.audio) } f.level
      exact ⟨low, crit, status, (sample_cls_level _ _).1⟩

theorem audioWeight_read (o : OpenFrame) :
    audioWeight o.settled.read.audio = if o.payload.audio = 2 ∨ o.payload.audio = 3 then 8 else 1 := by
  show (if (audioOfByte o.payload.audio).isLive = true then 8 else 1) = _
  rw [isLive_audioOfByte]
  exact if_congr decide_eq_true_iff rfl rfl

theorem swaps_read (b : Battery) (o : OpenFrame) (c : FrameClass) : b.swaps o.settled.read c = (b.level.isSome &&
    (decide (b.ref + 64 ≤ o.payload.level.toNat) || (c.isAppearance && decide (b.ref + 32 ≤ o.payload.level.toNat)))) := rfl

theorem runBattery_sampled (known : b.level ≠ none) (stays : b.swaps f c = false) (drop : f.level < b.ref)
    (long : 4800 ≤ addWeighted b.weighted c.periods (audioWeight f.audio)) :
    (runBattery b ps f c).ref = f.level ∧ (runBattery b ps f c).weighted = 0 ∧
    (runBattery b ps f c).drain = (3 * b.drain + (b.ref - f.level) * 76800 /
      addWeighted b.weighted c.periods (audioWeight f.audio) + 2) / 4 ∧
    (runBattery b ps f c).samples = min 255 (b.samples + 1) := by
  rw [runBattery_of_run known stays, Battery.sample, if_pos ⟨drop, long⟩]
  exact ⟨rfl, rfl, rfl, rfl⟩

theorem runBattery_unsampled (known : b.level ≠ none) (stays : b.swaps f c = false)
    (short : b.ref ≤ f.level ∨ addWeighted b.weighted c.periods (audioWeight f.audio) < 4800) :
    (runBattery b ps f c).ref = b.ref ∧
    (runBattery b ps f c).weighted = addWeighted b.weighted c.periods (audioWeight f.audio) ∧
    (runBattery b ps f c).drain = b.drain ∧ (runBattery b ps f c).samples = b.samples := by
  rw [runBattery_of_run known stays, Battery.sample, if_neg fun both => short.elim (fun full => absurd both.1 (Nat.not_lt.2 full))
    fun few => absurd both.2 (Nat.not_le.2 few)]
  exact ⟨rfl, rfl, rfl, rfl⟩

theorem lowTest_iff (ps : Params) (minutes level : Nat) :
    lowTest ps minutes level = true ↔ minutes < ps.lowMinutes ∨ level ≤ 38 := by
  rw [lowTest, Bool.or_eq_true, decide_eq_true_iff, decide_eq_true_iff]

theorem critTest_iff (ps : Params) (minutes level : Nat) :
    critTest ps minutes level = true ↔ minutes < ps.critMinutes ∨ level ≤ 13 := by
  rw [critTest, Bool.or_eq_true, decide_eq_true_iff, decide_eq_true_iff]

/-- The Gauge's reading, from its record and the severity of BATTERY before. -/
theorem gaugeReads_of (battery : t.battery[i] = { batteryRead s i o.settled.read c with
      status := statusAfter (batteryRead s i o.settled.read c) (batteryBefore s i o.settled.read c) })
    (severity : (t.slot (.seat i .battery)).severity? =
      severityAfter (batteryRead s i o.settled.read c) (batteryBefore s i o.settled.read c)) :
    GaugeReads s t i o c.periods c.isAppearance := by
  obtain ⟨cls, level⟩ := read_cls_level s.battery[i] s.params o.settled.read c
  obtain ⟨low, crit, status, -⟩ := runBattery_streaks s.battery[i] s.params o.settled.read c
  unfold GaugeReads
  simp only [battery, severity, ← swaps_read, ← audioWeight_read]
  refine ⟨cls, level, fun begins => ?_, runBattery_sampled, runBattery_unsampled, rfl, ?_, ?_, rfl, ?_⟩
  · obtain ⟨ref, weighted, drain, samples⟩ := runBattery_of_start (ps := s.params) begins
    refine ⟨ref, weighted, drain.trans ?_, samples⟩
    simp only [batteryRead, cls]
  · show streakAfter (runBattery s.battery[i] s.params o.settled.read c).lowStreak
      (lowTest s.params (batteryRead s i o.settled.read c).minutes o.payload.level.toNat) = _
    rw [low]
    exact if_congr (lowTest_iff _ _ _) rfl rfl
  · show streakAfter (runBattery s.battery[i] s.params o.settled.read c).critStreak
      (critTest s.params (batteryRead s i o.settled.read c).minutes o.payload.level.toNat) = _
    rw [crit]
    exact if_congr (critTest_iff _ _ _) rfl rfl
  · show (if _ then _ else if _ then _ else if s.battery[i].swaps o.settled.read c = true then _ else
      (runBattery s.battery[i] s.params o.settled.read c).status) = _
    rw [status]
    rfl

/-! ## The two tests of the Signal Monitor (R73, R76) -/

theorem weakTest_tables {threshold e : Int} {raised : Bool} {g : Grade} {streak : Nat} (was : g.severity?.isSome = raised) :
    (e < 10 * threshold → weakAfter threshold raised e streak = min 15 (streak + 1) ∧
      (weakGrade threshold g e streak).severity?.isSome = (raised || decide (15 ≤ streak + 1))) ∧
    (10 * threshold ≤ e → e < 10 * (threshold + 4) → weakAfter threshold raised e streak = (if raised then streak else 0) ∧
      (weakGrade threshold g e streak).severity?.isSome = raised) ∧
    (10 * (threshold + 4) ≤ e → weakAfter threshold raised e streak = 0 ∧
      (weakGrade threshold g e streak).severity?.isSome = false) := by
  unfold weakAfter weakGrade weakLevel weakEndLevel
  subst was
  refine ⟨fun low => ?_, fun middle below => ?_, fun high => ?_⟩
  · rw [if_pos low, if_pos low]
    refine ⟨rfl, ?_⟩
    have reached : (satSucc 15 streak == 15) = decide (15 ≤ streak + 1) := by
      rw [satSucc, Bool.eq_iff_iff, beq_iff_eq, decide_eq_true_iff]
      omega
    rw [reached]
    cases g <;> by_cases long : 15 ≤ streak + 1 <;> simp [Grade.severity?, long]
  · have strong : ¬e < 10 * threshold := by omega
    rw [if_neg strong, if_pos below, if_neg strong, if_pos below]
    exact ⟨rfl, rfl⟩
  · have strong : ¬e < 10 * threshold := by omega
    have above : ¬e < 10 * (threshold + 4) := by omega
    rw [if_neg strong, if_neg above, if_neg strong, if_neg above]
    refine ⟨rfl, ?_⟩
    cases g <;> rfl

/-- What was not raised and is, is a NOTICE. -/
theorem weakGrade_notice {threshold e : Int} {g : Grade} {streak : Nat} (was : g.severity?.isSome = false)
    (is : (weakGrade threshold g e streak).severity?.isSome = true) :
    (weakGrade threshold g e streak).severity? = some .notice := by
  unfold weakGrade at is ⊢
  rw [was] at is ⊢
  simp only [Bool.not_false, Bool.true_and, Bool.false_eq_true, if_false] at is ⊢
  split
  next low =>
    rw [if_pos low] at is
    split
    · rfl
    next early =>
      rw [if_neg early, was] at is
      cases is
  next =>
    rw [if_neg ‹_›, ite_self, was] at is
    cases is

theorem erraticGrade_spec (g : Grade) (h : List Bool) : (erraticGrade g h).severity?.isSome =
    (if g.severity?.isSome then decide (4 < h.count false) else decide (12 ≤ h.count false ∧ h.length = 64)) ∧
    (g.severity?.isSome = false → (erraticGrade g h).severity?.isSome = true →
      (erraticGrade g h).severity? = some .notice) := by
  unfold erraticGrade misses
  cases raised : g.severity?.isSome with
  | true =>
    refine ⟨?_, nofun⟩
    by_cases few : h.count false ≤ 4
    · rw [if_pos rfl, if_pos rfl, if_pos few, decide_eq_false (by omega)]
      rfl
    · rw [if_pos rfl, if_pos rfl, if_neg few, decide_eq_true (by omega)]
      exact raised
  | false =>
    simp only [Bool.false_eq_true, if_false]
    split
    next many => exact ⟨(decide_eq_true (p := _ ∧ h.length = 64) many).symm, fun _ _ => rfl⟩
    next few =>
      refine ⟨raised.trans (decide_eq_false (p := _ ∧ h.length = 64) few).symm, fun _ is => ?_⟩
      rw [raised] at is
      cases is

theorem monitorReads_of {appearance : Bool} {e : Int} (strength : t.signal[i].strength = some e)
    (streak : t.signal[i].weakStreak = weakAfter s.params.weakThreshold (s.slot (.seat i .signalWeak)).isRaised e
      (if appearance then 0 else s.signal[i].weakStreak))
    (weak : grade (t.slot (.seat i .signalWeak)) = weakGrade s.params.weakThreshold (grade (s.slot (.seat i .signalWeak))) e
      (if appearance then 0 else s.signal[i].weakStreak))
    (erratic : grade (t.slot (.seat i .linkErratic)) =
      erraticGrade (grade (s.slot (.seat i .linkErratic))) t.signal[i].history) : MonitorReads s t i appearance := by
  have tables := weakTest_tables (threshold := s.params.weakThreshold) (e := e)
    (streak := if appearance then 0 else s.signal[i].weakStreak) (isRaised_eq (s.slot (.seat i .signalWeak))).symm
  obtain ⟨raises, notice⟩ := erraticGrade_spec (grade (s.slot (.seat i .linkErratic))) t.signal[i].history
  unfold MonitorReads
  dsimp only
  refine ⟨fun e' read => ?_, ?_, fun was is => ?_, fun was is => ?_⟩
  · obtain rfl : e = e' := Option.some.inj (strength.symm.trans read)
    rw [streak, isRaised_eq (t.slot _), weak]
    exact tables
  · rw [isRaised_eq, erratic, isRaised_eq]
    exact raises
  · rw [isRaised_eq] at was is
    rw [weak] at is
    rw [severity?_eq, weak]
    exact weakGrade_notice was is
  · rw [isRaised_eq] at was is
    rw [erratic] at is
    rw [severity?_eq, erratic]
    exact notice was is

/-! ## The seat as step 3 leaves it -/

/-- What the evaluators read of a seat after step 3 is what it was before the frame. -/
structure Readies (i : SeatId) (f : SeatFrame) (c : FrameClass) (s u : State) : Prop where
  params : u.params = s.params
  battery : u.battery = s.battery
  heard : u.seats[i].state = .active ∨ u.seats[i].state = .standby
  gauge : grade (u.slot (.seat i .battery)) = grade (s.slot (.seat i .battery))
  state : f.audio ≠ .standby → u.seats[i].state = .active
  lastAudio : u.seats[i].lastAudio = s.seats[i].lastAudio
  streak : f.audio ≠ .standby → u.signal[i].weakStreak = if c.isAppearance then 0 else s.signal[i].weakStreak
  mute : f.audio ≠ .standby → u.mute[i] = s.mute[i]
  grades : f.audio ≠ .standby → ∀ k, k ≠ .signalLoss → k ≠ .formatRefused →
    grade (u.slot (.seat i k)) = grade (s.slot (.seat i k))

theorem grade_unlost {k : SeatKind} (hk : k ≠ .signalLoss) (c : FrameClass) :
    grade ((unlost s i f c).slot (.seat i k)) = grade (s.slot (.seat i k)) := by
  have received' : grade ((received s i f c).slot (.seat i k)) = grade (s.slot (.seat i k)) := by
    rw [slot_of_alerts (frame_received c .alerts (by decide))]
  rw [← received', unlost, State.endLossIfLost]
  split
  · exact grade_endLoss_ne hk
  · rfl

theorem readies_appear (window : f.inWindow = true) : Readies i f .appearance s (stepped s i f .appearance) := by
  have seat := stepped_appear_seat (s := s) (i := i) window
  have stays (live : f.audio ≠ .standby) : ¬(f.target = .standby ∧ (unlost s i f .appearance).seats[i].state = .active) :=
    fun both => by
      rw [target_of_live live] at both
      cases both.1
  have frame : ChangesOnly [.seats, .signal, .mute, .links, .alerts, .attention, .queue, .syncs, .markers] s
      (stepped s i f .appearance) := by
    rw [stepped_appear window]
    exact frame_then (frame_mono (frame_unlost .appearance) (by decide)) (frame_appear_sections _ i f) (by decide)
  refine ⟨frame .params (by decide), frame .battery (by decide), ?_, ?_, fun live => ?_, ?_, fun live => ?_, fun live => ?_,
    fun live k loss refused => ?_⟩
  · rw [seat]
    exact target_eq_active_or_standby f
  · rw [stepped_appear window, grade_appear (by decide), grade_gone (by decide), grade_unlost (by decide)]
  · rw [seat]
    exact target_of_live live
  · rw [seat]
    rfl
  · rw [stepped_appear_signal_of_active window (target_of_live live)]
    rfl
  · have mute : (unlost s i f .appearance).mute = s.mute := frame_unlost .appearance .mute (by decide)
    rw [stepped_appear window, appear_mute, get_set_self, if_neg (stays live), mute]
  · rw [stepped_appear window, grade_appear refused, gone_of_not (stays live), grade_unlost loss]

theorem readies_normal (h : Hears s i) : Readies i f (.normal d) s (stepped s i f (.normal d)) := by
  have seat := stepped_normal_seat (f := f) (d := d) h
  have frame : ChangesOnly [.seats, .signal, .mute, .links, .alerts, .attention, .queue, .syncs, .markers] s
      (stepped s i f (.normal d)) := by
    rw [stepped_normal]
    exact frame_then (frame_mono (frame_unlost _) (by decide)) (frame_normalFrame_sections _ i f) (by decide)
  have quiet {P : Prop} (live : f.audio ≠ .standby) : ¬(f.audio = .standby ∧ P) := fun both => live both.1
  refine ⟨frame .params (by decide), frame .battery (by decide), ?_, ?_, fun live => ?_, ?_, fun live => ?_, fun live => ?_,
    fun live k loss refused => ?_⟩
  · rw [seat]
    exact target_eq_active_or_standby f
  · rw [stepped_normal, grade_normalFrame _ (.inr (by decide)), grade_unlost (by decide)]
  · rw [seat]
    exact target_of_live live
  · rw [seat]
    rfl
  · rw [stepped_normal_signal_of_live h live]
    exact (unlost_history_strength s i f (.normal d)).2.2.2
  · have mute : (unlost s i f (.normal d)).mute = s.mute := frame_unlost _ .mute (by decide)
    rw [stepped_normal, normalFrame_mute (hears_unlost h _), get_set_self, if_neg (quiet live), mute]
  · rw [stepped_normal, grade_normalFrame k (.inl (quiet live)), grade_unlost loss]

/-! ## The evaluators from there on -/

theorem gaugeReads_concluded (h : Readies i o.settled.read c s u) :
    GaugeReads s (concluded u i o.settled.read c) i o c.periods c.isAppearance := by
  have table : (concluded u i o.settled.read c).battery = (u.gaugeReads i o.settled.read c).battery :=
    concluded_battery_of_heard h.heard
  have slot : grade ((concluded u i o.settled.read c).slot (.seat i .battery)) =
      grade ((u.gaugeReads i o.settled.read c).slot (.seat i .battery)) := by
    rw [slot_of_alerts (concluded_alerts u i o.settled.read c)]
    rcases h.heard with active | standby
    · rw [evaluators_of_active active, grade_supervisorReads (by decide), (monitorReads_grade _ i _ c).2.2 (.seat i .battery)
        nofun nofun]
    · rw [evaluators_of_standby standby]
  obtain ⟨severity, battery⟩ := gaugeReads_spec u i o.settled.read c
  have before : batteryBefore u i o.settled.read c = batteryBefore s i o.settled.read c := by
    rw [batteryBefore, batteryBefore, h.battery, severity?_of_grade h.gauge]
  have read : batteryRead u i o.settled.read c = batteryRead s i o.settled.read c := by
    rw [batteryRead, batteryRead, h.battery, h.params]
  rw [before, read] at severity battery
  refine gaugeReads_of ?_ ?_
  · rw [table, battery, get_set_self]
  · rw [severity?_of_grade slot, severity]

theorem monitorReads_concluded (h : Readies i f c s u) (live : f.audio ≠ .standby) :
    MonitorReads s (concluded u i f c) i c.isAppearance := by
  have active := h.state live
  have signal := concluded_signal_of_active (f := f) (c := c) active
  have history : (concluded u i f c).signal[i].history = pushSlots u.signal[i].history (slotsOf c) := by rw [signal]
  have kept : (u.gaugeReads i f c).signal = u.signal := frame_gaugeReads i f c .signal (by decide)
  have params : (u.gaugeReads i f c).params = s.params := (frame_gaugeReads i f c .params (by decide)).trans h.params
  obtain ⟨weak, erratic, -⟩ := monitorReads_grade (u.gaugeReads i f c) i f c
  rw [kept, params, grade_gaugeReads (o := .seat i .signalWeak) nofun, h.grades live _ (by decide) (by decide), h.streak live]
    at weak
  rw [kept, grade_gaugeReads (o := .seat i .linkErratic) nofun, h.grades live _ (by decide) (by decide), ← history] at erratic
  have slots (k : SeatKind) (hk : k ∉ supervisedKinds) : grade ((concluded u i f c).slot (.seat i k)) =
      grade (((u.gaugeReads i f c).monitorReads i f c).slot (.seat i k)) := by
    rw [slot_of_alerts (concluded_alerts u i f c), evaluators_of_active active, grade_supervisorReads hk]
  refine monitorReads_of (e := smoothed u.signal[i] f) ?_ ?_ ?_ ?_
  · rw [signal]
  · rw [signal, ← h.streak live, h.params, isRaised_of_grade (h.grades live .signalWeak (by decide) (by decide))]
  · rw [slots _ (by decide), weak]
  · rw [slots _ (by decide), erratic]

theorem supervised_congr {a : AudioState} {toggle : Bool} (h : Supervised i a toggle u v) (params : u.params = s.params)
    (mute : u.mute[i] = s.mute[i]) (before : ∀ k ∈ supervisedKinds, grade (u.slot (.seat i k)) = grade (s.slot (.seat i k)))
    (after : t.alerts = v.alerts) (kept : ∃ pattern order, t.mute[i] = { v.mute[i] with pattern := pattern, order := order }) :
    Supervised i a toggle s t := by
  obtain ⟨voice, opened, muted, chatter, pattern, order, table⟩ := h
  obtain ⟨pattern', order', kept⟩ := kept
  rw [before _ (by decide)] at voice opened muted chatter table
  rw [before .openNoFloor (by decide), before .floorMuted (by decide)] at table
  rw [mute, params] at opened chatter table
  rw [mute] at muted
  refine ⟨?_, ?_, ?_, ?_, pattern', order', ?_⟩
  · rw [slot_of_alerts after, voice]
  · rw [slot_of_alerts after, opened]
  · rw [slot_of_alerts after, muted]
  · rw [slot_of_alerts after, chatter]
  · rw [kept, table]

theorem supervisorReads_concluded (h : Readies i f c s u) (live : f.audio ≠ .standby) :
    SupervisorReads s (concluded u i f c) i f.audio c.isAppearance := by
  have active := h.state live
  have reads : ChangesOnly [.battery, .signal, .alerts, .attention] u ((u.gaugeReads i f c).monitorReads i f c) :=
    frame_then (frame_mono (frame_gaugeReads i f c) (by decide)) (frame_monitorReads i f c) (by decide)
  have seats : ((u.gaugeReads i f c).monitorReads i f c).seats = u.seats := reads .seats (by decide)
  have mute : ((u.gaugeReads i f c).monitorReads i f c).mute = u.mute := reads .mute (by decide)
  have supervised := supervised_supervisorReads ((u.gaugeReads i f c).monitorReads i f c) i f c
  have toggle : isToggle c ((u.gaugeReads i f c).monitorReads i f c).mute[i].hold
      ((u.gaugeReads i f c).monitorReads i f c).seats[i].lastAudio f.audio = togglesAt s i f.audio c.isAppearance := by
    rw [isToggle_eq, seats, mute, h.mute live, h.lastAudio]
    rfl
  rw [toggle] at supervised
  refine supervisorReads_of_supervised (supervised_congr supervised ?_ ?_ (fun k hk => ?_) ?_ ?_)
  · exact (reads .params (by decide)).trans h.params
  · rw [mute, h.mute live]
  · have kind : k ≠ .signalWeak ∧ k ≠ .linkErratic ∧ k ≠ .battery ∧ k ≠ .signalLoss ∧ k ≠ .formatRefused := by
      refine ⟨?_, ?_, ?_, ?_, ?_⟩ <;> rintro rfl <;> exact absurd hk (by decide)
    obtain ⟨weak, erratic, battery, loss, refused⟩ := kind
    rw [(monitorReads_grade _ i f c).2.2 _ (by rintro ⟨⟩; exact weak rfl) (by rintro ⟨⟩; exact erratic rfl),
      grade_gaugeReads (by rintro ⟨⟩; exact battery rfl), h.grades live k loss refused]
  · rw [concluded_alerts, evaluators_of_active active]
  · refine ⟨((u.evaluators i f c).takeAudio i f).patternFor i, holdOf ((u.evaluators i f c).takeAudio i f).mute[i].hold, ?_⟩
    rw [concluded, indicator_mute, get_set_self, evaluators_of_active active]
    rfl

theorem indicatorFollows_of {m : Mute} (mute : t.mute[i] = { m with pattern := t.patternFor i, order := holdOf m.hold }) :
    IndicatorFollows t i := by
  refine ⟨(congrArg Mute.pattern mute).trans rfl, ?_⟩
  rw [congrArg Mute.order mute, congrArg Mute.hold mute]
  cases m.hold <;> rfl

/-- The pattern follows from the conditions and the floor flag, which the indicator leaves. -/
theorem patternFor_congr (alerts : t.alerts = s.alerts) (floor : t.mute[i].floor = s.mute[i].floor) :
    t.patternFor i = s.patternFor i := by
  unfold State.patternFor
  rw [slot_of_alerts alerts, slot_of_alerts alerts, slot_of_alerts alerts, floor]

theorem indicatorFollows_derive (s : State) (i : SeatId) : IndicatorFollows (s.derive i) i := by
  have alerts : (s.derive i).alerts = s.alerts := frame_derive i .alerts (by decide)
  have mute : (s.derive i).mute[i] = { s.mute[i] with pattern := s.patternFor i, order := holdOf s.mute[i].hold } := by
    rw [derive_mute, get_set_self]
  exact indicatorFollows_of (mute.trans (by rw [patternFor_congr alerts (by rw [mute])]))

theorem indicatorFollows_indicator (s : State) (i : SeatId) : IndicatorFollows (s.indicator i) i := by
  have alerts : (s.indicator i).alerts = s.alerts := frame_indicator i .alerts (by decide)
  have mute : (s.indicator i).mute[i] = { s.mute[i] with pattern := s.patternFor i, order := holdOf s.mute[i].hold } := by
    rw [indicator_mute, get_set_self]
  exact indicatorFollows_of (mute.trans (by rw [patternFor_congr alerts (by rw [mute])]))

theorem evaluatorsRead_concluded (h : Readies i o.settled.read c s u) :
    EvaluatorsRead s (concluded u i o.settled.read c) i o c.periods c.isAppearance := by
  have live (h : o.payload.audio ≠ 4) : o.settled.read.audio ≠ .standby := fun standby => h (read_standby_iff.1 standby)
  exact ⟨gaugeReads_concluded h, fun heard => ⟨monitorReads_concluded h (live heard), supervisorReads_concluded h (live heard)⟩,
    indicatorFollows_indicator _ i, full_of_owed_indicator⟩

/-- Settles O28: the evaluators read the seat as step 3 leaves it, which is as it was. -/
theorem evaluatorsReadFrames : Obligations.EvaluatorsReadFrames := by
  refine ⟨fun s o i last stands bound hears boot known ahead near => ?_, fun s o i stands bound occupied fresh low high => ?_⟩
  · have read := evaluatorsRead_concluded (readies_normal (s := withoutFrame s o) (f := o.settled.read)
      (d := (o.payload.frame - last).toNat) hears)
    rw [← accept_eq_concluded] at read
    refine ⟨_, exec_normal stands bound hears boot known ahead near, ?_⟩
    generalize (withoutFrame s o).accept i o.settled.read (.normal (o.payload.frame - last).toNat) = u at read ⊢
    exact read
  · have window : o.settled.read.inWindow = true := by
      show (decide (2 ≤ o.payload.format.toNat) && decide (o.payload.format.toNat ≤ 5)) = true
      rw [decide_eq_true low, decide_eq_true high]
      rfl
    have read := evaluatorsRead_concluded (readies_appear (s := withoutFrame s o) (i := i) window)
    rw [← accept_eq_concluded] at read
    refine ⟨_, exec_appearance stands bound occupied fresh, ?_⟩
    generalize (withoutFrame s o).accept i o.settled.read .appearance = u at read ⊢
    exact read

end Sys2Proof.Machine.SeatWork
end

section
/-! PROOFS. The loss timer of a seat expires (O23): it leaves ACTIVE, and the cause is decided from its best link. -/

namespace Sys2Proof.Machine.SeatWork

open Sys2Proof.Machine.Runs
open Sys2Proof Sys2Proof.Machine Sys2Proof.Machine.Laws Sys2Proof.Machine.SlotGrades Sys2Proof.Machine.SyncRecords
open Sys2Proof.Machine.AntennaLinks

variable {s t u : State} {i : SeatId} {l : LinkId}

/-! ## The cause of a loss (R78) -/

theorem lossDecided_of_signal (best : s.seats[i].bestLink = some l) (h : s.links[l].state = .up ∨ s.links[l].state = .disabled) :
    lossDecided s i = s.loseToSignal i := by
  rw [lossDecided, best]
  rcases h with state | state <;> simp only [state]

theorem lossDecided_of_link (best : s.seats[i].bestLink = some l)
    (h : s.links[l].state = .down ∨ s.links[l].state = .silent ∨ s.links[l].state = .broken) :
    lossDecided s i = s.loseToLink i l := by
  rw [lossDecided, best]
  rcases h with state | state | state <;> simp only [state]

theorem loseToSignal_links (s : State) (i : SeatId) : (s.loseToSignal i).links = s.links := by
  rw [State.loseToSignal, State.raiseSignalLoss, show (State.raise _ _ _ _).links = _ from frame_raise _ _ _ .links (by decide),
    modSignal_links]

theorem loseToLink_links (s : State) (i : SeatId) (l : LinkId) :
    (s.loseToLink i l).links = s.links.set l { s.links[l] with attributed := s.links[l].attributed + 1 } := by
  rw [State.loseToLink, show (State.escalateLink _ l).links = _ from frame_escalateLink l .links (by decide),
    setAttributed_links, modSignal_links]

/-- RECEIVER_LINK of the link a loss is attributed to escalates to URGENT (R79). -/
theorem severity_loseToLink (raised : (s.slot (.link l)).isRaised = true) :
    ((s.loseToLink i l).slot (.link l)).severity? = some .urgent := by
  have kept : KeepsGrades s ((s.modSignal i fun g => { g with cause := .link l }).setAttributed l (· + 1)) :=
    keepsGrades_refresh (s := (s.modSignal i fun g => { g with cause := .link l }).modLink l _) _
  rw [State.loseToLink, severity?_eq, (setsGrade_escalateLink ((isRaised_of_grade (kept _)).trans raised)).1]
  rfl

/-! ## The seat before its loss is attributed -/

theorem frame_lapsed : ChangesOnly [.seats, .signal, .mute, .alerts, .attention, .queue, .syncs, .markers] s (lapsed s i) :=
  frame_then (frame_then (frame_mono (frame_modSignal i _) (by decide)) (frame_depart_sections _ i) (by decide))
    (frame_setSeatState i _) (by decide)

theorem lapsed_sync (s : State) (i : SeatId) : (lapsed s i).syncs[i].owed = true := by
  rw [lapsed, State.setSeatState, modSeat_syncs, depart_endings, State.dropSyncsOwed, modSync_syncs, get_set_self]

theorem lapsed_link_raised (h : (s.slot (.link l)).isRaised = true) : ((lapsed s i).slot (.link l)).isRaised = true := by
  have own : AtSeat i s (lapsed s i) := (atSeat_setSeatState .lost).after (atSeat_depart.after (atSeat_modSignal _))
  rw [own.conditions, h]

/-! ## The whole event -/

/-- What an expired loss timer leaves whatever the cause: the seat is LOST, with its loss stamped. -/
theorem lossTimerExpires_tables (running : s.signal[i].lossTimer.isSome = true) :
    (s.lossTimerExpires i).seats[i] = { s.seats[i] with state := .lost, quiet := false } ∧
    (∃ c, (s.lossTimerExpires i).signal[i] =
      { s.signal[i] with lossTimer := none, lossStart := some s.clock, weakStreak := 0, cause := c }) ∧
    (s.lossTimerExpires i).syncs[i].owed = true ∧
    (∃ pattern order, (s.lossTimerExpires i).mute[i] =
      { s.mute[i].stopTimers with pattern := pattern, order := order }) := by
  have seat : (lossDecided (lapsed s i) i).seats[i] = { s.seats[i] with state := .lost, quiet := false } := by
    rw [lossDecided_seats, lapsed_seats, get_set_self]
  rw [lossTimerExpires_of_running running]
  refine ⟨?_, ?_, owed_derive (by rw [seat]; nofun) ?_, ?_⟩
  · rw [derive_seats, seat]
  · obtain ⟨c, signal⟩ := lossDecided_signal (lapsed s i) i
    refine ⟨c, ?_⟩
    rw [show (State.derive _ i).signal = _ from frame_derive i .signal (by decide), signal, get_set_self, lapsed_signal,
      get_set_self]
    rfl
  · rw [show (lossDecided _ i).syncs = _ from frame_lossDecided i .syncs (by decide)]
    exact lapsed_sync s i
  · refine ⟨(lossDecided (lapsed s i) i).patternFor i, holdOf (lossDecided (lapsed s i) i).mute[i].hold, ?_⟩
    rw [derive_mute, get_set_self, lossDecided_mute, lapsed_mute, get_set_self]

theorem lossTimerExpires_of_signal (running : s.signal[i].lossTimer.isSome = true) (best : s.seats[i].bestLink = some l)
    (h : s.links[l].state = .up ∨ s.links[l].state = .disabled) : (s.lossTimerExpires i).signal[i].cause = .signal ∧
    ((s.lossTimerExpires i).slot (.seat i .signalLoss)).isRaised = true ∧ (s.lossTimerExpires i).links = s.links := by
  have links : (lapsed s i).links = s.links := frame_lapsed .links (by decide)
  have cause : lossDecided (lapsed s i) i = (lapsed s i).loseToSignal i := by
    refine lossDecided_of_signal ?_ (by rw [links]; exact h)
    rw [lapsed_seats, get_set_self]
    exact best
  rw [lossTimerExpires_of_running running, cause]
  refine ⟨?_, ?_, ?_⟩
  · rw [show (State.derive _ i).signal = _ from frame_derive i .signal (by decide), loseToSignal_signal, get_set_self]
  · rw [slot_of_alerts (frame_derive i .alerts (by decide)), isRaised_eq, (setsGrade_loseToSignal _ i).1]
    rfl
  · rw [show (State.derive _ i).links = _ from frame_derive i .links (by decide), loseToSignal_links, links]

theorem lossTimerExpires_of_link (running : s.signal[i].lossTimer.isSome = true) (best : s.seats[i].bestLink = some l)
    (h : s.links[l].state = .down ∨ s.links[l].state = .silent ∨ s.links[l].state = .broken) :
    (s.lossTimerExpires i).signal[i].cause = .link l ∧
    (s.lossTimerExpires i).links = s.links.set l { s.links[l] with attributed := s.links[l].attributed + 1 } ∧
    ((s.slot (.link l)).isRaised = true → ((s.lossTimerExpires i).slot (.link l)).severity? = some .urgent) := by
  have links : (lapsed s i).links = s.links := frame_lapsed .links (by decide)
  have cause : lossDecided (lapsed s i) i = (lapsed s i).loseToLink i l := by
    refine lossDecided_of_link ?_ (by rw [links]; exact h)
    rw [lapsed_seats, get_set_self]
    exact best
  rw [lossTimerExpires_of_running running, cause]
  refine ⟨?_, ?_, fun raised => ?_⟩
  · rw [show (State.derive _ i).signal = _ from frame_derive i .signal (by decide), loseToLink_signal, get_set_self]
  · rw [show (State.derive _ i).links = _ from frame_derive i .links (by decide), loseToLink_links, links]
  · rw [slot_of_alerts (frame_derive i .alerts (by decide))]
    exact severity_loseToLink (lapsed_link_raised raised)

theorem frame_lossTimerExpires_sections : ChangesOnly [.seats, .signal, .mute, .links, .alerts, .attention, .queue, .syncs,
    .markers] s (s.lossTimerExpires i) := by
  cases running : s.signal[i].lossTimer with
  | none =>
    rw [lossTimerExpires_of_stopped running]
    exact frame_refl
  | some n =>
    rw [lossTimerExpires_of_running (by rw [running]; rfl)]
    exact frame_then (frame_then (frame_mono frame_lapsed (by decide)) (frame_lossDecided i) (by decide)) (frame_derive i)
      (by decide)

/-- Settles O23: the tables of the LOST seat, and the cause by the state of its best link. -/
theorem lossTimerExpires : Obligations.LossTimerExpires := by
  intro s i l running best
  refine ⟨(s.lossTimerExpires i).evalOutputs, congrArg Host.Outcome.next (if_pos running), ?_⟩
  obtain ⟨seat, ⟨c, signal⟩, owed, pattern, order, mute⟩ := lossTimerExpires_tables running
  have ofSignal := lossTimerExpires_of_signal running best
  have ofLink := lossTimerExpires_of_link running best
  have own : AtSeat i s (s.lossTimerExpires i) := atSeat_lossTimerExpires
  have frame := frame_then (W := [.seats, .signal, .mute, .links, .alerts, .attention, .queue, .syncs, .markers, .reminders,
    .lamps]) (frame_mono (frame_lossTimerExpires_sections (s := s) (i := i)) (by decide)) frame_evalOutputs (by decide)
  generalize s.lossTimerExpires i = u at *
  exact ⟨seat, congrArg Signal.lossTimer signal, congrArg Signal.lossStart signal, congrArg Signal.weakStreak signal,
    (congrArg Signal.history signal).trans rfl, owed, (congrArg Mute.floor mute).trans rfl, (congrArg Mute.hold mute).trans rfl, congrArg Mute.toggles mute,
    ofSignal, ofLink, ⟨own.seats, own.battery, own.signal, own.mute⟩, frame⟩

end Sys2Proof.Machine.SeatWork
end

section
/-! PROOFS. Settled frames of unbound microphones: the stranger list (O18). -/

namespace Sys2Proof.Machine.SeatWork

open Sys2Proof Sys2Proof.Machine Sys2Proof.Machine.Laws Sys2Proof.Machine.Choices

variable {s : State} {o : OpenFrame} {f : Settled} {r : RadioId} {x : Stranger}

theorem seatOf_eq_none_of_unbound (h : ∀ i : SeatId, s.seats[i].radio ≠ some r) : s.seatOf r = none :=
  List.find?_eq_none.2 fun i _ => by
    rw [beq_iff_eq]
    exact h i

theorem exec_stranger (stands : Stands s o) (nonzero : o.payload.radio ≠ 0) (ordinary : o.payload.radio ≠ 0xFFFFFFFF)
    (unbound : ∀ i : SeatId, s.seats[i].radio ≠ some o.payload.radio) :
    exec (.mergeWindowExpiry (OpenFrame.key o)) s = .next ((withoutFrame s o).strangerFrame o.settled).evalOutputs := by
  have valid : (!validRadio o.payload.radio) = false := by
    simp only [validRadio, Bool.not_eq_false', Bool.and_eq_true, bne_iff_ne]
    exact ⟨nonzero, ordinary⟩
  have seat : (withoutFrame s o).seatOf o.payload.radio = none := seatOf_eq_none_of_unbound unbound
  rw [exec_windowExpiry stands]
  unfold State.settle State.settledFrame
  show Host.Outcome.next (State.evalOutputs (if (!validRadio o.payload.radio) = true then _ else
    match (withoutFrame s o).seatOf o.payload.radio with
    | some i => (withoutFrame s o).seatFrame i o.settled.read
    | none => (withoutFrame s o).strangerFrame o.settled)) = _
  rw [valid, seat]
  rfl

/-- The entry of a stranger first heard in a frame (R7). -/
def strangerOf (f : Settled) (clock : Stamp) : Stranger :=
  ⟨f.payload.radio, f.payload.boot, f.payload.format, clock, clock, f.strength, 600⟩

theorem strangerFrame_of_known (h : ∃ x ∈ s.strangers, x.radio = f.payload.radio) : s.strangerFrame f =
    { s with strangers := s.strangers.map fun x => if x.radio = f.payload.radio then
        { x with boot := f.payload.boot, format := f.payload.format, strength := f.strength, lastHeard := s.clock, aging := 600 }
      else x } := by
  have known : (s.strangers.any fun x => x.radio == f.payload.radio) = true := by
    simpa only [List.any_eq_true, beq_iff_eq] using h
  exact if_pos known

theorem strangerFrame_of_new (h : ∀ x ∈ s.strangers, x.radio ≠ f.payload.radio) : s.strangerFrame f =
    ({ s with strangers := makeRoom s.clock s.strangers ++ [strangerOf f s.clock] }).attendDesks := by
  have fresh : ¬(s.strangers.any fun x => x.radio == f.payload.radio) = true := by
    simpa only [List.any_eq_true, beq_iff_eq, not_exists, not_and] using h
  exact if_neg fresh

theorem makeRoom_of_room {clock : Stamp} {xs : List Stranger} (h : xs.length < 8) : makeRoom clock xs = xs := if_pos h

theorem olderStranger_iff {clock : Stamp} {b a : Stranger} : olderStranger clock b a = true ↔
    (clock - a.lastHeard).toNat < (clock - b.lastHeard).toNat := decide_eq_true_iff

/-- A full list gives up the front one of those heard longest ago (R8). -/
theorem makeRoom_of_full {clock : Stamp} {pre post : List Stranger} (full : ¬(pre ++ x :: post).length < 8)
    (distinct : ((pre ++ x :: post).map (·.radio)).Nodup)
    (ahead : ∀ y ∈ pre, (clock - y.lastHeard).toNat < (clock - x.lastHeard).toNat)
    (behind : ∀ y ∈ post, (clock - y.lastHeard).toNat ≤ (clock - x.lastHeard).toNat) :
    makeRoom clock (pre ++ x :: post) = pre ++ post := by
  have oldest : oldestStranger clock (pre ++ x :: post) = some x := by
    rw [oldestStranger_eq]
    refine best_eq_some_of_split (fun y hy => olderStranger_iff.2 (ahead y hy)) fun y hy => ?_
    rw [Bool.eq_false_iff, ne_eq, olderStranger_iff]
    exact Nat.not_lt.2 (behind y hy)
  have others (y) (hy : y ∈ pre ++ post) : (y.radio != x.radio) = true := by
    rw [bne_iff_ne]
    have apart : x.radio ∉ (pre ++ post).map (·.radio) := by
      have perm : ((pre ++ x :: post).map (·.radio)).Perm (x.radio :: (pre ++ post).map (·.radio)) :=
        List.perm_middle.map _
      exact (List.nodup_cons.1 (perm.nodup_iff.1 distinct)).1
    exact fun same => apart (same ▸ List.mem_map_of_mem (f := Stranger.radio) hy)
  rw [makeRoom, if_neg (show ¬(pre ++ x :: post).length < Config.strangerSize from full), oldest]
  show (pre ++ x :: post).filter (fun y => y.radio != x.radio) = _
  rw [List.filter_append, List.filter_cons_of_neg (by rw [bne_self_eq_false]; decide), ← List.filter_append,
    List.filter_eq_self.2 others]

theorem attendDesks_attention (s : State) (p : PortId) :
    s.attendDesks.attention[p] = (s.ports[p].role == .desk || s.attention[p]) := get_ofFn _ p

theorem frame_newStranger (xs : List Stranger) : ChangesOnly [.openFrames, .strangers, .attention, .reminders, .lamps] s
    ({ withoutFrame s o with strangers := xs }.attendDesks).evalOutputs := by
  refine frame_then (W := [.openFrames, .strangers, .attention, .reminders, .lamps]) ?_ frame_evalOutputs (by decide)
  refine frame_then (W := [.openFrames, .strangers, .attention, .reminders, .lamps]) (fun b hb => ?_) (frame_attend _) (by decide)
  cases b <;> first | rfl | exact absurd (by decide) hb

theorem frame_heardStranger (xs : List Stranger) : ChangesOnly [.openFrames, .strangers, .reminders, .lamps] s
    ({ withoutFrame s o with strangers := xs }).evalOutputs := by
  refine frame_then (W := [.openFrames, .strangers, .reminders, .lamps]) (fun b hb => ?_) frame_evalOutputs (by decide)
  cases b <;> first | rfl | exact absurd (by decide) hb

/-- Settles O18: a stranger is added, in a full list for the one heard longest ago, or renewed. -/
theorem strangersKept : Obligations.StrangersKept := by
  refine ⟨fun s o stands nonzero ordinary unbound => ?_, fun _ _ => rfl⟩
  have event := exec_stranger stands nonzero ordinary unbound
  refine ⟨fun fresh room => ?_, fun pre post x split full distinct fresh ahead behind => ?_, fun known => ?_⟩
  · refine ⟨_, event, ?_⟩
    rw [strangerFrame_of_new (s := withoutFrame s o) (f := o.settled) fresh]
    refine ⟨rfl, ?_, attendDesks_attention _, frame_newStranger _⟩
    show makeRoom s.clock s.strangers ++ [strangerOf o.settled s.clock] = _
    rw [makeRoom_of_room room]
    rfl
  · refine ⟨_, event, ?_⟩
    rw [strangerFrame_of_new (s := withoutFrame s o) (f := o.settled) fresh]
    refine ⟨rfl, ?_, attendDesks_attention _, frame_newStranger _⟩
    show makeRoom s.clock s.strangers ++ [strangerOf o.settled s.clock] = _
    rw [split] at full distinct
    rw [split, makeRoom_of_full (by omega) distinct ahead behind]
    rfl
  · refine ⟨_, event, ?_⟩
    rw [strangerFrame_of_known (s := withoutFrame s o) (f := o.settled) known]
    exact ⟨rfl, rfl, frame_heardStranger _⟩

end Sys2Proof.Machine.SeatWork
end

section
/-! PROOFS. Requests of one seat: HOLD and FREE (R92, R93), SWAP (R65), REVOKE (R90). -/

namespace Sys2Proof.Machine.SeatRequests

open Sys2Proof Sys2Proof.Machine Sys2Proof.Machine.Laws Sys2Proof.Machine.SlotGrades Sys2Proof.Machine.Runs
open Sys2Proof.Machine.Reads Sys2Proof.Machine.PortSettings Sys2Proof.Machine.SeatWork Sys2Proof.Machine.SyncRecords
open Sys2Proof.Machine.QueueOps Sys2Proof.Machine.Unbinding

variable {s t u : State} {i j : SeatId} {p : PortId} {c : Completion} {m : Mute} {v : Vector Mute 192}
variable {rule : State → SeatId → SeatAnswer} {ts : TagState}

/-! ## A request of one seat -/

theorem toNat_seatByte_ne_zero (i : SeatId) : (seatByte i).toNat ≠ 0 := by
  rw [toNat_seatByte]
  exact Nat.succ_ne_zero _

theorem seatOrRange_seat (s : State) (rule : State → SeatId → SeatAnswer) (ts : TagState) (i : SeatId) :
    s.seatOrRange rule ts (seatByte i).toNat =
      if (rule s i).completion = .done then (.done [byte1 (flag (rule s i).changed)], (rule s i).after)
      else (.bare (rule s i).completion, s) := by
  unfold State.seatOrRange
  rw [if_neg (toNat_seatByte_ne_zero i), seatOfNumber_seatByte]

theorem seatOrRange_of_change (h : rule s i = .change t) :
    s.seatOrRange rule ts (seatByte i).toNat = (.done [1], t) := by
  rw [seatOrRange_seat, h]
  rfl

theorem seatOrRange_of_same (h : rule s i = .same s .done) :
    s.seatOrRange rule ts (seatByte i).toNat = (.done [0], s) := by
  rw [seatOrRange_seat, h]
  rfl

theorem seatOrRange_of_refused (h : rule s i = .same s c) (hc : c ≠ .done) :
    s.seatOrRange rule ts (seatByte i).toNat = (.bare c, s) := by
  rw [seatOrRange_seat, h]
  exact if_neg hc

theorem withOutputs_bare (hc : c ≠ .done) : withOutputs (.bare c, s) = (.bare c, s) := if_neg hc

/-- A request that is answered behind an evaluation of the outputs: what it does, its answer and its frames. -/
theorem exec_changed {r : Request} {args : List Byte} {result : List Byte} {W : List Block} (h : Admitted s p r)
    (ha : args.length = r.argCount)
    (acts : (s.setTag p .none).perform p s.ports[p].tag args r = (⟨c, result, false⟩, u.evalOutputs))
    (frame : ChangesOnly W (s.setTag p .none) u) (hW : Block.ports ∉ W) :
    ∃ t, exec (r.row p args) s = .next t ∧ Answers s t p r.code c result ∧
      ChangesOnly [.ports, .reminders, .lamps] u t ∧ ChangesOnly (.ports :: .reminders :: .lamps :: W) s t := by
  have taken := exec_admitted h ha
  rw [acts] at taken
  have kept : ChangesOnly [.ports, .reminders, .lamps] u (u.evalOutputs.respond p r.code ⟨c, result, false⟩) :=
    frame_then (V := [.ports]) (frame_mono frame_evalOutputs (by decide)) (frame_respond _ _ _) (by decide)
  have ports : u.evalOutputs.ports = (s.setTag p .none).ports :=
    (frame_evalOutputs .ports (by decide)).trans (frame .ports hW)
  refine ⟨_, taken, answers_respond ports _ _ _, kept, ?_⟩
  have first : ChangesOnly (.ports :: .reminders :: .lamps :: W) s u :=
    frame_then (frame_mono (frame_setTag p .none) fun _ mem => List.mem_singleton.1 mem ▸ .head _) frame fun _ mem => .tail _ (.tail _ (.tail _ mem))
  exact frame_then first kept fun _ mem => List.mem_append_left W mem

/-! ## The mute record in a chain of steps -/

theorem derive_of_mute (h : s.mute = v.set i m) :
    (s.derive i).mute = v.set i { m with pattern := s.patternFor i, order := holdOf m.hold } := by
  rw [derive_mute, h, set_set_self, get_set_self]

theorem dropFloorMuted_of_mute (h : s.mute = v.set i m) :
    (s.dropFloorMuted i).mute = v.set i { m with floorMutedQualify := none } := by
  rw [dropFloorMuted_mute, h, set_set_self, get_set_self]

theorem slot_dropFloorMuted (s : State) (i : SeatId) : (s.dropFloorMuted i).slot (.seat i .floorMuted) = .clear :=
  grade_eq_clear.1 (setsGrade_dropFloorMuted s i).1

theorem derive_alerts (s : State) (i : SeatId) : (s.derive i).alerts = s.alerts := frame_derive i .alerts (by decide)

theorem slot_derive (s : State) (i : SeatId) (o : Source) : (s.derive i).slot o = s.slot o := slot_of_alerts (derive_alerts s i) o

theorem syncRequested_congr (seats : t.seats = s.seats) (queue : t.queue = s.queue) (syncs : t.syncs = s.syncs)
    (h : SyncRequested i t u) : SyncRequested i s u := by
  unfold SyncRequested at h
  rw [seats, queue, syncs] at h
  exact h

theorem syncRequested_of_frame {W : List Block} (h : SyncRequested i s t) (frame : ChangesOnly W t u)
    (hW : Block.queue ∉ W ∧ Block.syncs ∉ W) : SyncRequested i s u := by
  have queue : u.queue = t.queue := frame .queue hW.1
  have syncs : u.syncs = t.syncs := frame .syncs hW.2
  unfold SyncRequested
  rw [queue, syncs]
  exact h

theorem mute_at {w : Vector Mute 192} (h : w = v.set i m) : w[i] = m := by rw [h, get_set_self]

theorem sameBut_of_set {w : Vector Mute 192} (h : w = v.set i m) : SameBut i v w := h ▸ sameBut_set _ _ _

/-- A desired hold that changes asks for a SYNC (R102). -/
theorem syncRequested_derive (h : holdOf s.mute[i].hold ≠ s.mute[i].order) : SyncRequested i s (s.derive i) :=
  derive_cases (motive := SyncRequested i s) s i (fun _ same => absurd same h)
    (syncRequested_congr (t := s.modMute i _) rfl rfl rfl (syncRequested_requestSync _ i))

/-! ## HOLD -/

/-- The seat under a console hold, its FLOOR_MUTED gone (R92). -/
def consoleHeld (s : State) (i : SeatId) : State := (s.modMute i fun m => { m with hold := .console }).dropFloorMuted i

theorem consoleHeld_mute (s : State) (i : SeatId) :
    (consoleHeld s i).mute = s.mute.set i { s.mute[i] with hold := .console, floorMutedQualify := none } :=
  dropFloorMuted_of_mute (s := s.modMute i _) (modMute_mute s i _)

theorem frame_consoleHeld : ChangesOnly muteBlocks s (consoleHeld s i) :=
  frame_then (frame_mono (frame_modMute i _) (by decide)) (frame_dropFloorMuted i) (by decide)

theorem holdConsole_mute (s : State) (i : SeatId) : (s.holdConsole i).mute = s.mute.set i
    { s.mute[i] with hold := .console, floorMutedQualify := none, pattern := (consoleHeld s i).patternFor i, order := .held } :=
  derive_of_mute (s := consoleHeld s i) (consoleHeld_mute s i)

theorem holdConsole_slot (s : State) (i : SeatId) : (s.holdConsole i).slot (.seat i .floorMuted) = .clear :=
  (slot_derive (consoleHeld s i) i _).trans (slot_dropFloorMuted _ i)

theorem syncRequested_holdConsole (h : s.mute[i].order = .free) : SyncRequested i s (s.holdConsole i) := by
  refine syncRequested_congr (frame_consoleHeld .seats (by decide)) (frame_consoleHeld .queue (by decide))
    (frame_consoleHeld .syncs (by decide)) (syncRequested_derive (s := consoleHeld s i) ?_)
  rw [consoleHeld_mute, get_set_self]
  show HoldOrder.held ≠ s.mute[i].order
  rw [h]
  nofun

theorem holdRule_of_unheld (bound : s.bound i = true) (h : s.mute[i].hold ≠ .console) :
    s.holdRule i = .change (s.holdConsole i) := by
  rw [State.holdRule, if_pos bound]
  split
  · rfl
  · rfl
  next held => exact absurd held h

theorem holdRule_of_held (bound : s.bound i = true) (h : s.mute[i].hold = .console) : s.holdRule i = .same s .done := by
  rw [State.holdRule, if_pos bound, h]

theorem holdRule_of_vacant (h : s.bound i = false) : s.holdRule i = .same s .vacant := by
  rw [State.holdRule, h]
  rfl

/-! ## FREE -/

theorem freeHold_mute (s : State) (i : SeatId) : (s.freeHold i).mute = s.mute.set i
    { s.mute[i] with hold := .none, pattern := (s.modMute i fun m => { m with hold := .none }).patternFor i, order := .free } :=
  derive_of_mute (s := s.modMute i _) (modMute_mute s i _)

theorem syncRequested_freeHold (h : s.mute[i].order = .held) : SyncRequested i s (s.freeHold i) := by
  refine syncRequested_congr rfl rfl rfl (syncRequested_derive (s := s.modMute i fun m => { m with hold := .none }) ?_)
  rw [modMute_mute, get_set_self]
  show HoldOrder.free ≠ s.mute[i].order
  rw [h]
  nofun

theorem freeRule_of_held (bound : s.bound i = true) (h : s.mute[i].hold ≠ .none) : s.freeRule i = .change (s.freeHold i) := by
  rw [State.freeRule, if_pos bound]
  split
  next free => exact absurd free h
  · rfl
  · rfl

theorem freeRule_of_free (bound : s.bound i = true) (h : s.mute[i].hold = .none) : s.freeRule i = .same s .done := by
  rw [State.freeRule, if_pos bound, h]

theorem freeRule_of_vacant (h : s.bound i = false) : s.freeRule i = .same s .vacant := by
  rw [State.freeRule, h]
  rfl

theorem perform_hold (s : State) (p : PortId) (ts : TagState) (i : SeatId) : s.perform p ts [seatByte i] .hold =
    withOutputs (s.seatOrRange State.holdRule ts (seatByte i).toNat) := rfl

theorem perform_free (s : State) (p : PortId) (ts : TagState) (i : SeatId) : s.perform p ts [seatByte i] .free =
    s.seatOrRange State.freeRule ts (seatByte i).toNat := rfl

theorem exec_hold_of_unheld (h : Admitted s p .hold) (bound : s.bound i = true) (unheld : s.mute[i].hold ≠ .console) :
    ∃ t, exec (.hold p [seatByte i]) s = .next t ∧
      t.mute[i].hold = .console ∧ t.mute[i].order = .held ∧ t.mute[i].floorMutedQualify = none ∧
      t.mute[i].floor = s.mute[i].floor ∧ t.slot (.seat i .floorMuted) = .clear ∧ SameBut i s.mute t.mute ∧
      (s.mute[i].order = .free → SyncRequested i s t) ∧ Answers s t p 0x22 .done [1] ∧
      ChangesOnly [.mute, .alerts, .attention, .queue, .syncs, .ports, .reminders, .lamps] s t := by
  have acts : (s.setTag p .none).perform p s.ports[p].tag [seatByte i] .hold =
      (.done [1], ((s.setTag p .none).holdConsole i).evalOutputs) := by
    rw [perform_hold, seatOrRange_of_change (holdRule_of_unheld (s := s.setTag p .none) bound unheld), withOutputs_done]
  obtain ⟨t, taken, answers, kept, changes⟩ := exec_changed (args := [seatByte i]) h rfl acts (frame_holdConsole i) (by decide)
  have mute : t.mute = s.mute.set i _ := (kept .mute (by decide)).trans (holdConsole_mute (s.setTag p .none) i)
  have slot := (slot_of_alerts (kept .alerts (by decide)) _).trans (holdConsole_slot (s.setTag p .none) i)
  have asks (free : s.mute[i].order = .free) : SyncRequested i s t :=
    syncRequested_of_frame (syncRequested_holdConsole (s := s.setTag p .none) free) kept (by decide)
  exact ⟨t, taken, congrArg Mute.hold (mute_at mute), congrArg Mute.order (mute_at mute),
    congrArg Mute.floorMutedQualify (mute_at mute), (congrArg Mute.floor (mute_at mute)).trans rfl, slot,
    sameBut_of_set mute, asks, answers, frame_mono changes (by decide)⟩

theorem exec_free_of_held (h : Admitted s p .free) (bound : s.bound i = true) (held : s.mute[i].hold ≠ .none) :
    ∃ t, exec (.free p [seatByte i]) s = .next t ∧
      t.mute[i].hold = .none ∧ t.mute[i].order = .free ∧ t.mute[i].floor = s.mute[i].floor ∧
      SameBut i s.mute t.mute ∧ (s.mute[i].order = .held → SyncRequested i s t) ∧
      Answers s t p 0x23 .done [1] ∧ ChangesOnly [.mute, .queue, .syncs, .ports] s t := by
  have acts : (s.setTag p .none).perform p s.ports[p].tag [seatByte i] .free =
      (.done [1], (s.setTag p .none).freeHold i) := by
    rw [perform_free, seatOrRange_of_change (freeRule_of_held (s := s.setTag p .none) bound held)]
  obtain ⟨taken, answers, changes⟩ := exec_done (args := [seatByte i]) h rfl acts (frame_freeHold i) (by decide)
  have mute : ((s.setTag p .none).freeHold i).mute = s.mute.set i _ := freeHold_mute (s.setTag p .none) i
  have asks (order : s.mute[i].order = .held) := syncRequested_freeHold (s := s.setTag p .none) order
  generalize (s.setTag p .none).freeHold i = u at *
  have muteAt : u.mute[i] = _ := congrArg (fun w : Vector Mute 192 => w[i]) mute
  rw [get_set_self] at muteAt
  have others : SameBut i s.mute u.mute := mute ▸ sameBut_set _ _ _
  have floor : u.mute[i].floor = s.mute[i].floor := (congrArg Mute.floor muteAt).trans rfl
  exact ⟨_, taken, congrArg Mute.hold muteAt, congrArg Mute.order muteAt, floor, others, asks, answers,
    frame_mono changes (by decide)⟩

/-- Settles O44: the hold that HOLD and FREE leave, and their answers. -/
theorem holdAndFree : Obligations.HoldAndFree := by
  refine ⟨fun s p i h => ⟨exec_hold_of_unheld h, fun bound held => ?_, fun vacant => ?_⟩,
    fun s p i h => ⟨exec_free_of_held h, fun bound free => ?_, fun vacant => ?_⟩⟩
  · obtain ⟨taken, answers, changes⟩ := exec_done (args := [seatByte i]) h rfl
      (congrArg withOutputs (seatOrRange_of_same (s := s.setTag p .none) (holdRule_of_held bound held)))
      frame_evalOutputs (by decide)
    exact ⟨_, taken, answers, changes⟩
  · exact exec_answered (args := [seatByte i]) h rfl (congrArg withOutputs
      (seatOrRange_of_refused (s := s.setTag p .none) (holdRule_of_vacant vacant) nofun))
  · exact exec_answered (args := [seatByte i]) h rfl
      (seatOrRange_of_same (s := s.setTag p .none) (freeRule_of_free bound free))
  · exact exec_answered (args := [seatByte i]) h rfl
      (seatOrRange_of_refused (s := s.setTag p .none) (freeRule_of_vacant vacant) nofun)

/-! ## SWAP -/

/-- The battery record after SWAP at level `level` (R65). -/
def swapped (s : State) (i : SeatId) (level : Nat) : Battery :=
  { s.battery[i] with
    drain := s.params.drain[s.battery[i].cls], weighted := 0, ref := level, samples := 0,
    minutes := min 999 (16 * level / s.params.drain[s.battery[i].cls]), lowStreak := 0, critStreak := 0, status := .ok }

theorem swapSeat_battery (s : State) (i : SeatId) (level : Nat) :
    (s.swapSeat i level).battery = s.battery.set i (swapped s i level) := by
  rw [State.swapSeat, show (State.derive _ i).battery = _ from frame_derive i .battery (by decide), endBattery_battery,
    modBattery_battery, set_set_self, get_set_self]
  rfl

theorem swapSeat_slot (s : State) (i : SeatId) (level : Nat) : ((s.swapSeat i level).slot (.seat i .battery)).isRaised = false := by
  have ended : ((State.endBattery (s.modBattery i fun b => (b.swapTo s.params level).withMinutes level) i).slot
      (.seat i .battery)).severity? = none := severity_endBattery _ i
  rw [State.swapSeat, slot_derive, isRaised_eq, ← severity?_eq, ended]
  rfl

theorem swapSeat_mute (s : State) (i : SeatId) (level : Nat) : ∃ pattern order,
    (s.swapSeat i level).mute = s.mute.set i { s.mute[i] with pattern := pattern, order := order } := by
  have kept : ((s.modBattery i fun b => (b.swapTo s.params level).withMinutes level).endBattery i).mute = s.mute :=
    frame_endBattery i .mute (by decide)
  exact ⟨_, _, (derive_mute _ i).trans (by rw [kept])⟩

theorem swapRule_of_known {level : Nat} (bound : s.bound i = true) (h : s.battery[i].level = some level) :
    s.swapRule i = .change (s.swapSeat i level) := by
  rw [State.swapRule, if_pos bound, h]

theorem swapRule_of_unknown (bound : s.bound i = true) (h : s.battery[i].level = none) : s.swapRule i = .same s .absent := by
  rw [State.swapRule, if_pos bound, h]

theorem swapRule_of_vacant (h : s.bound i = false) : s.swapRule i = .same s .vacant := by
  rw [State.swapRule, h]
  rfl

theorem perform_swap (s : State) (p : PortId) (ts : TagState) (i : SeatId) : s.perform p ts [seatByte i] .swap =
    withOutputs (s.seatOrRange State.swapRule ts (seatByte i).toNat) := rfl

/-- Settles O45: the battery record that SWAP leaves, and its answers. -/
theorem swapResetsBattery : Obligations.SwapResetsBattery := by
  refine fun s p i h => ⟨fun level bound known => ?_, fun bound unknown => ?_, fun vacant => ?_⟩
  · have acts : (s.setTag p .none).perform p s.ports[p].tag [seatByte i] .swap =
        (.done [1], ((s.setTag p .none).swapSeat i level).evalOutputs) := by
      rw [perform_swap, seatOrRange_of_change (swapRule_of_known (s := s.setTag p .none) bound known), withOutputs_done]
    obtain ⟨t, taken, answers, kept, changes⟩ :=
      exec_changed (args := [seatByte i]) h rfl acts (frame_swapSeat i level) (by decide)
    obtain ⟨pattern, order, swapMute⟩ := swapSeat_mute (s.setTag p .none) i level
    have mute : t.mute = s.mute.set i _ := (kept .mute (by decide)).trans swapMute
    have battery := (kept .battery (by decide)).trans (swapSeat_battery (s.setTag p .none) i level)
    have slot : (t.slot (.seat i .battery)).isRaised = false := by
      rw [slot_of_alerts (kept .alerts (by decide))]
      exact swapSeat_slot _ i level
    exact ⟨t, taken, battery, slot, sameBut_of_set mute, (congrArg Mute.floor (mute_at mute)).trans rfl,
      (congrArg Mute.hold (mute_at mute)).trans rfl, answers, frame_mono changes (by decide)⟩
  · exact exec_answered (args := [seatByte i]) h rfl (congrArg withOutputs
      (seatOrRange_of_refused (s := s.setTag p .none) (swapRule_of_unknown bound unknown) nofun))
  · exact exec_answered (args := [seatByte i]) h rfl (congrArg withOutputs
      (seatOrRange_of_refused (s := s.setTag p .none) (swapRule_of_vacant vacant) nofun))

end Sys2Proof.Machine.SeatRequests
end

section
/-! PROOFS. Requests of several seats: REVOKE and REVOKE-ALL (R90), and a seat's rule on each seat of a list (R152). -/

namespace Sys2Proof.Machine.SeatRequests

open Sys2Proof Sys2Proof.Machine Sys2Proof.Machine.Laws Sys2Proof.Machine.SlotGrades Sys2Proof.Machine.Runs
open Sys2Proof.Machine.Reads Sys2Proof.Machine.PortSettings Sys2Proof.Machine.SeatWork Sys2Proof.Machine.SyncRecords
open Sys2Proof.Machine.Unbinding

variable {s t u : State} {i j : SeatId} {p : PortId} {rule : State → SeatId → SeatAnswer} {is : List SeatId}

/-! ## A seat left alone -/

/-- The seat's binding, mute record and condition slots are as they were. -/
structure Untouched (j : SeatId) (s t : State) : Prop where
  bound : t.bound j = s.bound j
  mute : t.mute[j] = s.mute[j]
  grades : ∀ k, SlotGrades.grade (t.slot (.seat j k)) = SlotGrades.grade (s.slot (.seat j k))

theorem Untouched.refl (j : SeatId) (s : State) : Untouched j s s := ⟨rfl, rfl, fun _ => rfl⟩

theorem Untouched.trans (h : Untouched j s t) (k : Untouched j t u) : Untouched j s u :=
  ⟨k.bound.trans h.bound, k.mute.trans h.mute, fun x => (k.grades x).trans (h.grades x)⟩

theorem untouched_of_sets {m : Mute} (ne : j ≠ i) (seats : t.seats = s.seats) (mute : t.mute = s.mute.set i m)
    (grades : ∀ k, SlotGrades.grade (t.slot (.seat j k)) = SlotGrades.grade (s.slot (.seat j k))) : Untouched j s t where
  bound := by rw [State.bound, State.bound, seats]
  mute := by rw [mute, get_set_ne _ ne]
  grades := grades

theorem indicatorFollows_of_untouched (h : IndicatorFollows s i) (k : Untouched i s t) : IndicatorFollows t i := by
  unfold IndicatorFollows
  rw [k.mute, isRaised_of_grade (k.grades .voiceInMute), isRaised_of_grade (k.grades .floorMuted),
    severity?_of_grade (k.grades .battery)]
  exact h

theorem untouched_of_frame {W : List Block} (frame : ChangesOnly W s t)
    (hW : Block.mute ∉ W ∧ Block.alerts ∉ W ∧ Block.seats ∉ W) : Untouched j s t where
  bound := by rw [State.bound, State.bound, show t.seats = s.seats from frame .seats hW.2.2]
  mute := by rw [show t.mute = s.mute from frame .mute hW.1]
  grades k := by rw [slot_of_alerts (frame .alerts hW.2.1)]

/-! ## A rule on each seat of a list -/

theorem foldl_rule_count (rule : State → SeatId → SeatAnswer) (is : List SeatId) (n : Nat) (s : State) :
    is.foldl (fun acc i => let a := rule acc.2 i; (acc.1 + flag a.changed, a.after)) (n, s) =
      (n + (s.overSeats rule is).1, (s.overSeats rule is).2) := by
  unfold State.overSeats
  induction is generalizing n s with
  | nil => rfl
  | cons i is ih =>
    rw [List.foldl_cons, List.foldl_cons, ih, ih (0 + _)]
    simp only [Nat.zero_add, Nat.add_assoc]

theorem overSeats_cons (s : State) (rule : State → SeatId → SeatAnswer) (i : SeatId) (is : List SeatId) :
    s.overSeats rule (i :: is) =
      (flag (rule s i).changed + ((rule s i).after.overSeats rule is).1, ((rule s i).after.overSeats rule is).2) := by
  rw [State.overSeats, List.foldl_cons, foldl_rule_count, Nat.zero_add]

/-- A rule that leaves other seats alone: each seat of the list is served as if alone, and those that change are counted. -/
theorem overSeats_spec {R : SeatId → State → State → Prop} {changes : State → SeatId → Bool}
    (serves : ∀ s i, R i s (rule s i).after) (counts : ∀ s i, (rule s i).changed = changes s i)
    (apart : ∀ {s i j}, j ≠ i → Untouched j s (rule s i).after)
    (sees : ∀ {s t j}, Untouched j s t → changes t j = changes s j)
    (served : ∀ {s t u j}, Untouched j s t → R j t u → R j s u) (lasts : ∀ {s t u j}, R j s t → Untouched j t u → R j s u)
    (nd : is.Nodup) (s : State) :
    (s.overSeats rule is).1 = is.countP (changes s) ∧ (∀ j ∈ is, R j s (s.overSeats rule is).2) ∧
      ∀ j, j ∉ is → Untouched j s (s.overSeats rule is).2 := by
  induction is generalizing s with
  | nil => exact ⟨rfl, nofun, fun j _ => .refl j s⟩
  | cons i is ih =>
    obtain ⟨fresh, nd⟩ := List.nodup_cons.1 nd
    obtain ⟨count, each, others⟩ := ih nd (rule s i).after
    have away (j) (hj : j ∈ is) : j ≠ i := fun same => fresh (same ▸ hj)
    rw [overSeats_cons]
    refine ⟨?_, fun j hj => ?_, fun j hj => ?_⟩
    · have same : is.countP (changes (rule s i).after) = is.countP (changes s) :=
        List.countP_congr fun j hj => by rw [sees (apart (away j hj))]
      rw [List.countP_cons, count, counts, same, Nat.add_comm]
      rfl
    · rcases List.mem_cons.1 hj with rfl | hj
      · exact lasts (serves s j) (others j fresh)
      · exact served (apart (away j hj)) (each j hj)
    · obtain ⟨ne, out⟩ := not_or.1 (List.mem_cons.not.1 hj)
      exact (apart ne).trans (others j out)

/-! ## REVOKE -/

/-- The seat without the floor, its FLOOR_MUTED gone (R90). -/
def floorTaken (s : State) (i : SeatId) : State := (s.takeFloor i).dropFloorMuted i

theorem floorTaken_mute (s : State) (i : SeatId) :
    (floorTaken s i).mute = s.mute.set i { s.mute[i] with floor := false, floorMutedQualify := none } :=
  dropFloorMuted_of_mute (s := s.takeFloor i) (modMute_mute s i fun m => { m with floor := false })

theorem revokeFloor_mute (s : State) (i : SeatId) : (s.revokeFloor i).mute = s.mute.set i
    { s.mute[i] with
      floor := false, floorMutedQualify := none, pattern := (floorTaken s i).patternFor i, order := holdOf s.mute[i].hold } :=
  derive_of_mute (s := floorTaken s i) (floorTaken_mute s i)

theorem revokeFloor_slot (s : State) (i : SeatId) : (s.revokeFloor i).slot (.seat i .floorMuted) = .clear :=
  (slot_derive (floorTaken s i) i _).trans (slot_dropFloorMuted _ i)

theorem revokeFloor_floorCount (s : State) (i : SeatId) : (s.revokeFloor i).floorCount = s.floorCount - 1 := by
  rw [State.revokeFloor, show (State.derive _ i).floorCount = _ from frame_derive i .floorCount (by decide),
    show (State.dropFloorMuted _ i).floorCount = _ from frame_dropFloorMuted i .floorCount (by decide)]
  rfl

theorem grade_revokeFloor {o : Source} (ne : o ≠ .seat i .floorMuted) :
    SlotGrades.grade ((s.revokeFloor i).slot o) = SlotGrades.grade (s.slot o) := by
  rw [State.revokeFloor, slot_derive, (setsGrade_dropFloorMuted (s.takeFloor i) i).2 o ne]
  rfl

/-- What REVOKE leaves of a seat that held the floor (R90). -/
structure Revoked (i : SeatId) (s t : State) : Prop where
  floor : t.mute[i].floor = false
  hold : t.mute[i].hold = s.mute[i].hold
  slot : t.slot (.seat i .floorMuted) = .clear
  timer : t.mute[i].floorMutedQualify = none
  indicator : IndicatorFollows t i

theorem revoked_revokeFloor (s : State) (i : SeatId) : Revoked i s (s.revokeFloor i) := by
  have mute : (s.revokeFloor i).mute[i] = { s.mute[i] with floor := false, floorMutedQualify := none, pattern := (floorTaken s i).patternFor i, order := holdOf s.mute[i].hold } := by
    rw [revokeFloor_mute, get_set_self]
  exact ⟨by rw [mute], by rw [mute], revokeFloor_slot s i, by rw [mute], indicatorFollows_derive _ i⟩

theorem Revoked.lasts (h : Revoked i s t) (k : Untouched i t u) : Revoked i s u where
  floor := by rw [k.mute, h.floor]
  hold := by rw [k.mute, h.hold]
  slot := by rw [← grade_eq_clear, k.grades, h.slot]; rfl
  timer := by rw [k.mute, h.timer]
  indicator := indicatorFollows_of_untouched h.indicator k

theorem Revoked.of_untouched (h : Untouched i s t) (k : Revoked i t u) : Revoked i s u :=
  { k with hold := k.hold.trans (congrArg Mute.hold h.mute) }

theorem untouched_revokeFloor (ne : j ≠ i) : Untouched j s (s.revokeFloor i) :=
  untouched_of_sets ne (frame_revokeFloor i .seats (by decide)) (revokeFloor_mute s i)
    fun k => grade_revokeFloor fun same => ne (Source.seat.inj same).1

theorem revokeRule_of_floor (bound : s.bound i = true) (h : s.mute[i].floor = true) :
    s.revokeRule i = .change (s.revokeFloor i) := by
  rw [State.revokeRule, if_pos bound, if_pos h]

theorem revokeRule_of_without (bound : s.bound i = true) (h : s.mute[i].floor = false) : s.revokeRule i = .same s .done := by
  rw [State.revokeRule, if_pos bound, h]
  rfl

theorem revokeRule_of_vacant (h : s.bound i = false) : s.revokeRule i = .same s .vacant := by
  rw [State.revokeRule, h]
  rfl

theorem revokeRule_cases {motive : SeatAnswer → Prop} (s : State) (i : SeatId)
    (takes : s.bound i = true → s.mute[i].floor = true → motive (.change (s.revokeFloor i)))
    (stays : ∀ c, (s.bound i && s.mute[i].floor) = false → motive (.same s c)) : motive (s.revokeRule i) := by
  cases bound : s.bound i with
  | false =>
    rw [revokeRule_of_vacant bound]
    exact stays _ (by rw [bound]; rfl)
  | true =>
    cases held : s.mute[i].floor with
    | false =>
      rw [revokeRule_of_without bound held]
      exact stays _ (by rw [held, Bool.and_false])
    | true =>
      rw [revokeRule_of_floor bound held]
      exact takes bound held

/-- The seat holds the floor, and is bound. -/
def holdsFloor (s : State) (i : SeatId) : Bool := s.bound i && s.mute[i].floor

theorem holdsFloor_untouched (h : Untouched j s t) : holdsFloor t j = holdsFloor s j := by
  rw [holdsFloor, holdsFloor, h.bound, h.mute]

theorem revokeOver_spec (nd : is.Nodup) (s : State) :
    (s.overSeats State.revokeRule is).1 = is.countP (holdsFloor s) ∧
      (∀ j ∈ is, holdsFloor s j = true → Revoked j s (s.overSeats State.revokeRule is).2) ∧
      ∀ j, j ∉ is → Untouched j s (s.overSeats State.revokeRule is).2 :=
  overSeats_spec (R := fun j s t => holdsFloor s j = true → Revoked j s t) (changes := holdsFloor)
    (fun s i => revokeRule_cases (motive := fun a => holdsFloor s i = true → Revoked i s a.after) s i
      (fun _ _ _ => revoked_revokeFloor s i) fun c without held => absurd (without.symm.trans held) nofun)
    (fun s i => revokeRule_cases (motive := fun a => a.changed = holdsFloor s i) s i
      (fun bound held => by rw [holdsFloor, bound, held]; rfl) fun c without => without.symm)
    (fun {s i j} ne => revokeRule_cases (motive := fun a => Untouched j s a.after) s i
      (fun _ _ => untouched_revokeFloor ne) fun c _ => .refl j s)
    holdsFloor_untouched
    (fun h k held => .of_untouched h (k ((holdsFloor_untouched h).trans held)))
    (fun h k held => (h held).lasts k) nd s

theorem revokeOver_floorCount (s : State) (is : List SeatId) : (s.overSeats State.revokeRule is).2.floorCount =
    s.floorCount - (s.overSeats State.revokeRule is).1 := by
  induction is generalizing s with
  | nil => rfl
  | cons i is ih =>
    have one : (s.revokeRule i).after.floorCount = s.floorCount - flag (s.revokeRule i).changed :=
      revokeRule_cases (motive := fun a => a.after.floorCount = s.floorCount - flag a.changed) s i
        (fun _ _ => revokeFloor_floorCount s i) fun c _ => rfl
    rw [overSeats_cons, ih, one, Nat.sub_sub]

/-- The seats that hold the floor, in seat-number order. -/
def floorSeats (s : State) : List SeatId := allSeats.filter fun i => s.mute[i].floor

theorem mem_floorSeats : i ∈ floorSeats s ↔ s.mute[i].floor = true :=
  List.mem_filter.trans (and_iff_right (List.mem_finRange i))

theorem revokeAllRequest_eq (s : State) : s.revokeAllRequest =
    (.done [byte1 (s.overSeats State.revokeRule (floorSeats s)).1],
      (s.overSeats State.revokeRule (floorSeats s)).2.evalOutputs) := rfl

theorem countP_floorSeats (h : ∀ i : SeatId, s.mute[i].floor = true → s.bound i = true) :
    (floorSeats s).countP (holdsFloor s) = (List.finRange 192).countP fun i => s.mute[i].floor := by
  rw [floorSeats, List.countP_filter]
  refine List.countP_congr fun i _ => ?_
  rw [holdsFloor]
  cases floor : s.mute[i].floor with
  | false => simp only [Bool.and_false]
  | true => simp only [h i floor, Bool.and_true]

theorem revokedOver_seat {v w : State} (same : v.mute = s.mute) (owners : ∀ i : SeatId, v.mute[i].floor = true → v.bound i = true)
    (each : ∀ i : SeatId, v.mute[i].floor = true → holdsFloor v i = true → Revoked i v w)
    (others : ∀ i : SeatId, ¬v.mute[i].floor = true → Untouched i v w) (i : SeatId) :
    w.mute[i].floor = false ∧ w.mute[i].hold = s.mute[i].hold ∧ (s.mute[i].floor = false → w.mute[i] = s.mute[i]) ∧
      (s.mute[i].floor = true → w.slot (.seat i .floorMuted) = .clear ∧ w.mute[i].floorMutedQualify = none ∧
        IndicatorFollows w i) := by
  rw [← same]
  cases held : v.mute[i].floor with
  | false =>
    have same := (others i (Bool.eq_false_iff.1 held)).mute
    exact ⟨(congrArg Mute.floor same).trans held, congrArg Mute.hold same, fun _ => same, nofun⟩
  | true =>
    have revoked := each i held (Bool.and_eq_true_iff.2 ⟨owners i held, held⟩)
    exact ⟨revoked.floor, revoked.hold, nofun, fun _ => ⟨revoked.slot, revoked.timer, revoked.indicator⟩⟩

theorem revoked_of_frame {W : List Block} (h : Revoked i s t) (frame : ChangesOnly W t u)
    (hW : Block.mute ∉ W ∧ Block.alerts ∉ W ∧ Block.seats ∉ W) : Revoked i s u :=
  h.lasts (untouched_of_frame frame hW)

theorem perform_revoke (s : State) (p : PortId) (ts : TagState) (i : SeatId) : s.perform p ts [seatByte i] .revoke =
    withOutputs (s.seatOrRange State.revokeRule ts (seatByte i).toNat) := rfl

theorem exec_revoke_of_floor (h : Admitted s p .revoke) (bound : s.bound i = true) (held : s.mute[i].floor = true) :
    ∃ t, exec (.revoke p [seatByte i]) s = .next t ∧
      t.mute[i].floor = false ∧ t.floorCount = s.floorCount - 1 ∧ t.mute[i].hold = s.mute[i].hold ∧
      t.slot (.seat i .floorMuted) = .clear ∧ t.mute[i].floorMutedQualify = none ∧ IndicatorFollows t i ∧
      SameBut i s.mute t.mute ∧ Answers s t p 0x26 .done [1] ∧
      ChangesOnly [.mute, .floorCount, .alerts, .attention, .queue, .syncs, .ports, .reminders, .lamps] s t := by
  have acts : (s.setTag p .none).perform p s.ports[p].tag [seatByte i] .revoke =
      (.done [1], ((s.setTag p .none).revokeFloor i).evalOutputs) := by
    rw [perform_revoke, seatOrRange_of_change (revokeRule_of_floor (s := s.setTag p .none) bound held), withOutputs_done]
  obtain ⟨t, taken, answers, kept, changes⟩ := exec_changed (args := [seatByte i]) h rfl acts (frame_revokeFloor i) (by decide)
  have mute : t.mute = s.mute.set i _ := (kept .mute (by decide)).trans (revokeFloor_mute (s.setTag p .none) i)
  have count := (kept .floorCount (by decide)).trans (revokeFloor_floorCount (s.setTag p .none) i)
  obtain ⟨floor, hold, slot, timer, indicator⟩ :=
    revoked_of_frame (revoked_revokeFloor (s.setTag p .none) i) kept (by decide)
  exact ⟨t, taken, floor, count, hold, slot, timer, indicator, sameBut_of_set mute, answers, frame_mono changes (by decide)⟩

theorem exec_revokeAll (h : Admitted s p .revokeAll) (owners : ∀ i : SeatId, s.mute[i].floor = true → s.bound i = true) :
    ∃ t, exec (.revokeAll p []) s = .next t ∧
      (∀ i : SeatId, t.mute[i].floor = false ∧ t.mute[i].hold = s.mute[i].hold ∧
        (s.mute[i].floor = false → t.mute[i] = s.mute[i]) ∧
        (s.mute[i].floor = true → t.slot (.seat i .floorMuted) = .clear ∧ t.mute[i].floorMutedQualify = none ∧
          IndicatorFollows t i)) ∧
      t.floorCount = s.floorCount - (List.finRange 192).countP (fun i => s.mute[i].floor) ∧
      Answers s t p 0x27 .done [byte1 ((List.finRange 192).countP fun i => s.mute[i].floor)] ∧
      ChangesOnly [.mute, .floorCount, .alerts, .attention, .queue, .syncs, .ports, .reminders, .lamps] s t := by
  have frame : ChangesOnly (.floorCount :: orderBlocks) (s.setTag p .none)
      ((s.setTag p .none).overSeats State.revokeRule (floorSeats (s.setTag p .none))).2 :=
    frame_overSeats _ _ fun _ i => frame_revokeRule i
  obtain ⟨t, taken, answers, kept, changes⟩ :=
    exec_changed (args := []) h rfl (revokeAllRequest_eq (s.setTag p .none)) frame (by decide)
  have count : _ = s.floorCount - _ := revokeOver_floorCount (s.setTag p .none) (floorSeats (s.setTag p .none))
  obtain ⟨total, each, others⟩ := revokeOver_spec (is := floorSeats (s.setTag p .none))
    ((List.nodup_finRange 192).filter _) (s.setTag p .none)
  have all : (floorSeats (s.setTag p .none)).countP (holdsFloor (s.setTag p .none)) =
      (List.finRange 192).countP fun i => s.mute[i].floor := countP_floorSeats (s := s.setTag p .none) owners
  rw [all] at total
  rw [total] at count answers
  have ended (i : SeatId) := untouched_of_frame (j := i) kept (by decide)
  refine ⟨t, taken, ?_, (kept .floorCount (by decide)).trans count, answers, frame_mono changes (by decide)⟩
  exact revokedOver_seat (s := s) (v := s.setTag p .none) rfl owners
    (fun i held own => (each i (mem_floorSeats.2 held) own).lasts (ended i))
    (fun i without => (others i fun mem => without (mem_floorSeats.1 mem)).trans (ended i))

/-- Settles O47: what REVOKE and REVOKE-ALL leave, and their answers. -/
theorem revokeTakesFloor : Obligations.RevokeTakesFloor := by
  refine ⟨fun s p i h => ⟨exec_revoke_of_floor h, fun bound without => ?_, fun vacant => ?_⟩, fun s p h => exec_revokeAll h⟩
  · obtain ⟨taken, answers, changes⟩ := exec_done (args := [seatByte i]) h rfl
      (congrArg withOutputs (seatOrRange_of_same (s := s.setTag p .none) (revokeRule_of_without bound without)))
      frame_evalOutputs (by decide)
    exact ⟨_, taken, answers, changes⟩
  · exact exec_answered (args := [seatByte i]) h rfl (congrArg withOutputs
      (seatOrRange_of_refused (s := s.setTag p .none) (revokeRule_of_vacant vacant) nofun))

end Sys2Proof.Machine.SeatRequests
end

section
/-! PROOFS. Requests on a tagged range of seats, and the tag state (R151, R152). -/

namespace Sys2Proof.Machine.SeatRequests

open Sys2Proof Sys2Proof.Machine Sys2Proof.Machine.Laws Sys2Proof.Machine.SlotGrades Sys2Proof.Machine.Runs
open Sys2Proof.Machine.Reads Sys2Proof.Machine.PortSettings Sys2Proof.Machine.SeatWork Sys2Proof.Machine.Unbinding
open Sys2Proof.Machine.SimpleCommands Sys2Proof.Machine.PowerAndRestart Sys2Proof.Machine.EventFrames Sys2Proof.Machine.LampSetting

variable {s t u v : State} {i j : SeatId} {p : PortId} {r : Request} {c : Completion} {x : Reply × State}
variable {rule : State → SeatId → SeatAnswer} {is : List SeatId} {ts : TagState} {a b : SeatId}

/-! ## FREE on a range -/

theorem freeRule_cases {motive : SeatAnswer → Prop} (s : State) (i : SeatId)
    (frees : s.bound i = true → s.mute[i].hold ≠ .none → motive (.change (s.freeHold i)))
    (stays : ∀ c, s.bound i = false ∨ s.mute[i].hold = .none → motive (.same s c)) : motive (s.freeRule i) := by
  cases bound : s.bound i with
  | false =>
    rw [freeRule_of_vacant bound]
    exact stays _ (.inl bound)
  | true =>
    by_cases free : s.mute[i].hold = .none
    · rw [freeRule_of_free bound free]
      exact stays _ (.inr free)
    · rw [freeRule_of_held bound free]
      exact frees bound free

/-- The seat is bound and under a hold. -/
def underHold (s : State) (i : SeatId) : Bool := s.bound i && s.mute[i].hold != .none

/-- What FREE leaves of a seat (R93). -/
structure Freed (i : SeatId) (s t : State) : Prop where
  hold : s.bound i = true → t.mute[i].hold = .none
  same : s.mute[i].hold = .none → t.mute[i] = s.mute[i]
  order : s.bound i = true → s.mute[i].hold ≠ .none → t.mute[i].order = .free
  vacant : s.bound i = false → t.mute[i] = s.mute[i]

theorem freed_freeHold (bound : s.bound i = true) (held : s.mute[i].hold ≠ .none) : Freed i s (s.freeHold i) := by
  have mute : (s.freeHold i).mute[i] = _ := congrArg (fun w : Vector Mute 192 => w[i]) (freeHold_mute s i)
  rw [get_set_self] at mute
  exact ⟨fun _ => congrArg Mute.hold mute, fun free => absurd free held, fun _ _ => congrArg Mute.order mute,
    fun vacant => absurd (bound.symm.trans vacant) nofun⟩

theorem freed_self (h : s.bound i = false ∨ s.mute[i].hold = .none) : Freed i s s where
  hold bound := h.resolve_left fun vacant => absurd (bound.symm.trans vacant) nofun
  same _ := rfl
  order bound held := absurd (h.resolve_left fun vacant => absurd (bound.symm.trans vacant) nofun) held
  vacant _ := rfl

theorem Freed.lasts (h : Freed i s t) (k : Untouched i t u) : Freed i s u where
  hold bound := by rw [k.mute, h.hold bound]
  same free := by rw [k.mute, h.same free]
  order bound held := by rw [k.mute, h.order bound held]
  vacant none := by rw [k.mute, h.vacant none]

theorem Freed.of_untouched (h : Untouched i s t) (k : Freed i t u) : Freed i s u where
  hold bound := k.hold (h.bound.trans bound)
  same free := (k.same ((congrArg Mute.hold h.mute).trans free)).trans h.mute
  order bound held := k.order (h.bound.trans bound) fun free => held ((congrArg Mute.hold h.mute).symm.trans free)
  vacant none := (k.vacant (h.bound.trans none)).trans h.mute

theorem untouched_freeHold (ne : j ≠ i) : Untouched j s (s.freeHold i) :=
  untouched_of_sets ne (frame_freeHold i .seats (by decide)) (freeHold_mute s i) fun _ =>
    congrArg SlotGrades.grade (slot_of_alerts (frame_freeHold i .alerts (by decide)) _)

theorem underHold_untouched (h : Untouched j s t) : underHold t j = underHold s j := by
  rw [underHold, underHold, h.bound, h.mute]

theorem not_underHold (h : s.bound i = false ∨ s.mute[i].hold = .none) : underHold s i = false := by
  rcases h with vacant | free
  · rw [underHold, vacant, Bool.false_and]
  · rw [underHold, free]
    exact Bool.and_false _

theorem freeOver_spec (nd : is.Nodup) (s : State) :
    (s.overSeats State.freeRule is).1 = is.countP (underHold s) ∧
      (∀ j ∈ is, Freed j s (s.overSeats State.freeRule is).2) ∧
      ∀ j, j ∉ is → Untouched j s (s.overSeats State.freeRule is).2 :=
  overSeats_spec (R := Freed) (changes := underHold)
    (fun s i => freeRule_cases (motive := fun a => Freed i s a.after) s i freed_freeHold fun _ => freed_self)
    (fun s i => freeRule_cases (motive := fun a => a.changed = underHold s i) s i
      (fun bound held => by
        rw [underHold, bound, bne_iff_ne.2 held]
        rfl)
      fun _ h => (not_underHold h).symm)
    (fun {s i j} ne => freeRule_cases (motive := fun a => Untouched j s a.after) s i
      (fun _ _ => untouched_freeHold ne) fun _ _ => .refl j s)
    underHold_untouched .of_untouched .lasts nd s

theorem countP_underHold (s : State) (a b : SeatId) : (seatsBetween a b).countP (underHold s) =
    (List.finRange 192).countP fun i => decide (a ≤ i) && decide (i ≤ b) && s.bound i && s.mute[i].hold != .none := by
  rw [seatsBetween, List.countP_filter]
  refine List.countP_congr fun i _ => ?_
  rw [underHold, Bool.and_comm, Bool.and_assoc (_ && _)]

/-! ## The six requests of a seat or a range -/

theorem seatOrRange_range (s : State) (rule : State → SeatId → SeatAnswer) (a b : SeatId) :
    s.seatOrRange rule (.range a b) 0 =
      (.done [byte1 (s.overSeats rule (seatsBetween a b)).1], (s.overSeats rule (seatsBetween a b)).2) := rfl

theorem seatOrRange_untagged (rule : State → SeatId → SeatAnswer) (h : ∀ a b, ts ≠ .range a b) :
    s.seatOrRange rule ts 0 = (.bare .sequence, s) := by
  cases ts with
  | range a b => exact absurd rfl (h a b)
  | none => rfl
  | first a => rfl

theorem seatOrRange_beyond {n : Byte} (rule : State → SeatId → SeatAnswer) (h : 192 < n.toNat) :
    s.seatOrRange rule ts n.toNat = (.bare .badArgument, s) := by
  have nonzero : n.toNat ≠ 0 := by omega
  unfold State.seatOrRange
  rw [if_neg nonzero, seatOfNumber_of_invalid (.inr h)]

/-- The requests that take one seat or a tagged range. -/
def rangeRequests : List Request := [.quiet, .unquiet, .hold, .free, .swap, .revoke]

/-- The per-seat rule of a request that takes one seat or a tagged range. -/
def seatRule : Request → State → SeatId → SeatAnswer
  | .quiet => State.quietRule
  | .unquiet => State.unquietRule
  | .hold => State.holdRule
  | .free => State.freeRule
  | .swap => State.swapRule
  | .revoke => State.revokeRule
  | _ => fun s _ => .same s .done

/-- The outputs are evaluated behind the requests that can change the roster. -/
def outputsBehind (r : Request) (x : Reply × State) : Reply × State := if r = .quiet ∨ r = .free then x else withOutputs x

theorem perform_rangeRequest (h : r ∈ rangeRequests) (args : List Byte) :
    s.perform p ts args r = outputsBehind r (s.seatOrRange (seatRule r) ts (argNat args 0)) := by
  simp only [rangeRequests, List.mem_cons, List.not_mem_nil, or_false] at h
  rcases h with rfl | rfl | rfl | rfl | rfl | rfl <;> rfl

theorem argCount_rangeRequest (h : r ∈ rangeRequests) : r.argCount = 1 := by
  simp only [rangeRequests, List.mem_cons, List.not_mem_nil, or_false] at h
  rcases h with rfl | rfl | rfl | rfl | rfl | rfl <;> rfl

theorem outputsBehind_bare (hc : c ≠ .done) : outputsBehind r (.bare c, s) = (.bare c, s) := by
  unfold outputsBehind
  rw [withOutputs_bare hc, ite_self]

theorem outputsBehind_done (r : Request) (result : List Byte) (s : State) : ∃ t,
    outputsBehind r (.done result, s) = (.done result, t) ∧ (t = s ∨ t = s.evalOutputs) := by
  unfold outputsBehind
  split
  · exact ⟨s, rfl, .inl rfl⟩
  · exact ⟨s.evalOutputs, rfl, .inr rfl⟩

theorem frame_outputsBehind (h : t = s ∨ t = s.evalOutputs) : ChangesOnly [.reminders, .lamps] s t := by
  rcases h with rfl | rfl
  · exact frame_refl
  · exact frame_evalOutputs

/-- What the rule of a request of one seat may change. -/
def ruleBlocks : List Block := [.seats, .battery, .mute, .floorCount, .alerts, .attention, .queue, .syncs]

theorem frame_seatRule (r : Request) (s : State) (i : SeatId) : ChangesOnly ruleBlocks s (seatRule r s i).after := by
  unfold seatRule
  split
  · exact frame_mono (frame_quietRule i) (by decide)
  · exact frame_mono (frame_unquietRule i) (by decide)
  · exact frame_mono (frame_holdRule i) (by decide)
  · exact frame_mono (frame_freeRule i) (by decide)
  · exact frame_mono (frame_swapRule i) (by decide)
  · exact frame_mono (frame_revokeRule i) (by decide)
  · exact frame_refl

/-- A rule changes the seat, or leaves it with an answer. -/
def Answering (s : State) (x : SeatAnswer) : Prop := (∃ t, x = .change t) ∨ ∃ c, x = .same s c

theorem answering_quietRule (s : State) (i : SeatId) : Answering s (s.quietRule i) := by
  unfold State.quietRule
  split
  · split
    · exact .inr ⟨_, rfl⟩
    · exact .inl ⟨_, rfl⟩
  all_goals exact .inr ⟨_, rfl⟩

theorem answering_unquietRule (s : State) (i : SeatId) : Answering s (s.unquietRule i) := by
  unfold State.unquietRule
  split
  · exact .inl ⟨_, rfl⟩
  · exact .inr ⟨_, rfl⟩

theorem answering_holdRule (s : State) (i : SeatId) : Answering s (s.holdRule i) := by
  cases bound : s.bound i with
  | false => exact .inr ⟨_, holdRule_of_vacant bound⟩
  | true =>
    by_cases held : s.mute[i].hold = .console
    · exact .inr ⟨_, holdRule_of_held bound held⟩
    · exact .inl ⟨_, holdRule_of_unheld bound held⟩

theorem answering_swapRule (s : State) (i : SeatId) : Answering s (s.swapRule i) := by
  cases bound : s.bound i with
  | false => exact .inr ⟨_, swapRule_of_vacant bound⟩
  | true =>
    cases level : s.battery[i].level with
    | none => exact .inr ⟨_, swapRule_of_unknown bound level⟩
    | some n => exact .inl ⟨_, swapRule_of_known bound level⟩

theorem answering_seatRule (r : Request) (s : State) (i : SeatId) : Answering s (seatRule r s i) := by
  unfold seatRule
  split
  · exact answering_quietRule s i
  · exact answering_unquietRule s i
  · exact answering_holdRule s i
  · exact freeRule_cases (motive := Answering s) s i (fun _ _ => .inl ⟨_, rfl⟩) fun _ _ => .inr ⟨_, rfl⟩
  · exact answering_swapRule s i
  · exact revokeRule_cases (motive := Answering s) s i (fun _ _ => .inl ⟨_, rfl⟩) fun _ _ => .inr ⟨_, rfl⟩
  · exact .inr ⟨_, rfl⟩

/-! ## The range is served as its seats one by one -/

/-- A state as it is between the requests of the seats: ports and outputs as they were at first. -/
def relayed (s v : State) : State := { v with ports := s.ports, reminders := s.reminders, lamps := s.lamps }

/-- A state within a request that the port took in `s`: its part, ports and outputs. -/
structure Within (s : State) (p : PortId) (v : State) : Prop where
  part : v.part = s.part
  ports : v.ports = (s.setTag p .none).ports
  reminders : v.reminders = s.reminders
  lamps : v.lamps = s.lamps

theorem within_setTag (s : State) (p : PortId) : Within s p (s.setTag p .none) := ⟨rfl, rfl, rfl, rfl⟩

theorem Within.afterRule (h : Within s p v) (r : Request) (i : SeatId) : Within s p (seatRule r v i).after where
  part := (frame_seatRule r v i .part (by decide)).trans h.part
  ports := (frame_seatRule r v i .ports (by decide)).trans h.ports
  reminders := (frame_seatRule r v i .reminders (by decide)).trans h.reminders
  lamps := (frame_seatRule r v i .lamps (by decide)).trans h.lamps

theorem relayed_setTag (h : Within s p v) : (relayed s v).setTag p .none = v := by
  obtain ⟨-, ports, reminders, lamps⟩ := h
  show { v with ports := (s.setTag p .none).ports, reminders := s.reminders, lamps := s.lamps } = v
  rw [← ports, ← reminders, ← lamps]

theorem admitted_relayed (h : Within s p v) (admitted : Admitted s p r) : Admitted (relayed s v) p r := by
  obtain ⟨ready, listens, idle, permits⟩ := admitted
  exact ⟨h.part.trans ready, listens, idle, permits⟩

theorem respond_response (s : State) (p : PortId) (code : Byte) (x : Reply) :
    (s.respond p code x).ports[p].response = some ⟨code, x.completion, s.ports[p].overrun, x.result, x.restarts⟩ := by
  rw [State.respond, modPort_ports, get_set_self]

theorem relayed_respond (h : t = v ∨ t = v.evalOutputs) (code : Byte) (x : Reply) :
    { t.respond p code x with ports := s.ports, reminders := s.reminders, lamps := s.lamps } = relayed s v := by
  rcases h with rfl | rfl <;> rfl

theorem requestOnSeat_eq {n : Nat} (hr : r ∈ rangeRequests) (admitted : Admitted s p r) (h : Within s p v) (i : SeatId) :
    requestOnSeat p r (n, relayed s v) i =
      (n + flag (seatRule r v i).changed, relayed s (seatRule r v i).after) := by
  have taken := exec_admitted (args := [seatByte i]) (admitted_relayed h admitted) (argCount_rangeRequest hr).symm
  rw [relayed_setTag h, perform_rangeRequest hr] at taken
  have named : argNat [seatByte i] 0 = (seatByte i).toNat := rfl
  rw [named] at taken
  unfold requestOnSeat
  dsimp only
  rcases answering_seatRule r v i with ⟨w, change⟩ | ⟨c, same⟩
  · rw [seatOrRange_of_change change] at taken
    obtain ⟨t, out, ht⟩ := outputsBehind_done r [1] w
    rw [out] at taken
    rw [taken, change]
    dsimp only
    rw [respond_response]
    exact Prod.ext rfl (relayed_respond ht _ _)
  · by_cases done : c = .done
    · subst done
      rw [seatOrRange_of_same same] at taken
      obtain ⟨t, out, ht⟩ := outputsBehind_done r [0] v
      rw [out] at taken
      rw [taken, same]
      dsimp only
      rw [respond_response]
      exact Prod.ext rfl (relayed_respond ht _ _)
    · rw [seatOrRange_of_refused same done, outputsBehind_bare done] at taken
      rw [taken, same]
      dsimp only
      rw [respond_response, Option.any_some]
      have refused : (decide ((Reply.bare c).completion = .done) && decide ((Reply.bare c).result = [1])) = false := by
        rw [decide_eq_false (show ¬(Reply.bare c).completion = .done from done), Bool.false_and]
      rw [refused]
      exact Prod.ext rfl (relayed_respond (.inl rfl) _ _)

theorem foldl_requestOnSeat (hr : r ∈ rangeRequests) (admitted : Admitted s p r) (is : List SeatId) (n : Nat) :
    ∀ {v : State}, Within s p v → is.foldl (requestOnSeat p r) (n, relayed s v) =
      (n + (v.overSeats (seatRule r) is).1, relayed s (v.overSeats (seatRule r) is).2) := by
  induction is generalizing n with
  | nil => exact fun _ => rfl
  | cons i is ih =>
    intro v h
    rw [List.foldl_cons, requestOnSeat_eq hr admitted h, ih _ (h.afterRule r i), overSeats_cons, Nat.add_assoc]

theorem perform_range (hr : r ∈ rangeRequests) (tagged : s.ports[p].tag = .range a b) : ∃ w,
    (s.setTag p .none).perform p s.ports[p].tag [0] r =
      (.done [byte1 ((s.setTag p .none).overSeats (seatRule r) (seatsBetween a b)).1], w) ∧
      ChangesOnly [.reminders, .lamps] ((s.setTag p .none).overSeats (seatRule r) (seatsBetween a b)).2 w := by
  obtain ⟨w, out, hw⟩ := outputsBehind_done r [byte1 ((s.setTag p .none).overSeats (seatRule r) (seatsBetween a b)).1]
    ((s.setTag p .none).overSeats (seatRule r) (seatsBetween a b)).2
  refine ⟨w, ?_, frame_outputsBehind hw⟩
  rw [perform_rangeRequest hr, tagged, show argNat [0] 0 = 0 from rfl, seatOrRange_range, out]

theorem exec_range (hr : r ∈ rangeRequests) (admitted : Admitted s p r) (tagged : s.ports[p].tag = .range a b) :
    ∃ t, exec (r.row p [0]) s = .next t ∧
      Answers s t p r.code .done [byte1 ((s.setTag p .none).overSeats (seatRule r) (seatsBetween a b)).1] ∧
      ChangesOnly [.ports, .reminders, .lamps] ((s.setTag p .none).overSeats (seatRule r) (seatsBetween a b)).2 t := by
  obtain ⟨w, acts, frame⟩ := perform_range hr tagged
  have served : ChangesOnly ruleBlocks (s.setTag p .none) ((s.setTag p .none).overSeats (seatRule r) (seatsBetween a b)).2 :=
    frame_overSeats _ _ fun _ _ => frame_seatRule r _ _
  obtain ⟨taken, answers, -⟩ := exec_done (args := [0]) admitted (argCount_rangeRequest hr).symm acts
    (frame_then (W := .reminders :: .lamps :: ruleBlocks) (frame_mono served (by decide)) frame (by decide)) (by decide)
  exact ⟨_, taken, answers, frame_then (V := [.ports]) (frame_mono frame (by decide)) (frame_respond _ _ _) (by decide)⟩

/-! ## Tags -/

theorem respond_tagged (s : State) (p : PortId) (g : TagState) (code : Byte) :
    ((s.setTag p .none).setTag p g).respond p code (.done []) =
      { s with ports := s.ports.set p { s.ports[p].answering code .done [] with tag := g } } := by
  simp only [State.setTag, State.respond, State.modPort, PortRec.answering, Reply.done, get_set_self, set_set_self]

theorem rangeAllowed_iff {a i : SeatId} : rangeAllowed a i = true ↔
    a ≤ i ∧ (a.val / 8 = i.val / 8 ∨ (a.val % 8 = 0 ∧ i.val % 8 = 7)) := by
  unfold rangeAllowed bench benchPlace
  rw [Bool.and_eq_true_iff, Bool.or_eq_true_iff, Bool.and_eq_true_iff, decide_eq_true_iff, decide_eq_true_iff,
    decide_eq_true_iff, decide_eq_true_iff]

theorem tagLast_first (s : State) (p : PortId) (a i : SeatId) : s.tagLast p (.first a) (seatByte i).toNat =
    if rangeAllowed a i then (.done [], s.setTag p (.range a i)) else (.bare .range, s) := by
  rw [State.tagLast, seatOfNumber_seatByte]

theorem exec_tagFirst (h : Admitted s p .tagFirst) :
    (∀ i : SeatId, exec (.tagFirst p [seatByte i]) s = .next
      { s with ports := s.ports.set p { s.ports[p].answering 0x16 .done [] with tag := .first i } }) ∧
    (∀ b : Byte, b = 0 ∨ 192 < b.toNat → exec (.tagFirst p [b]) s = .next (s.answered p 0x16 .badArgument [])) := by
  refine ⟨fun i => ?_, fun b invalid => ?_⟩
  · have acts : (s.setTag p .none).perform p s.ports[p].tag [seatByte i] .tagFirst =
        (.done [], (s.setTag p .none).setTag p (.first i)) := by
      show State.tagFirst _ p (seatByte i).toNat = _
      rw [State.tagFirst, seatOfNumber_seatByte]
    have taken := exec_admitted (args := [seatByte i]) h rfl
    rw [acts] at taken
    exact taken.trans (congrArg _ (respond_tagged s p _ _))
  · refine exec_answered (args := [b]) h rfl ?_
    show State.tagFirst _ p b.toNat = _
    rw [State.tagFirst, seatOfNumber_of_invalid invalid]
    rfl

theorem exec_tagLast (h : Admitted s p .tagLast) :
    (∀ b : Byte, (∀ a, s.ports[p].tag ≠ .first a) →
      exec (.tagLast p [b]) s = .next (s.answered p 0x17 .sequence [])) ∧
    (∀ (a : SeatId) (b : Byte), s.ports[p].tag = .first a → b = 0 ∨ 192 < b.toNat →
      exec (.tagLast p [b]) s = .next (s.answered p 0x17 .badArgument [])) ∧
    (∀ a i : SeatId, s.ports[p].tag = .first a → rangeAllowed a i = true → exec (.tagLast p [seatByte i]) s = .next
      { s with ports := s.ports.set p { s.ports[p].answering 0x17 .done [] with tag := .range a i } }) ∧
    (∀ a i : SeatId, s.ports[p].tag = .first a → ¬rangeAllowed a i = true →
      exec (.tagLast p [seatByte i]) s = .next (s.answered p 0x17 .range [])) := by
  refine ⟨fun b other => ?_, fun a b first invalid => ?_, fun a i first allowed => ?_, fun a i first allowed => ?_⟩
  · refine exec_answered (args := [b]) h rfl ?_
    show State.tagLast _ p s.ports[p].tag b.toNat = _
    cases tag : s.ports[p].tag with
    | first a => exact absurd tag (other a)
    | none => rfl
    | range a b => rfl
  · refine exec_answered (args := [b]) h rfl ?_
    show State.tagLast _ p s.ports[p].tag b.toNat = _
    rw [first, State.tagLast, seatOfNumber_of_invalid invalid]
    rfl
  · have acts : (s.setTag p .none).perform p s.ports[p].tag [seatByte i] .tagLast =
        (.done [], (s.setTag p .none).setTag p (.range a i)) := by
      show State.tagLast _ p s.ports[p].tag (seatByte i).toNat = _
      rw [first, tagLast_first, if_pos allowed]
    have taken := exec_admitted (args := [seatByte i]) h rfl
    rw [acts] at taken
    exact taken.trans (congrArg _ (respond_tagged s p _ _))
  · refine exec_answered (args := [seatByte i]) h rfl ?_
    show State.tagLast _ p s.ports[p].tag (seatByte i).toNat = _
    rw [first, tagLast_first, if_neg allowed]
    rfl

theorem tag_modPort {f : PortRec → PortRec} (hf : ∀ q, (f q).tag = q.tag) (q : PortId) :
    (s.modPort q f).ports[p].tag = s.ports[p].tag := by
  rw [modPort_ports]
  by_cases same : p = q
  · rw [same, get_set_self, hf]
  · rw [get_set_ne _ same]

theorem tag_setViewRequest (p q : PortId) (n b l : Nat) (x : Byte) (k : BitVec 16) :
    (s.setViewRequest q n b l x k).2.ports[p].tag = s.ports[p].tag := by
  have stored (t : PortId) (x : View) : (s.storeView t x).ports[p].tag = s.ports[p].tag := by
    rw [storeView_ports]
    exact tag_modPort (f := fun q => { q with view := x }) (fun _ => rfl) t
  unfold State.setViewRequest
  repeat' split
  all_goals first | rfl | exact stored _ _

theorem tag_setMaskRequest (p q : PortId) (b : Byte) : (s.setMaskRequest q b).2.ports[p].tag = s.ports[p].tag := by
  have stored (m : Bool) : (s.modPort q fun x => { x with mask := m }).ports[p].tag = s.ports[p].tag :=
    tag_modPort (f := fun x => { x with mask := m }) (fun _ => rfl) q
  unfold State.setMaskRequest
  repeat' split
  all_goals first | rfl | exact stored _

/-- TAG-FIRST and TAG-LAST apart, no request's action writes a tag state. -/
theorem tag_perform (notFirst : r ≠ .tagFirst) (notLast : r ≠ .tagLast) (args : List Byte) :
    (s.perform p ts args r).2.ports[p].tag = s.ports[p].tag := by
  have kept {W : List Block} {t : State} (h : ChangesOnly W s t) (hW : Block.ports ∉ W) :
      t.ports[p].tag = s.ports[p].tag := congrArg (fun w : Vector PortRec 4 => w[p].tag) (h .ports hW)
  by_cases seats : r ∈ rangeRequests
  · rw [perform_rangeRequest seats]
    have served : ChangesOnly (.reminders :: .lamps :: ruleBlocks) s (s.seatOrRange (seatRule r) ts (argNat args 0)).2 :=
      frame_mono (frame_seatOrRange _ _ _ fun _ _ => frame_seatRule r _ _) (by decide)
    refine kept (W := .reminders :: .lamps :: ruleBlocks) ?_ (by decide)
    unfold outputsBehind
    split
    · exact served
    · exact frame_withOutputs served (by decide) (by decide)
  cases r with
  | summary => exact kept (frame_clearAttention p) (by decide)
  | readRoster => exact kept (W := []) (frame_readRosterRequest _ _ _) (by decide)
  | readSeat => exact kept (W := []) (frame_readSeatRequest _) (by decide)
  | readLink => exact kept (W := []) (frame_readLinkRequest _) (by decide)
  | readStrangers => rfl
  | readParam => exact kept (W := []) (frame_readParamRequest _) (by decide)
  | ack => exact kept (frame_ackRequest _ _ _ _) (by decide)
  | setView => exact tag_setViewRequest _ _ _ _ _ _ _
  | setRemind => exact kept (frame_setRemindRequest _ _) (by decide)
  | setMask => exact tag_setMaskRequest _ _ _
  | clearOverflow => rfl
  | mark => exact kept (frame_markRequest _) (by decide)
  | tagFirst => exact absurd rfl notFirst
  | tagLast => exact absurd rfl notLast
  | grant => exact kept (frame_grantRequest _) (by decide)
  | revokeAll =>
    exact kept (W := .reminders :: .lamps :: ruleBlocks) (frame_then (frame_mono (frame_overSeats (W := ruleBlocks) _ _
      fun _ _ => frame_seatRule .revoke _ _) (by decide)) frame_evalOutputs (by decide)) (by decide)
  | bind => exact kept (frame_bindRequest _ _) (by decide)
  | unbind => exact kept (frame_unbindRequest _) (by decide)
  | setParam => exact kept (frame_setParamRequest _ _) (by decide)
  | setLamp => exact kept (frame_setLampRequest _) (by decide)
  | restart => rfl
  | quiet | unquiet | hold | free | swap | revoke => exact absurd (by decide) seats

theorem setTag_tag (s : State) (p : PortId) (g : TagState) : (s.setTag p g).ports[p].tag = g := by
  rw [State.setTag, modPort_ports, get_set_self]

theorem respond_tag (s : State) (p : PortId) (code : Byte) (x : Reply) : (s.respond p code x).ports[p].tag = s.ports[p].tag :=
  tag_modPort (f := fun q => { q with
    overrun := false, response := some ⟨code, x.completion, q.overrun, x.result, x.restarts⟩ }) (fun _ => rfl) p

theorem tag_takeRequest (notFirst : r ≠ .tagFirst) (notLast : r ≠ .tagLast) (args : List Byte) :
    (s.takeRequest p r args).ports[p].tag = .none := by
  unfold State.takeRequest
  dsimp only
  split
  · rw [respond_tag, setTag_tag]
  · rw [respond_tag, tag_perform notFirst notLast, setTag_tag]

theorem exec_tag {args : List Byte} (role : s.ports[p].role ≠ .off) (held : s.ports[p].inBreak = false)
    (idle : s.ports[p].response = none) (notFirst : r ≠ .tagFirst) (notLast : r ≠ .tagLast) :
    ∃ t, exec (r.row p args) s = .next t ∧ t.ports[p].tag = .none := by
  refine ⟨_, exec_row r p args s, ?_⟩
  rw [State.arriveRequest, arrive_taken (deaf_eq_false role held) idle, take_request]
  exact tag_takeRequest notFirst notLast args

theorem exec_ack_untagged (h : Admitted s p .ack) (untagged : ∀ a b, s.ports[p].tag ≠ .range a b) :
    exec (.ack p [2, 0, 0]) s = .next (s.answered p 0x10 .sequence []) := by
  refine exec_answered (args := [2, 0, 0]) h rfl ?_
  show State.ackSeat _ p s.ports[p].tag 0 = _
  cases tag : s.ports[p].tag with
  | range a b => exact absurd tag (untagged a b)
  | none => rfl
  | first a => rfl

theorem exec_rangeRequest_refused (hr : r ∈ rangeRequests) (h : Admitted s p r) :
    ((∀ a b, s.ports[p].tag ≠ .range a b) → exec (r.row p [0]) s = .next (s.answered p r.code .sequence [])) ∧
    (∀ b : Byte, 192 < b.toNat → exec (r.row p [b]) s = .next (s.answered p r.code .badArgument [])) := by
  refine ⟨fun untagged => ?_, fun b beyond => ?_⟩
  · refine exec_answered (args := [0]) h (argCount_rangeRequest hr).symm ?_
    rw [perform_rangeRequest hr, show argNat [0] 0 = 0 from rfl, seatOrRange_untagged _ untagged,
      outputsBehind_bare (c := .sequence) nofun]
    rfl
  · refine exec_answered (args := [b]) h (argCount_rangeRequest hr).symm ?_
    rw [perform_rangeRequest hr, show argNat [b] 0 = b.toNat from rfl, seatOrRange_beyond _ beyond,
      outputsBehind_bare (c := .badArgument) nofun]
    rfl

/-- What FREE on a range leaves of the seats, and its count (R93, R152). -/
theorem exec_freeRange (h : Admitted s p .free) (tagged : s.ports[p].tag = .range a b) :
    ∃ t, exec (.free p [0]) s = .next t ∧ (∀ i : SeatId, a ≤ i → i ≤ b → Freed i s t) ∧
      (∀ i : SeatId, ¬(a ≤ i ∧ i ≤ b) → t.mute[i] = s.mute[i]) ∧
      Answers s t p 0x23 .done [byte1 ((List.finRange 192).countP fun i =>
        decide (a ≤ i) && decide (i ≤ b) && s.bound i && s.mute[i].hold != .none)] ∧
      ChangesOnly [.mute, .queue, .syncs, .ports] s t := by
  have acts : (s.setTag p .none).perform p s.ports[p].tag [0] .free = (.done
      [byte1 ((s.setTag p .none).overSeats State.freeRule (seatsBetween a b)).1],
      ((s.setTag p .none).overSeats State.freeRule (seatsBetween a b)).2) := by
    rw [tagged]
    rfl
  obtain ⟨taken, answers, changes⟩ := exec_done (args := [0]) h rfl acts (frame_overSeats _ _ fun _ i => frame_freeRule i)
    (by decide)
  obtain ⟨count, each, others⟩ := freeOver_spec (nodup_seatsBetween a b) (s.setTag p .none)
  have total : (seatsBetween a b).countP (underHold (s.setTag p .none)) = _ := countP_underHold s a b
  rw [count, total] at answers changes taken
  generalize ((s.setTag p .none).overSeats State.freeRule (seatsBetween a b)).2 = u at *
  refine ⟨_, taken, fun i low high => ?_, fun i out => ?_, answers, frame_mono changes (by decide)⟩
  · have freed := each i (mem_seatsBetween.2 ⟨low, high⟩)
    exact ⟨freed.hold, freed.same, freed.order, freed.vacant⟩
  · exact (others i fun mem => out (mem_seatsBetween.1 mem)).mute

/-- Settles O42: ranges, tags and what a request leaves of the tag state. -/
theorem rangeFreesSeats : Obligations.RangeFreesSeats := by
  refine ⟨fun s p a b h tagged => ?_, fun s p r a b hr h tagged => ?_, fun s p h => exec_tagFirst h, fun s p h => ?_,
    fun s p r hr h => exec_rangeRequest_refused hr h,
    fun s p r args notFirst notLast role held idle => exec_tag role held idle notFirst notLast,
    fun s p h untagged => exec_ack_untagged h untagged⟩
  · obtain ⟨t, taken, each, others, answers, changes⟩ := exec_freeRange h tagged
    refine ⟨t, taken, fun i low high bound => ?_, fun i out => ?_, answers, changes⟩
    · have freed := each i low high
      exact ⟨freed.hold bound, freed.same, freed.order bound⟩
    · by_cases within : a ≤ i ∧ i ≤ b
      · exact (each i within.1 within.2).vacant (out.resolve_left (not_not.2 within))
      · exact others i within
  · obtain ⟨t, taken, answers, changes⟩ := exec_range hr h tagged
    have served : (rangeSeats a b).foldl (requestOnSeat p r) (0, s) = _ :=
      foldl_requestOnSeat hr h (rangeSeats a b) 0 (v := s.setTag p .none) (within_setTag s p)
    refine ⟨t, taken, ?_⟩
    rw [served, Nat.zero_add]
    refine ⟨answers, fun x hx => ?_⟩
    have kept := changes x hx
    cases x <;> first | exact kept | exact absurd (by decide) hx
  · obtain ⟨sequence, invalid, allowed, refused⟩ := exec_tagLast h
    exact ⟨sequence, invalid, fun a i first low shape => allowed a i first (rangeAllowed_iff.2 ⟨low, shape⟩),
      fun a i first shape => refused a i first fun h => shape (rangeAllowed_iff.1 h)⟩

end Sys2Proof.Machine.SeatRequests
end

section
/-! PROOFS. SET-PARAM of link enable (R34, R36, R83, R157). -/

namespace Sys2Proof.Machine.LinkEnabling

open Sys2Proof Sys2Proof.Machine Sys2Proof.Machine.Laws Sys2Proof.Machine.SlotGrades Sys2Proof.Machine.PortSettings
open Sys2Proof.Machine.SeatRequests Sys2Proof.Machine.Reads Sys2Proof.Machine.Parameters Sys2Proof.Machine.AntennaLinks Sys2Proof.Machine.SeatWork

variable {s t u : State} {i j : SeatId} {l : LinkId} {p : PortId} {w : BitVec 16} {is : List SeatId}

/-! ## The attributed seats of a disabled link -/

theorem convertSeat_of_attributed (h : s.signal[i].cause = .link l) :
    State.convertSeat l s i = (s.modSignal i fun g => { g with grace := none }).loseToSignal i := if_pos h

theorem convertSeat_of_other (h : s.signal[i].cause ≠ .link l) : State.convertSeat l s i = s := if_neg h

theorem convertSeat_links (l : LinkId) (s : State) (i : SeatId) : (State.convertSeat l s i).links = s.links := by
  by_cases h : s.signal[i].cause = .link l
  · rw [convertSeat_of_attributed h, loseToSignal_links, modSignal_links]
  · rw [convertSeat_of_other h]

theorem convertSeat_signal (l : LinkId) (s : State) (i : SeatId) : (State.convertSeat l s i).signal =
    s.signal.set i (if s.signal[i].cause = .link l then { s.signal[i] with cause := .signal, grace := none }
      else s.signal[i]) := by
  by_cases h : s.signal[i].cause = .link l
  · rw [convertSeat_of_attributed h, loseToSignal_signal, modSignal_signal, set_set_self, get_set_self, if_pos h]
  · rw [convertSeat_of_other h, if_neg h]
    exact (Vector.set_getElem_self _).symm

theorem grade_convertSeat {o : Source} (ne : o ≠ .seat i .signalLoss) :
    grade ((State.convertSeat l s i).slot o) = grade (s.slot o) := by
  by_cases h : s.signal[i].cause = .link l
  · rw [convertSeat_of_attributed h, (setsGrade_loseToSignal _ i).2 o ne]
    rfl
  · rw [convertSeat_of_other h]

theorem isRaised_convertSeat (h : s.signal[i].cause = .link l) :
    ((State.convertSeat l s i).slot (.seat i .signalLoss)).isRaised = true := by
  rw [convertSeat_of_attributed h]
  exact isRaised_of_grade_raised (setsGrade_loseToSignal _ i).1

/-- What the conversion leaves of a seat (R83). -/
structure Converted (l : LinkId) (i : SeatId) (s t : State) : Prop where
  lost : s.signal[i].cause = .link l → t.signal[i] = { s.signal[i] with cause := .signal, grace := none } ∧
    (t.slot (.seat i .signalLoss)).isRaised = true
  other : s.signal[i].cause ≠ .link l → t.signal[i] = s.signal[i]

theorem converted_convertSeat (l : LinkId) (s : State) (i : SeatId) : Converted l i s (State.convertSeat l s i) where
  lost h := ⟨by rw [convertSeat_signal, get_set_self, if_pos h], isRaised_convertSeat h⟩
  other h := by rw [convertSeat_signal, get_set_self, if_neg h]

/-- The seat's signal record and SIGNAL_LOSS are as they were. -/
def Unconverted (j : SeatId) (s t : State) : Prop :=
  t.signal[j] = s.signal[j] ∧ grade (t.slot (.seat j .signalLoss)) = grade (s.slot (.seat j .signalLoss))

theorem unconverted_convertSeat (ne : j ≠ i) : Unconverted j s (State.convertSeat l s i) :=
  ⟨by rw [convertSeat_signal, get_set_ne _ ne], grade_convertSeat fun same => ne (Source.seat.inj same).1⟩

theorem Converted.lasts (h : Converted l i s t) (k : Unconverted i t u) : Converted l i s u where
  lost cause := by
    obtain ⟨signal, raised⟩ := h.lost cause
    exact ⟨k.1.trans signal, (isRaised_of_grade k.2).trans raised⟩
  other cause := k.1.trans (h.other cause)

theorem Converted.of_unconverted (h : Unconverted i s t) (k : Converted l i t u) : Converted l i s u where
  lost cause := by
    obtain ⟨signal, raised⟩ := k.lost ((congrArg Signal.cause h.1).trans cause)
    exact ⟨signal.trans (by rw [h.1]), raised⟩
  other cause := (k.other fun same => cause ((congrArg Signal.cause h.1).symm.trans same)).trans h.1

theorem convertEach_spec (l : LinkId) (nd : is.Nodup) (s : State) :
    (is.foldl (State.convertSeat l) s).links = s.links ∧
      (∀ o, (∀ j ∈ is, o ≠ .seat j .signalLoss) →
        grade ((is.foldl (State.convertSeat l) s).slot o) = grade (s.slot o)) ∧
      (∀ j ∈ is, Converted l j s (is.foldl (State.convertSeat l) s)) ∧
      ∀ j, j ∉ is → Unconverted j s (is.foldl (State.convertSeat l) s) := by
  induction is generalizing s with
  | nil => exact ⟨rfl, fun _ _ => rfl, nofun, fun _ _ => ⟨rfl, rfl⟩⟩
  | cons i is ih =>
    obtain ⟨fresh, nd⟩ := List.nodup_cons.1 nd
    obtain ⟨links, grades, each, others⟩ := ih nd (State.convertSeat l s i)
    have away (j) (hj : j ∈ is) : j ≠ i := fun same => fresh (same ▸ hj)
    rw [List.foldl_cons]
    refine ⟨links.trans (convertSeat_links l s i), fun o ne => ?_, fun j hj => ?_, fun j hj => ?_⟩
    · exact (grades o fun j hj => ne j (List.mem_cons_of_mem _ hj)).trans (grade_convertSeat (ne i List.mem_cons_self))
    · rcases List.mem_cons.1 hj with rfl | hj
      · exact (converted_convertSeat l s j).lasts (others j fresh)
      · exact .of_unconverted (unconverted_convertSeat (away j hj)) (each j hj)
    · obtain ⟨ne, out⟩ := not_or.1 (List.mem_cons.not.1 hj)
      obtain ⟨signal, loss⟩ := others j out
      have first : Unconverted j s (State.convertSeat l s i) := unconverted_convertSeat ne
      exact ⟨signal.trans first.1, loss.trans first.2⟩

theorem setAttributed_slot (f : Nat → Nat) (o : Source) : (s.setAttributed l f).slot o = s.slot o :=
  slot_refresh (s.modLink l fun r => { r with attributed := f r.attributed }) _ o

theorem nodup_allSeats : allSeats.Nodup := List.nodup_finRange 192

theorem mem_allSeats (i : SeatId) : i ∈ allSeats := List.mem_finRange i

theorem convertSeats_spec (s : State) (l : LinkId) :
    (s.convertSeats l).links = s.links.set l { s.links[l] with attributed := 0 } ∧
      grade ((s.convertSeats l).slot (.link l)) = grade (s.slot (.link l)) ∧ ∀ i, Converted l i s (s.convertSeats l) := by
  obtain ⟨links, grades, each, -⟩ := convertEach_spec l nodup_allSeats s
  unfold State.convertSeats
  refine ⟨?_, ?_, fun i => ?_⟩
  · rw [setAttributed_links, links]
  · rw [setAttributed_slot]
    exact grades _ fun _ _ => nofun
  · have signal : ∀ u : State, (u.setAttributed l fun _ => 0).signal = u.signal := fun u =>
      frame_setAttributed_links l _ .signal (by decide)
    exact (each i (mem_allSeats i)).lasts ⟨by rw [signal], by rw [setAttributed_slot]⟩

/-! ## Enable -/

/-- A link after its enable is written off (R34). -/
def LinkRec.disabled (r : LinkRec) : LinkRec :=
  { r with
    enable := false, state := .disabled, silence := none, slot := none, rx := .hunting, breakStart := none,
    breakTimer := none, attributed := 0, tx := none }

/-- The link off the air, its condition ended (R34, steps 1 and 2). -/
def takenOff (s : State) (l : LinkId) : State :=
  (s.modLink l fun r =>
    { r with enable := false, state := .disabled, silence := none, slot := none, rx := .hunting,
             breakStart := none, breakTimer := none }).endLinkCondition l

theorem disableLink_eq (s : State) (l : LinkId) :
    s.disableLink l = ((takenOff s l).convertSeats l).modLink l fun r => { r with tx := none } := rfl

theorem takenOff_links (s : State) (l : LinkId) : (takenOff s l).links = s.links.set l
    { s.links[l] with enable := false, state := .disabled, silence := none, slot := none, rx := .hunting, breakStart := none, breakTimer := none } := by
  rw [takenOff, show (State.endLinkCondition _ l).links = _ from frame_endLinkCondition l .links (by decide), modLink_links]

theorem disableLink_links (s : State) (l : LinkId) :
    (s.disableLink l).links = s.links.set l (LinkRec.disabled s.links[l]) := by
  rw [disableLink_eq, modLink_links, (convertSeats_spec _ l).1, takenOff_links, set_set_self, set_set_self, get_set_self,
    get_set_self]
  rfl

theorem slot_disableLink (s : State) (l : LinkId) (o : Source) :
    (s.disableLink l).slot o = ((takenOff s l).convertSeats l).slot o := by
  rw [disableLink_eq]
  exact slot_of_alerts (modLink_alerts _ _ _) o

theorem disableLink_slot (s : State) (l : LinkId) : ((s.disableLink l).slot (.link l)).isRaised = false := by
  rw [slot_disableLink, isRaised_of_grade (convertSeats_spec (takenOff s l) l).2.1]
  exact endLinkCondition_slot _ l

theorem disableLink_signal (s : State) (l : LinkId) : (s.disableLink l).signal = ((takenOff s l).convertSeats l).signal := by
  rw [disableLink_eq, modLink_signal]

theorem converted_disableLink (s : State) (l : LinkId) (i : SeatId) : Converted l i s (s.disableLink l) := by
  have converted := (convertSeats_spec (takenOff s l) l).2.2 i
  have signal : (takenOff s l).signal = s.signal := frame_endLinkCondition l .signal (by decide)
  refine ⟨fun cause => ?_, fun cause => ?_⟩
  · rw [disableLink_signal, slot_disableLink, ← signal]
    exact converted.lost (by rw [signal]; exact cause)
  · rw [disableLink_signal, ← signal]
    exact converted.other (by rw [signal]; exact cause)

theorem enableLink_links (s : State) (l : LinkId) : (s.enableLink l).links = s.links.set l
    { s.links[l] with
      enable := true, state := .down, rx := .hunting,
      breakTimer := if s.links[l].lineActive then some 2 else none } := rfl

/-! ## The request -/

theorem toInt_eq_zero_iff : w.toInt = 0 ↔ w = 0 := BitVec.toInt_inj (x := w) (y := 0)

theorem toInt_eq_one_iff : w.toInt = 1 ↔ w = 1 := BitVec.toInt_inj (x := w) (y := 1)

theorem storedValue_linkEnable (s : State) (l : LinkId) (v : Int) :
    s.storedValue (.linkEnable l) v = if 0 < v then 1 else 0 := by
  rw [storedValue_eq, if_neg nofun]
  show max 0 (min 1 v) = _
  split <;> omega

theorem stored_iff (w : BitVec 16) : (if 0 < w.toInt then (1 : Int) else 0) = w.toInt ↔ w = 0 ∨ w = 1 := by
  rw [← toInt_eq_zero_iff, ← toInt_eq_one_iff]
  split <;> omega

/-- SET-PARAM of link enable, with the value stored (R157). -/
theorem setParamRequest_linkEnable (s : State) (l : LinkId) (w : BitVec 16) :
    s.setParamRequest (byte1 (16 + l.val)).toNat w.toInt =
      (⟨if w = 0 ∨ w = 1 then .done else .clamped, [0, if 0 < w.toInt then 1 else 0], false⟩,
        (s.writeEnable l (decide (0 < w.toInt))).evalOutputs) := by
  have named : paramOfId (byte1 (16 + l.val)).toNat = some (.linkEnable l) := by
    rw [toNat_byte1 (by omega)]
    exact (setParamStores.2.2.1 l).1
  rw [setParamRequest_of_known named, storedValue_linkEnable]
  refine Prod.ext ?_ ?_
  · have plain : ¬(Param.linkEnable l = .lowMinutes ∧
        (s.storeParam (.linkEnable l) (if 0 < w.toInt then 1 else 0)).params.critMinutes ≠ s.params.critMinutes) := by
      rintro ⟨same, -⟩
      exact nomatch same
    rw [if_congr (and_iff_left nofun) rfl rfl, if_congr (stored_iff w) rfl rfl, if_neg plain]
    have result : int16 (if 0 < w.toInt then 1 else 0) ++ [] = [0, if 0 < w.toInt then 1 else 0] := by
      split <;> rfl
    rw [result]
  · show State.evalOutputs (s.writeEnable l _) = _
    by_cases on : 0 < w.toInt
    · rw [if_pos on, decide_eq_true on]
      rfl
    · rw [if_neg on, decide_eq_false on]
      rfl

theorem perform_linkEnable (s : State) (p : PortId) (ts : TagState) (l : LinkId) (w : BitVec 16) :
    s.perform p ts (byte1 (16 + l.val) :: bytes16 w) .setParam =
      (⟨if w = 0 ∨ w = 1 then .done else .clamped, [0, if 0 < w.toInt then 1 else 0], false⟩,
        (s.writeEnable l (decide (0 < w.toInt))).evalOutputs) := by
  rw [perform_setParam, setParamRequest_linkEnable]

theorem writeEnable_off (h : s.links[l].enable = true) : s.writeEnable l false = s.disableLink l := by
  unfold State.writeEnable
  rw [h]

theorem writeEnable_on (h : s.links[l].enable = false) : s.writeEnable l true = s.enableLink l := by
  unfold State.writeEnable
  rw [h]

theorem writeEnable_same (s : State) (l : LinkId) : s.writeEnable l s.links[l].enable = s := by
  unfold State.writeEnable
  cases s.links[l].enable <;> rfl

/-- Settles O51: a link disabled, enabled, or left as it is. -/
theorem setParamLinkEnable : Obligations.SetParamLinkEnable := by
  refine fun s p l w h => ⟨fun off enabled => ?_, fun on disabled => ?_, fun same => ?_⟩
  · have value : decide (0 < w.toInt) = false := decide_eq_false (by omega)
    have write : (s.setTag p .none).writeEnable l (decide (0 < w.toInt)) = (s.setTag p .none).disableLink l := by
      rw [value]
      exact writeEnable_off (s := s.setTag p .none) enabled
    have acts := perform_linkEnable (s.setTag p .none) p s.ports[p].tag l w
    rw [write] at acts
    obtain ⟨t, taken, answers, kept, changes⟩ := exec_changed h rfl acts (frame_disableLink l) (by decide)
    have slots (o : Source) := slot_of_alerts (kept .alerts (by decide)) o
    have signal := kept .signal (by decide)
    have links := kept .links (by decide)
    rw [if_neg (show ¬0 < w.toInt by omega)] at answers
    have converted (i : SeatId) := converted_disableLink (s.setTag p .none) l i
    refine ⟨t, taken, links.trans (disableLink_links (s.setTag p .none) l), ?_, fun i cause => ?_, fun i cause => ?_, answers,
      frame_mono changes (by decide)⟩
    · rw [slots]
      exact disableLink_slot _ l
    · obtain ⟨lost, raised⟩ := (converted i).lost cause
      exact ⟨by rw [signal]; exact lost, by rw [slots]; exact raised⟩
    · rw [signal]
      exact (converted i).other cause
  · have write : (s.setTag p .none).writeEnable l (decide (0 < w.toInt)) = (s.setTag p .none).enableLink l := by
      rw [decide_eq_true on]
      exact writeEnable_on (s := s.setTag p .none) disabled
    have acts := perform_linkEnable (s.setTag p .none) p s.ports[p].tag l w
    rw [write] at acts
    obtain ⟨t, taken, answers, kept, changes⟩ := exec_changed h rfl acts (frame_enableLink l) (by decide)
    have links := kept .links (by decide)
    rw [if_pos on] at answers
    exact ⟨t, taken, links.trans (enableLink_links (s.setTag p .none) l), answers, frame_mono changes (by decide)⟩
  · have value : decide (0 < w.toInt) = s.links[l].enable := by
      rw [Bool.eq_iff_iff, decide_eq_true_iff]
      exact same
    have write : (s.setTag p .none).writeEnable l (decide (0 < w.toInt)) = s.setTag p .none := by
      rw [value]
      exact writeEnable_same (s.setTag p .none) l
    have acts := perform_linkEnable (s.setTag p .none) p s.ports[p].tag l w
    rw [write] at acts
    obtain ⟨t, taken, answers, -, changes⟩ := exec_changed (W := []) h rfl acts frame_refl nofun
    have result : byte1 (flag s.links[l].enable) = if 0 < w.toInt then 1 else 0 := by
      rw [byte1_flag, if_congr same rfl rfl]
    rw [result]
    exact ⟨t, taken, answers, changes⟩

end Sys2Proof.Machine.LinkEnabling
end

section
/-! PROOFS. What a listing attempt does, exactly: supersession, a free place, a victim, or WAITING (R109 to R114, R159). -/

namespace Sys2Proof.Machine.Listings

open Sys2Proof Sys2Proof.Machine Sys2Proof.Machine.Laws Sys2Proof.Machine.SlotGrades Sys2Proof.Machine.RosterLists
open Sys2Proof.Machine.RosterSoundness Sys2Proof.Machine.Agreement Sys2Proof.Machine.Choices Sys2Proof.Machine.Runs

variable {s t u : State} {src o : Source} {r : Raised} {es : List Entry} {sev : Severity} {v w : Entry} {x : Slot}

/-! ## States alike to the roster -/

/-- A state with the blocks that say what a listing left taken from another. -/
def besides (t u : State) : State :=
  { u with
    alerts := t.alerts, attention := t.attention, battery := t.battery, signal := t.signal, links := t.links }

/-- The blocks that say what a listing left: the roster, the attention, and what an entry's detail shows. -/
def listingBlocks : List Block := [.alerts, .attention, .battery, .signal, .links]

theorem besides_eq {W : List Block} (h : ChangesOnly W t u) (hW : ∀ b ∈ listingBlocks, b ∉ W) : besides t u = u := by
  unfold besides
  rw [← h .alerts (hW _ (by decide)), ← h .attention (hW _ (by decide)), ← h .battery (hW _ (by decide)),
    ← h .signal (hW _ (by decide)), ← h .links (hW _ (by decide))]

/-! ## Details and slots -/

theorem fixedOf_of_raised (h : s.slot src = .raised r) : s.fixedOf src = r.fixed := by
  unfold State.fixedOf
  rw [h]

theorem detailOf_congr (battery : t.battery = s.battery) (signal : t.signal = s.signal) (links : t.links = s.links)
    (fixed : t.fixedOf src = s.fixedOf src) : t.detailOf src = s.detailOf src := by
  unfold State.detailOf
  rw [battery, signal, links, fixed]

theorem setSlot_self (s : State) (src : Source) : s.setSlot src (s.slot src) = s := by
  have seat (i : SeatId) (k : SeatKind) : s.alerts.seatSlots.set i (s.alerts.seatSlots[i].set k.idx s.alerts.seatSlots[i][k.idx])
      = s.alerts.seatSlots := by
    rw [show s.alerts.seatSlots[i].set k.idx s.alerts.seatSlots[i][k.idx] = s.alerts.seatSlots[i] from
      Vector.set_getElem_self _]
    exact Vector.set_getElem_self _
  have link (l : LinkId) : s.alerts.linkSlots.set l s.alerts.linkSlots[l] = s.alerts.linkSlots := Vector.set_getElem_self _
  cases src with
  | seat i k => exact congrArg (fun v => { s with alerts := { s.alerts with seatSlots := v } }) (seat i k)
  | link l => exact congrArg (fun v => { s with alerts := { s.alerts with linkSlots := v } }) (link l)

theorem slot_setSlot_self (s : State) (src : Source) (x : Slot) : (s.setSlot src x).slot src = x := by
  rw [slot_setSlot, if_pos rfl]

theorem slot_setSlot_ne (ne : o ≠ src) (x : Slot) : (s.setSlot src x).slot o = s.slot o := by
  rw [slot_setSlot, if_neg ne]

theorem dueTo_of_ports (h : t.ports = s.ports) (p : PortId) (src : Source) (sev : Severity) :
    t.dueTo p src sev = s.dueTo p src sev := by
  unfold State.dueTo
  rw [h]

/-! ## Creation -/

theorem createEntry_roster (sound : RosterSound s) (below : s.alerts.rankCounter < Config.maxRank) (src : Source) (r : Raised) :
    (s.createEntry src r).alerts.roster = placed
      { tag := s.alerts.newTag, source := src, severity := r.severity, phase := .live, stamp := r.stamp,
        rank := s.alerts.rankCounter + 1, acks := noPorts, detail := s.detailOf src } s.alerts.roster := by
  rw [createEntry_alerts, setSlot_roster, created, beforeRank_of_below below]
  exact insertEntry_eq_placed (falling_of_ahead (rosterSound_iff.1 sound).ahead)

theorem createEntry_rankCounter (below : s.alerts.rankCounter < Config.maxRank) (src : Source) (r : Raised) :
    (s.createEntry src r).alerts.rankCounter = s.alerts.rankCounter + 1 := by
  rw [createEntry_alerts, setSlot_rankCounter, created, beforeRank_of_below below]

theorem createEntry_nextTag (below : s.alerts.rankCounter < Config.maxRank) (src : Source) (r : Raised) :
    (s.createEntry src r).alerts.nextTag = succTag s.alerts.newTag := by
  rw [createEntry_alerts, setSlot_nextTag, created, beforeRank_of_below below]

theorem createEntry_detailOf (raised : s.slot src = .raised r) : (s.createEntry src r).detailOf src = s.detailOf src :=
  detailOf_congr (frame_createEntry src r .battery (by decide)) (frame_createEntry src r .signal (by decide))
    (frame_createEntry src r .links (by decide))
    (by rw [fixedOf_of_raised (slot_createEntry_self raised), fixedOf_of_raised raised])

/-- Creation on a sound roster below the last rank (R105, R106, R109). -/
theorem entryCreated_createEntry (sound : RosterSound s) (below : s.alerts.rankCounter < Config.maxRank)
    (raised : s.slot src = .raised r) : EntryCreated s (s.createEntry src r) s.alerts.roster src r := by
  refine ⟨slot_createEntry_self raised, createEntry_rankCounter below src r, _, createEntry_roster sound below src r,
    createEntry_nextTag below src r, newTag_free (rosterSound_iff.1 sound), newTag_of_free, ?_⟩
  rw [createEntry_detailOf raised]

theorem entryCreated_of_counters (h : EntryCreated u t es src r) (rank : u.alerts.rankCounter = s.alerts.rankCounter)
    (tag : u.alerts.nextTag = s.alerts.nextTag) : EntryCreated s t es src r := by
  unfold EntryCreated at h
  rw [rank, tag] at h
  exact h

/-! ## The victim -/

theorem yieldsBefore_irrefl (a : Entry) : a.yieldsBefore a = false := by
  unfold Entry.yieldsBefore
  cases a.isEnded <;> simp

theorem yieldsBefore_of_ended (hb : v.isEnded = true) (hw : w.isEnded = true) :
    v.yieldsBefore w = true ↔ v.rank < w.rank := by
  unfold Entry.yieldsBefore
  rw [hb, hw]
  exact decide_eq_true_iff

theorem yieldsBefore_of_live (hb : v.isEnded = false) (hw : w.isEnded = false) :
    v.yieldsBefore w = true ↔ v.severity.num < w.severity.num ∨ (v.severity = w.severity ∧ w.rank < v.rank) := by
  unfold Entry.yieldsBefore
  rw [hb, hw]
  dsimp only
  rw [Bool.or_eq_true_iff, Bool.and_eq_true_iff, decide_eq_true_iff, decide_eq_true_iff, decide_eq_true_iff]

theorem yieldsBefore_of_mixed (hb : v.isEnded = true) (hw : w.isEnded = false) :
    v.yieldsBefore w = true ∧ w.yieldsBefore v = false := by
  unfold Entry.yieldsBefore
  rw [hb, hw]
  exact ⟨rfl, rfl⟩

theorem yieldsBefore_trans (a b c : Entry) (hab : a.yieldsBefore b = true) (hbc : b.yieldsBefore c = true) :
    a.yieldsBefore c = true := by
  cases ha : a.isEnded with
  | true =>
    cases hc : c.isEnded with
    | false => exact (yieldsBefore_of_mixed ha hc).1
    | true =>
      cases hb : b.isEnded with
      | false => exact absurd (hbc.symm.trans (yieldsBefore_of_mixed hc hb).2) nofun
      | true =>
        rw [yieldsBefore_of_ended ha hb] at hab
        rw [yieldsBefore_of_ended hb hc] at hbc
        exact (yieldsBefore_of_ended ha hc).2 (hab.trans hbc)
  | false =>
    cases hb : b.isEnded with
    | true => exact absurd (hab.symm.trans (yieldsBefore_of_mixed hb ha).2) nofun
    | false =>
      cases hc : c.isEnded with
      | true => exact absurd (hbc.symm.trans (yieldsBefore_of_mixed hc hb).2) nofun
      | false =>
        rw [yieldsBefore_of_live ha hb] at hab
        rw [yieldsBefore_of_live hb hc] at hbc
        rw [yieldsBefore_of_live ha hc]
        rcases hab with lower | ⟨same, newer⟩
        · rcases hbc with lower' | ⟨same', -⟩
          · exact .inl (lower.trans lower')
          · exact .inl (same' ▸ lower)
        · rcases hbc with lower' | ⟨same', newer'⟩
          · exact .inl (same ▸ lower')
          · exact .inr ⟨same.trans same', newer'.trans newer⟩

theorem candidate_iff : v ∈ es.filter (fun e => decide (e.severity.num < sev.num)) ↔ v ∈ es ∧ v.severity.num < sev.num := by
  rw [List.mem_filter, decide_eq_true_iff]

theorem findVictim_eq_none (h : ∀ x ∈ es, sev.num ≤ x.severity.num) : findVictim sev es = none := by
  rw [findVictim_eq, best_eq_none, List.filter_eq_nil_iff]
  intro x hx lower
  exact absurd (of_decide_eq_true lower) (Nat.not_lt.2 (h x hx))

/-- Of two victims neither gives way before the other. -/
theorem rank_eq_of_victim (hv : IsVictim es sev v) (mem : w ∈ es) (lower : w.severity.num < sev.num)
    (first : v.yieldsBefore w = false) : v.rank = w.rank := by
  obtain ⟨-, -, ended, live⟩ := hv
  cases hv : v.isEnded with
  | true =>
    cases hw : w.isEnded with
    | false => exact absurd ((yieldsBefore_of_mixed hv hw).1.symm.trans first) nofun
    | true =>
      have le := ended hv w mem lower hw
      have ge : ¬v.rank < w.rank := fun lt => absurd (((yieldsBefore_of_ended hv hw).2 lt).symm.trans first) nofun
      omega
  | false =>
    obtain ⟨hw, order⟩ := live hv w mem lower
    have no : ¬(v.severity.num < w.severity.num ∨ (v.severity = w.severity ∧ w.rank < v.rank)) := fun yes =>
      absurd (((yieldsBefore_of_live hv hw).2 yes).symm.trans first) nofun
    rcases order with lower' | ⟨same, older⟩
    · exact absurd (.inl lower') no
    · have notNewer : ¬w.rank < v.rank := fun newer => no (.inr ⟨same, newer⟩)
      omega

theorem findVictim_eq_some (distinct : (es.map (·.rank)).Nodup) (hv : IsVictim es sev v) : findVictim sev es = some v := by
  obtain ⟨w, found⟩ : ∃ w, findVictim sev es = some w := by
    rw [← Option.isSome_iff_exists, ← Option.ne_none_iff_isSome, findVictim_eq, ne_eq, best_eq_none]
    exact List.ne_nil_of_mem (candidate_iff.2 ⟨hv.1, hv.2.1⟩)
  obtain ⟨mem, lower⟩ := mem_of_findVictim found
  have first : v.yieldsBefore w = false :=
    before_best yieldsBefore_irrefl yieldsBefore_trans ((findVictim_eq sev es).symm.trans found) v
      (candidate_iff.2 ⟨hv.1, hv.2.1⟩)
  rw [found, List.inj_on_of_nodup_map distinct mem hv.1 (rank_eq_of_victim hv mem lower first).symm]

theorem isVictim_of_findVictim (found : findVictim sev es = some v) : IsVictim es sev v := by
  obtain ⟨mem, lower⟩ := mem_of_findVictim found
  have first (x) (hx : x ∈ es) (low : x.severity.num < sev.num) : x.yieldsBefore v = false :=
    before_best yieldsBefore_irrefl yieldsBefore_trans ((findVictim_eq sev es).symm.trans found) x (candidate_iff.2 ⟨hx, low⟩)
  refine ⟨mem, lower, fun ended x hx low hended => ?_, fun live x hx low => ?_⟩
  · by_contra older
    have yes := (yieldsBefore_of_ended hended ended).2 (Nat.lt_of_not_le older)
    exact absurd (yes.symm.trans (first x hx low)) nofun
  · have hlive : x.isEnded = false := by
      by_contra ended
      have yes := (yieldsBefore_of_mixed (Bool.eq_true_of_not_eq_false ended) live).1
      exact absurd (yes.symm.trans (first x hx low)) nofun
    refine ⟨hlive, ?_⟩
    have no : ¬(x.severity.num < v.severity.num ∨ (x.severity = v.severity ∧ v.rank < x.rank)) := fun yes =>
      absurd (((yieldsBefore_of_live hlive live).2 yes).symm.trans (first x hx low)) nofun
    by_cases lt : v.severity.num < x.severity.num
    · exact .inl lt
    · have same : v.severity = x.severity :=
        severity_num_injective (Nat.le_antisymm (Nat.not_lt.1 fun gt => no (.inl gt)) (Nat.not_lt.1 lt))
      exact .inr ⟨same, Nat.not_lt.1 fun newer => no (.inr ⟨same.symm, newer⟩)⟩

end Sys2Proof.Machine.Listings
end

section
/-! PROOFS. The four outcomes of a listing attempt, as one statement (R109 to R114). -/

namespace Sys2Proof.Machine.Listings

open Sys2Proof Sys2Proof.Machine Sys2Proof.Machine.Laws Sys2Proof.Machine.SlotGrades Sys2Proof.Machine.RosterLists
open Sys2Proof.Machine.RosterSoundness Sys2Proof.Machine.Agreement Sys2Proof.Machine.Runs

variable {s t u : State} {src o : Source} {r : Raised} {es : List Entry} {sev : Severity} {v w : Entry} {x : Slot}

/-- A condition RAISED as `r` says, before its listing attempt. -/
def raisedAs (s : State) (src : Source) (r : Raised) : State := s.setSlot src (.raised r)

theorem raisedAs_slot (s : State) (src : Source) (r : Raised) : (raisedAs s src r).slot src = .raised r :=
  slot_setSlot_self s src _

theorem raisedAs_slot_ne (ne : o ≠ src) (r : Raised) : (raisedAs s src r).slot o = s.slot o := slot_setSlot_ne ne _

theorem raisedAs_of_raised (h : s.slot src = .raised r) : raisedAs s src r = s := by
  rw [raisedAs, ← h, setSlot_self]

theorem raisedAs_roster (s : State) (src : Source) (r : Raised) : (raisedAs s src r).alerts.roster = s.alerts.roster :=
  setSlot_roster _ _ _

theorem raisedAs_overflow (s : State) (src : Source) (r : Raised) : (raisedAs s src r).alerts.overflow = s.alerts.overflow :=
  setSlot_overflow _ _ _

theorem raisedAs_rankCounter (s : State) (src : Source) (r : Raised) :
    (raisedAs s src r).alerts.rankCounter = s.alerts.rankCounter := setSlot_rankCounter _ _ _

theorem raisedAs_nextTag (s : State) (src : Source) (r : Raised) : (raisedAs s src r).alerts.nextTag = s.alerts.nextTag :=
  setSlot_nextTag _ _ _

theorem rosterSound_raisedAs (h : RosterSound s) (src : Source) (r : Raised) : RosterSound (raisedAs s src r) :=
  steady_rosterSound.setSlot src _ h

/-! ## The outcomes -/

theorem attempt_of_ended (raised : s.slot src = .raised r) (h : ∃ x ∈ s.alerts.roster, x.source = src ∧ x.isEnded = true) :
    s.attempt src = (s.dropEntry src).createEntry src r := by
  obtain ⟨x, mem, same, ended⟩ := h
  unfold State.attempt
  rw [raised]
  exact if_pos (List.any_eq_true.2 ⟨x, mem, by rw [same, ended, beq_self_eq_true]; rfl⟩)

theorem no_ended (none : ∀ x ∈ s.alerts.roster, x.source ≠ src) :
    ¬(s.alerts.roster.any fun e => e.source == src && e.isEnded) = true := by
  rintro any
  obtain ⟨x, mem, both⟩ := List.any_eq_true.1 any
  exact none x mem (beq_iff_eq.1 (Bool.and_eq_true_iff.1 both).1)

theorem attempt_of_room (raised : s.slot src = .raised r) (none : ∀ x ∈ s.alerts.roster, x.source ≠ src)
    (room : s.alerts.roster.length < 48) : s.attempt src = s.createEntry src r := by
  unfold State.attempt
  rw [raised]
  exact (if_neg (no_ended none)).trans (if_pos room)

theorem attempt_of_victim (raised : s.slot src = .raised r) (none : ∀ x ∈ s.alerts.roster, x.source ≠ src)
    (full : s.alerts.roster.length = 48) (found : findVictim r.severity s.alerts.roster = some v) :
    s.attempt src = (s.displace v).createEntry src r := by
  unfold State.attempt
  rw [raised]
  refine (if_neg (no_ended none)).trans ((if_neg (show ¬s.alerts.roster.length < Config.rosterSize from ?_)).trans ?_)
  · rw [full]
    decide
  · rw [found]

theorem attempt_of_none (raised : s.slot src = .raised r) (none : ∀ x ∈ s.alerts.roster, x.source ≠ src)
    (full : s.alerts.roster.length = 48) (found : findVictim r.severity s.alerts.roster = Option.none) :
    s.attempt src = (s.setListing src .waiting).markOverflow src r.severity := by
  unfold State.attempt
  rw [raised]
  refine (if_neg (no_ended none)).trans ((if_neg (show ¬s.alerts.roster.length < Config.rosterSize from ?_)).trans ?_)
  · rw [full]
    decide
  · rw [found]

theorem createEntry_attention_eq (s : State) (src : Source) (r : Raised) (p : PortId) :
    (s.createEntry src r).attention[p] = (s.dueTo p src r.severity || s.attention[p]) := by
  rw [createEntry_attention, get_ofFn]

theorem displace_dueTo (s : State) (v : Entry) (p : PortId) (src : Source) (sev : Severity) :
    (s.displace v).dueTo p src sev = s.dueTo p src sev := dueTo_of_ports (frame_displace v .ports (by decide)) p src sev

theorem slot_markedWaiting (raised : s.slot src = .raised r) :
    ((s.setListing src .waiting).markOverflow src r.severity).slot src = .raised { r with listing := .waiting } := by
  rw [slot_markOverflow, slot_setListing, if_pos rfl, raised]
  rfl

theorem slot_markedWaiting_ne (ne : o ≠ src) :
    ((s.setListing src .waiting).markOverflow src sev).slot o = s.slot o := by
  rw [slot_markOverflow, slot_setListing, if_neg ne]

theorem setListing_alerts (s : State) (src : Source) (l : Listing) : (s.setListing src l).alerts =
    s.alerts.setSlot src ((s.slot src).mapRaised fun r => { r with listing := l }) := rfl

/-- What a listing attempt does for a condition RAISED as `r` says (R109 to R114). -/
theorem listingAttempted_raisedAs (sound : RosterSound s) (below : s.alerts.rankCounter < Config.maxRank) (src : Source)
    (r : Raised) : ListingAttempted s ((raisedAs s src r).attempt src) src r := by
  have raised := raisedAs_slot s src r
  have roster := raisedAs_roster s src r
  have soundHere := rosterSound_raisedAs sound src r
  have belowHere : (raisedAs s src r).alerts.rankCounter < Config.maxRank := by rwa [raisedAs_rankCounter]
  refine ⟨fun ended => ?_, fun none room => ?_, fun v none full victim => ?_, fun none full => ?_⟩
  · rw [attempt_of_ended raised (by rwa [roster])]
    have created := entryCreated_createEntry (s := (raisedAs s src r).dropEntry src) (r := r)
      (rosterSound_dropEntry soundHere src) belowHere ((slot_dropEntry _ src src).trans raised)
    rw [dropEntry_roster, roster] at created
    refine ⟨entryCreated_of_counters created (raisedAs_rankCounter s src r) (raisedAs_nextTag s src r), ?_, fun p => ?_⟩
    · rw [createEntry_overflow]
      exact raisedAs_overflow s src r
    · exact createEntry_attention_eq _ src r p
  · rw [attempt_of_room raised (by rwa [roster]) (by rwa [roster])]
    have created := entryCreated_createEntry soundHere belowHere raised
    rw [roster] at created
    refine ⟨entryCreated_of_counters created (raisedAs_rankCounter s src r) (raisedAs_nextTag s src r), ?_, fun p => ?_⟩
    · rw [createEntry_overflow]
      exact raisedAs_overflow s src r
    · exact createEntry_attention_eq _ src r p
  · have distinct := (rosterSound_iff.1 sound).ranks_nodup
    have other : src ≠ v.source := fun same => none v victim.1 same.symm
    rw [attempt_of_victim raised (by rwa [roster]) (by rwa [roster])
      (by rw [roster]; exact findVictim_eq_some distinct victim)]
    obtain ⟨left, tag, rank, overflow⟩ := displace_tables (raisedAs s src r) v
    have stays : ((raisedAs s src r).displace v).slot src = .raised r := by
      rw [slot_displace, if_neg fun both => other both.2, raised]
    have created := entryCreated_createEntry (s := (raisedAs s src r).displace v) (r := r)
      (rosterSound_displace soundHere v) (by rwa [rank]) stays
    rw [left, roster] at created
    refine ⟨entryCreated_of_counters created (rank.trans (raisedAs_rankCounter s src r))
      (tag.trans (raisedAs_nextTag s src r)), fun p => ⟨?_, ?_⟩, fun live => ?_⟩
    · rw [createEntry_overflow, overflow, get_ofFn, raisedAs_overflow]
      rfl
    · rw [createEntry_attention_eq, displace_dueTo, displace_attention, get_ofFn, raisedAs_overflow, ← Bool.or_assoc]
      rfl
    · rw [slot_createEntry_ne other.symm, slot_displace, if_pos ⟨live, rfl⟩, raisedAs_slot_ne other.symm]
      rfl
  · have found : findVictim r.severity (raisedAs s src r).alerts.roster = Option.none := by
      rw [roster]
      exact findVictim_eq_none fun x hx => (none x hx).2
    rw [attempt_of_none raised (by rw [roster]; exact fun x hx => (none x hx).1) (by rwa [roster]) found]
    refine ⟨?_, slot_markedWaiting raised, ?_, ?_, fun p => ⟨?_, ?_⟩⟩
    · exact (setSlot_roster _ _ _).trans roster
    · exact (setSlot_rankCounter _ _ _).trans (raisedAs_rankCounter s src r)
    · exact (setSlot_nextTag _ _ _).trans (raisedAs_nextTag s src r)
    · refine (get_ofFn _ p).trans ?_
      rw [setListing_alerts, setSlot_overflow, raisedAs_overflow]
      rfl
    · refine (get_ofFn _ p).trans ?_
      rw [setListing_alerts, setSlot_overflow, raisedAs_overflow]
      rfl

/-- A listing attempt touches no other slot but its victim's. -/
theorem othersStay_raisedAs (few : s.alerts.roster.length ≤ 48) (src : Source) (r : Raised) :
    OthersStay s ((raisedAs s src r).attempt src) src r.severity := by
  intro o ne away
  have kept := raisedAs_slot_ne (s := s) ne r
  have roster := raisedAs_roster s src r
  have same {r' : Raised} (h : (raisedAs s src r).slot src = .raised r') : r' = r :=
    Slot.raised.inj (h.symm.trans (raisedAs_slot s src r))
  refine attempt_cases (motive := fun t => t.slot o = s.slot o) _ src (fun _ => kept) (fun r' e _ _ _ _ => ?_)
    (fun r' _ _ _ => ?_) (fun r' v raised _ full found => ?_) fun r' _ _ _ _ => ?_
  · rw [slot_createEntry_ne ne, slot_dropEntry, kept]
  · rw [slot_createEntry_ne ne, kept]
  · rw [roster] at full found
    rw [same raised] at found
    have victim := isVictim_of_findVictim found
    have apart := away (Nat.le_antisymm few full) v victim.1 victim
    rw [slot_createEntry_ne ne, slot_displace, if_neg fun both => apart both.2.symm, kept]
  · rw [slot_markedWaiting_ne ne, kept]

theorem attempt_rankCounter_le (below : s.alerts.rankCounter < Config.maxRank) (src : Source) :
    (s.attempt src).alerts.rankCounter ≤ s.alerts.rankCounter + 1 := by
  refine attempt_cases (motive := fun t => t.alerts.rankCounter ≤ s.alerts.rankCounter + 1) s src (fun _ => Nat.le_succ _)
    (fun r e _ _ _ _ => ?_) (fun r _ _ _ => ?_) (fun r v _ _ _ _ => ?_) fun r _ _ _ _ => ?_
  · exact (createEntry_rankCounter (s := s.dropEntry src) below src r).le
  · exact (createEntry_rankCounter below src r).le
  · have rank := (displace_tables s v).2.2.1
    rw [createEntry_rankCounter (by rwa [rank]), rank]
  · exact (setSlot_rankCounter _ _ _).le.trans (Nat.le_succ _)

end Sys2Proof.Machine.Listings
end

section
/-! PROOFS. Removal with its re-listing, ending and escalation, exactly (R115 to R119). -/

namespace Sys2Proof.Machine.Listings

open Sys2Proof Sys2Proof.Machine Sys2Proof.Machine.Laws Sys2Proof.Machine.SlotGrades Sys2Proof.Machine.RosterLists
open Sys2Proof.Machine.RosterSoundness Sys2Proof.Machine.Agreement Sys2Proof.Machine.Choices

variable {s t u : State} {src o next : Source} {r : Raised} {es pre post : List Entry} {sev low high : Severity} {e : Entry}

/-! ## The first waiting condition -/

/-- The conditions in their places (R119). -/
def placedSources : List Source :=
  (allSeats.flatMap fun i => seatKinds.map fun k => Source.seat i k) ++ allLinks.map Source.link

theorem pairwise_place_seats (i : SeatId) :
    (seatKinds.map fun k => Source.seat i k).Pairwise fun a b => a.place < b.place := by
  have kinds : seatKinds.Pairwise fun a b => a.idx.val < b.idx.val := by decide
  rw [List.pairwise_map]
  exact kinds.imp fun lt => Nat.add_lt_add_left lt _

theorem pairwise_place_placedSources : placedSources.Pairwise fun a b => a.place < b.place := by
  have seats : (allSeats.flatMap fun i => seatKinds.map fun k => Source.seat i k).Pairwise fun a b => a.place < b.place := by
    rw [List.pairwise_flatMap]
    refine ⟨fun i _ => pairwise_place_seats i, (List.pairwise_lt_finRange 192).imp fun {i j} lt a ha b hb => ?_⟩
    obtain ⟨k, -, rfl⟩ := List.mem_map.1 ha
    obtain ⟨k', -, rfl⟩ := List.mem_map.1 hb
    have apart : i.val < j.val := lt
    show 9 * i.val + k.idx.val < 9 * j.val + k'.idx.val
    omega
  have links : (allLinks.map Source.link).Pairwise fun a b => a.place < b.place := by
    rw [List.pairwise_map]
    exact (List.pairwise_lt_finRange 6).imp fun lt => Nat.add_lt_add_left (show _ < _ from lt) _
  refine List.pairwise_append.2 ⟨seats, links, fun a ha b hb => ?_⟩
  obtain ⟨i, -, mem⟩ := List.mem_flatMap.1 ha
  obtain ⟨k, -, rfl⟩ := List.mem_map.1 mem
  obtain ⟨l, -, rfl⟩ := List.mem_map.1 hb
  show 9 * i.val + k.idx.val < 9 * 192 + l.val
  omega

theorem pairwise_place_waitingList (s : State) : s.waitingList.Pairwise fun a b => a.1.place < b.1.place := by
  have named {src : Source} {c : Source × Raised} (h : (match s.slot src with
      | .raised r => if r.listing = .waiting then some (src, r) else none
      | _ => none) = some c) : c.1 = src := by
    split at h
    · split at h
      · exact (Option.some.inj h) ▸ rfl
      · exact nomatch h
    · exact nomatch h
  show (placedSources.filterMap fun src => match s.slot src with
      | .raised r => if r.listing = .waiting then some (src, r) else none
      | _ => none).Pairwise _
  rw [List.pairwise_filterMap]
  exact pairwise_place_placedSources.imp fun lt c hc c' hc' => by rwa [named hc, named hc']

theorem before_iff {clock : Stamp} {b a : Raised} : b.before clock a = true ↔ a.severity.num < b.severity.num ∨
    (a.severity = b.severity ∧ (clock - a.stamp).toNat < (clock - b.stamp).toNat) := by
  unfold Raised.before
  rw [Bool.or_eq_true_iff, Bool.and_eq_true_iff, decide_eq_true_iff, decide_eq_true_iff, decide_eq_true_iff]
  rfl

theorem before_of_comesBefore {src' : Source} {r' : Raised} (h : ComesBefore s src r src' r') (ahead : src'.place < src.place) :
    r.before s.clock r' = true := by
  rw [before_iff]
  rcases h with lower | ⟨same, older | ⟨-, place⟩⟩
  · exact .inl lower
  · exact .inr ⟨same, older⟩
  · exact absurd place (Nat.lt_asymm ahead)

theorem not_before_of_comesBefore {src' : Source} {r' : Raised} (h : ComesBefore s src r src' r') :
    r'.before s.clock r = false := by
  rw [Bool.eq_false_iff, ne_eq, before_iff]
  rintro (lower | ⟨same, older⟩)
  · rcases h with lower' | ⟨same', -⟩
    · exact Nat.lt_asymm lower lower'
    · exact absurd (congrArg Severity.num same') (Nat.ne_of_gt lower)
  · rcases h with lower' | ⟨-, older' | ⟨stamp, -⟩⟩
    · exact absurd (congrArg Severity.num same) (Nat.ne_of_gt lower')
    · exact Nat.lt_asymm older older'
    · rw [stamp] at older
      exact Nat.lt_irrefl _ older

theorem firstWaiting_eq_some (h : FirstWaiting s next r) : s.firstWaiting = some (next, r) := by
  obtain ⟨raised, waiting, first⟩ := h
  obtain ⟨pre, post, split⟩ := List.append_of_mem (mem_waitingList.2 (show s.slot (next, r).1 = _ ∧ _ from ⟨raised, waiting⟩))
  have order := pairwise_place_waitingList s
  rw [split] at order
  obtain ⟨-, behind, ahead⟩ := List.pairwise_append.1 order
  have waits (c) (hc : c ∈ pre ++ (next, r) :: post) : s.slot c.1 = .raised c.2 ∧ c.2.listing = .waiting :=
    mem_waitingList.1 (split ▸ hc)
  rw [firstWaiting_eq, split]
  refine best_eq_some_of_split (fun c hc => ?_) fun c hc => ?_
  · have lt : c.1.place < next.place := ahead c hc _ List.mem_cons_self
    obtain ⟨raised', waiting'⟩ := waits c (List.mem_append_left _ hc)
    exact before_of_comesBefore (first c.1 c.2 raised' waiting' fun same => Nat.lt_irrefl _ (same ▸ lt)) lt
  · have lt : next.place < c.1.place := (List.pairwise_cons.1 behind).1 c hc
    obtain ⟨raised', waiting'⟩ := waits c (List.mem_append_right _ (.tail _ hc))
    exact not_before_of_comesBefore (first c.1 c.2 raised' waiting' fun same => Nat.lt_irrefl _ (same ▸ lt))

theorem firstWaiting_eq_none (h : ∀ o r, s.slot o = .raised r → r.listing ≠ .waiting) : s.firstWaiting = none := by
  rw [firstWaiting_eq, best_eq_none, List.eq_nil_iff_forall_not_mem]
  intro c hc
  obtain ⟨raised, waiting⟩ := mem_waitingList.1 hc
  exact h c.1 c.2 raised waiting

theorem relist_of_first (h : FirstWaiting s next r) : s.relist = s.attempt next := by
  unfold State.relist
  rw [firstWaiting_eq_some h]

theorem relist_of_none (h : ∀ o r, s.slot o = .raised r → r.listing ≠ .waiting) : s.relist = s := by
  unfold State.relist
  rw [firstWaiting_eq_none h]

/-! ## Removal -/

/-- An entry leaves, with one re-listing (R118, R119). -/
theorem entryRemoved_relist (sound : RosterSound s) (below : s.alerts.rankCounter < Config.maxRank)
    (room : (s.alerts.roster.filter fun x => x.source != src).length < 48)
    (none : ∀ next r, FirstWaiting s next r → ∀ x ∈ s.alerts.roster.filter fun x => x.source != src, x.source ≠ next) :
    EntryRemoved s (s.dropEntry src).relist src := by
  refine ⟨fun idle => ?_, fun next r first => ?_⟩
  · rw [relist_of_none (s := s.dropEntry src) idle]
    exact ⟨rfl, rfl⟩
  · have raised : (s.dropEntry src).slot next = .raised r := first.1
    have absent : ∀ x ∈ (s.dropEntry src).alerts.roster, x.source ≠ next := none next r first
    rw [relist_of_first (s := s.dropEntry src) first]
    have attempted := listingAttempted_raisedAs (rosterSound_dropEntry sound src) below next r
    rw [raisedAs_of_raised raised] at attempted
    obtain ⟨created, overflow, attention⟩ := attempted.2.1 absent room
    refine ⟨entryCreated_of_counters created rfl rfl, overflow, fun o ne => ?_, attention⟩
    rw [attempt_of_room raised absent room, slot_createEntry_ne ne]
    rfl

theorem no_entry_of_waiting (h : EntriesMatch s) (first : FirstWaiting s next r) : ∀ x ∈ s.alerts.roster, x.source ≠ next := by
  obtain ⟨-, -, -, waiting⟩ := h
  exact waiting next r first.1 first.2.1

theorem entryRemoved_of_ready (sound : RosterSound s) (match' : EntriesMatch s) (below : s.alerts.rankCounter < Config.maxRank)
    (here : ∃ x ∈ s.alerts.roster, x.source = src) : EntryRemoved s (s.dropEntry src).relist src := by
  obtain ⟨x, mem, same⟩ := here
  have few : s.alerts.roster.length ≤ 48 := (rosterSound_iff.1 sound).length
  refine entryRemoved_relist sound below ((length_filter_source mem same).trans_le few) fun next r first x hx => ?_
  exact no_entry_of_waiting match' first x (List.mem_of_mem_filter hx)

theorem fullyAcked_iff {e : Entry} : s.fullyAcked e = true ↔ AckedByAll s e := by
  unfold State.fullyAcked AckedByAll allPorts
  rw [List.all_eq_true]
  refine forall_congr' fun p => ?_
  rw [Bool.or_eq_true_iff, Bool.not_eq_true', or_iff_not_imp_left, Bool.not_eq_false]
  exact ⟨fun h => h (List.mem_finRange p), fun h _ => h⟩

theorem removalTest_of_leaves (found : s.alerts.roster.find? (fun e => e.source == src) = some e) (ended : e.isEnded = true)
    (h : e.severity = .notice ∨ AckedByAll s e) : s.removalTest src = (s.dropEntry src).relist := by
  have both : (e.isEnded && (decide (e.severity = .notice) || s.fullyAcked e)) = true := by
    rw [ended, Bool.true_and, Bool.or_eq_true_iff, decide_eq_true_iff, fullyAcked_iff]
    exact h
  unfold State.removalTest
  rw [found]
  exact if_pos both

theorem removalTest_of_stays (found : s.alerts.roster.find? (fun e => e.source == src) = some e)
    (h : e.isEnded = false ∨ (e.severity ≠ .notice ∧ ¬AckedByAll s e)) : s.removalTest src = s := by
  have both : ¬(e.isEnded && (decide (e.severity = .notice) || s.fullyAcked e)) = true := by
    rw [Bool.and_eq_true_iff, Bool.or_eq_true_iff, decide_eq_true_iff, fullyAcked_iff]
    rintro ⟨ended, out⟩
    rcases h with live | ⟨notNotice, unacked⟩
    · exact absurd (ended.symm.trans live) nofun
    · exact out.elim notNotice unacked
  unfold State.removalTest
  rw [found]
  exact if_neg both

theorem find_source_of_split (ahead : ∀ x ∈ pre, x.source ≠ src) (here : e.source = src) :
    (pre ++ e :: post).find? (fun x => x.source == src) = some e := by
  rw [List.find?_append, List.find?_eq_none.2 fun x hx => by rw [beq_iff_eq]; exact ahead x hx, Option.none_or,
    List.find?_cons_of_pos (by rw [beq_iff_eq]; exact here)]

/-! ## Ending -/

/-- The condition ended, its LISTED entry ENDED and stamped (R117). -/
def endedState (s : State) (src : Source) : State :=
  (s.setSlot src .clear).mapLive src fun e => { e with phase := .ended s.clock }

theorem endCondition_of_listed (raised : s.slot src = .raised r) (listed : r.listing = .listed) :
    s.endCondition src = (endedState s src).removalTest src := by
  unfold State.endCondition
  rw [raised]
  dsimp only
  rw [listed]
  rfl

theorem endCondition_of_unlisted (raised : s.slot src = .raised r) (unlisted : r.listing ≠ .listed) :
    s.endCondition src = s.setSlot src .clear := by
  unfold State.endCondition
  rw [raised]
  dsimp only
  split
  next listed => exact absurd listed unlisted
  next => rfl
  next => rfl

/-- The entries beside one have other sources. -/
theorem others_of_split (distinct : ((pre ++ e :: post).map (·.source)).Nodup) : ∀ x ∈ pre ++ post, x.source ≠ e.source := by
  have perm : ((pre ++ e :: post).map (·.source)).Perm (e.source :: (pre ++ post).map (·.source)) := List.perm_middle.map _
  have fresh := (List.nodup_cons.1 (perm.nodup_iff.1 distinct)).1
  exact fun x hx same => fresh (same ▸ List.mem_map_of_mem (f := fun e : Entry => e.source) hx)

theorem live_of_listed (h : EntriesMatch s) (raised : s.slot src = .raised r) (listed : r.listing = .listed)
    (split : s.alerts.roster = pre ++ e :: post) (here : e.source = src) : e.phase = .live := by
  obtain ⟨distinct, -, has, -⟩ := h
  obtain ⟨x, mem, same, live⟩ := has src r raised listed
  have own : e ∈ s.alerts.roster := split ▸ List.mem_append_right _ List.mem_cons_self
  rw [← List.inj_on_of_nodup_map distinct mem own (same.trans here.symm)]
  exact live

theorem endedState_eq (h : EntriesMatch s) (raised : s.slot src = .raised r) (listed : r.listing = .listed)
    (split : s.alerts.roster = pre ++ e :: post) (here : e.source = src) :
    endedState s src = { s with alerts := { s.alerts.setSlot src .clear with
      roster := pre ++ { e with phase := .ended s.clock } :: post } } := by
  have live := live_of_listed h raised listed split here
  have others := others_of_split (split ▸ h.1)
  have kept (xs : List Entry) (away : ∀ x ∈ xs, x.source ≠ e.source) : (xs.map fun x =>
      if x.source = src ∧ x.phase = .live then { x with phase := .ended s.clock } else x) = xs :=
    (List.map_congr_left fun x hx => if_neg fun both => away x hx (both.1.trans here.symm)).trans (List.map_id xs)
  have roster : ((s.alerts.setSlot src .clear).roster.map fun x =>
      if x.source = src ∧ x.phase = .live then { x with phase := .ended s.clock } else x) =
      pre ++ { e with phase := .ended s.clock } :: post := by
    rw [setSlot_roster, split, List.map_append, List.map_cons, if_pos ⟨here, live⟩,
      kept pre fun x hx => others x (List.mem_append_left _ hx), kept post fun x hx => others x (List.mem_append_right _ hx)]
  exact congrArg (fun es => { s with alerts := { s.alerts.setSlot src .clear with roster := es } }) roster

theorem rosterSound_endedState (h : RosterSound s) (src : Source) : RosterSound (endedState s src) :=
  steady_rosterSound.mapLive (f := fun e => { e with phase := .ended s.clock }) src (fun _ => rfl) (fun _ => rfl)
    (fun _ => rfl) (steady_rosterSound.setSlot src .clear h)

theorem endedState_slot (s : State) (src o : Source) : (endedState s src).slot o = if o = src then .clear else s.slot o := by
  rw [endedState, slot_mapLive, slot_setSlot]

theorem endedState_sources (s : State) (src : Source) :
    (endedState s src).alerts.roster.map (·.source) = s.alerts.roster.map (·.source) := by
  show ((s.alerts.setSlot src .clear).roster.map fun x =>
    if x.source = src ∧ x.phase = .live then { x with phase := .ended s.clock } else x).map (·.source) = _
  rw [setSlot_roster, List.map_map]
  refine List.map_congr_left fun x _ => ?_
  show (if _ then { x with phase := .ended s.clock } else x : Entry).source = x.source
  split <;> rfl

theorem endedState_rankCounter (s : State) (src : Source) :
    (endedState s src).alerts.rankCounter = s.alerts.rankCounter := setSlot_rankCounter _ _ _

/-- What the ending of a condition does (R117, R118). -/
theorem conditionEnded_endCondition (ready : RosterReady s 1) (src : Source) :
    ConditionEnded s (s.endCondition src) src := by
  obtain ⟨sound, agrees, ranks⟩ := ready
  refine fun r raised => ⟨fun unlisted => ?_, fun listed pre e post split here => ?_⟩
  · rw [endCondition_of_unlisted raised unlisted]
    exact ⟨rfl, rfl⟩
  · have shape := endedState_eq agrees raised listed split here
    have others := others_of_split (split ▸ agrees.1)
    have found : (endedState s src).alerts.roster.find? (fun x => x.source == src) = some { e with phase := .ended s.clock } := by
      rw [shape]
      exact find_source_of_split (fun x hx => here ▸ others x (List.mem_append_left _ hx)) here
    rw [endCondition_of_listed raised listed]
    refine ⟨fun notNotice unacked => ?_, fun leaves => ?_⟩
    · rw [removalTest_of_stays found (.inr ⟨notNotice, by rw [shape]; exact unacked⟩), shape]
      exact ⟨rfl, rfl⟩
    · have acked : e.severity = .notice ∨ AckedByAll (endedState s src) { e with phase := .ended s.clock } := by
        rw [shape]
        exact leaves
      rw [removalTest_of_leaves found rfl acked, ← shape]
      have few : (endedState s src).alerts.roster.length ≤ 48 := (rosterSound_iff.1 (rosterSound_endedState sound src)).length
      have mem := List.mem_of_find?_eq_some found
      have below : (endedState s src).alerts.rankCounter < Config.maxRank := by
        rw [endedState_rankCounter]
        omega
      refine entryRemoved_relist (rosterSound_endedState sound src) below
        ((length_filter_source mem here).trans_le few) fun next r first x hx same => ?_
      obtain ⟨slot, waiting, -⟩ := first
      rw [endedState_slot] at slot
      split at slot
      · exact nomatch slot
      · have source : x.source ∈ s.alerts.roster.map (·.source) := by
          rw [← endedState_sources s src]
          exact List.mem_map_of_mem (f := fun e : Entry => e.source) (List.mem_of_mem_filter hx)
        obtain ⟨y, hy, eq⟩ := List.mem_map.1 source
        obtain ⟨-, -, -, absent⟩ := agrees
        exact absent next r slot waiting y hy (eq.trans same)

/-! ## Escalation -/

theorem escalate_of_quieted (raised : s.slot src = .raised r) (quieted : r.listing = .quieted) (sev : Severity) :
    s.escalate src sev = s.setSlot src (.raised { r with severity := sev }) := by
  unfold State.escalate
  rw [raised]
  dsimp only
  rw [quieted]

theorem escalate_of_waiting (raised : s.slot src = .raised r) (waiting : r.listing = .waiting) (sev : Severity) :
    s.escalate src sev = (raisedAs s src { r with severity := sev }).attempt src := by
  unfold State.escalate
  rw [raised]
  dsimp only
  rw [waiting]
  rfl

theorem escalate_of_listed (raised : s.slot src = .raised r) (listed : r.listing = .listed) (sev : Severity) :
    s.escalate src sev = (raisedAs s src { r with severity := sev }).escalateEntry src sev := by
  unfold State.escalate
  rw [raised]
  dsimp only
  rw [listed]
  rfl

theorem find_of_distinct (distinct : (es.map (·.source)).Nodup) (mem : e ∈ es) (here : e.source = src) :
    es.find? (fun x => x.source == src) = some e := by
  obtain ⟨x, found⟩ := find_source_isSome ⟨e, mem, here⟩
  obtain ⟨hx, same⟩ := mem_of_find_source found
  rw [found, List.inj_on_of_nodup_map distinct hx mem (same.trans here.symm)]

theorem falling_filter (sound : RosterSound s) (f : Entry → Bool) : Falling (s.alerts.roster.filter f) :=
  falling_of_ahead ((rosterSound_iff.1 sound).filter f).ahead

/-- The entry of a LISTED condition escalates: a new severity and rank, no acknowledgement (R115). -/
theorem escalateEntry_eq (sound : RosterSound s) (distinct : (s.alerts.roster.map (·.source)).Nodup)
    (below : s.alerts.rankCounter < Config.maxRank) (plain : src.detailAtEscalation = false) (mem : e ∈ s.alerts.roster)
    (here : e.source = src) (sev : Severity) : s.escalateEntry src sev = ({ s with alerts := { s.alerts with
      roster := placed { e with severity := sev, rank := s.alerts.rankCounter + 1, acks := noPorts }
        (s.alerts.roster.filter fun x => x.source != src)
      rankCounter := s.alerts.rankCounter + 1 } }).attend fun p => s.dueTo p src sev := by
  have found : s.alerts.beforeRank.roster.find? (fun x => x.source == src) = some e := by
    rw [beforeRank_of_below below]
    exact find_of_distinct distinct mem here
  rw [escalateEntry_of_some found, escalated, beforeRank_of_below below, plain, if_neg Bool.false_ne_true]
  dsimp only
  rw [insertEntry_eq_placed (falling_filter sound _)]

theorem escalateFrom_of_other (h : (s.slot src).severity? ≠ some low) (high : Severity) : s.escalateFrom src low high = s :=
  if_neg h

theorem escalateFrom_of_low (raised : s.slot src = .raised r) (h : r.severity = low) (high : Severity) :
    s.escalateFrom src low high = s.escalate src high := by
  refine if_pos ?_
  rw [raised, ← h]
  rfl

/-- What an escalation does (R115, R116). -/
theorem escalatedFrom_escalateFrom (ready : RosterReady s 1) (plain : src.detailAtEscalation = false) (low high : Severity) :
    EscalatedFrom s (s.escalateFrom src low high) src low high := by
  obtain ⟨sound, agrees, ranks⟩ := ready
  have below : s.alerts.rankCounter < Config.maxRank := by omega
  have few : s.alerts.roster.length ≤ 48 := (rosterSound_iff.1 sound).length
  refine ⟨fun other => ?_, fun r raised isLow => ⟨fun quieted => ?_, fun waiting => ?_, fun listed e mem here => ?_⟩⟩
  · rw [escalateFrom_of_other other]
    exact ⟨rfl, rfl⟩
  · rw [escalateFrom_of_low raised isLow, escalate_of_quieted raised quieted]
    exact ⟨rfl, rfl⟩
  · rw [escalateFrom_of_low raised isLow, escalate_of_waiting raised waiting]
    exact ⟨listingAttempted_raisedAs sound below src _, othersStay_raisedAs few src { r with severity := high }⟩
  · have roster := raisedAs_roster s src { r with severity := high }
    have counter := raisedAs_rankCounter s src { r with severity := high }
    rw [escalateFrom_of_low raised isLow, escalate_of_listed raised listed,
      escalateEntry_eq (rosterSound_raisedAs sound src _) (by rw [roster]; exact agrees.1) (by rwa [counter]) plain
        (by rw [roster]; exact mem) here, counter, roster]
    exact ⟨rfl, fun p => get_ofFn _ p⟩

end Sys2Proof.Machine.Listings
end

section
/-! PROOFS. The timers of the mute conditions (R94 to R98). -/

namespace Sys2Proof.Machine.Listings

open Sys2Proof Sys2Proof.Machine Sys2Proof.Machine.Laws Sys2Proof.Machine.SlotGrades Sys2Proof.Machine.SeatWork
open Sys2Proof.Machine.RosterSoundness Sys2Proof.Machine.Agreement Sys2Proof.Machine.SeatRequests

variable {s t u : State} {src o : Source} {r : Raised} {es : List Entry} {sev : Severity} {i : SeatId} {k : SeatKind}
variable {W : List Block} {x : Slot}

/-! ## Steps that leave the listing alone -/

theorem muteRaised_of_frame (h : MuteRaised s t i k sev) (frame : ChangesOnly W t u) (hW : ∀ b ∈ listingBlocks, b ∉ W) :
    MuteRaised s u i k sev := by
  rw [← besides_eq frame hW]
  exact h

theorem conditionEnded_of_frame (h : ConditionEnded s t src) (frame : ChangesOnly W t u)
    (hW : ∀ b ∈ listingBlocks, b ∉ W) : ConditionEnded s u src := by
  rw [← besides_eq frame hW]
  exact h

theorem indicatorFollows_of_frame (h : IndicatorFollows t i) (frame : ChangesOnly W t u)
    (hW : Block.mute ∉ W ∧ Block.alerts ∉ W ∧ Block.seats ∉ W) : IndicatorFollows u i :=
  indicatorFollows_of_untouched h (untouched_of_frame frame hW)

/-! ## Raising -/

theorem lastAudioOf_eq {a : AudioState} (h : s.seats[i].lastAudio = some a) : s.lastAudioOf i = a := by
  rw [State.lastAudioOf, h]
  rfl

theorem raise_of_quiet (h : s.isQuiet src = true) (sev : Severity) (d : FixedDetail) :
    s.raise src sev d = raisedAs s src ⟨sev, .quieted, s.clock, d⟩ := if_pos h

theorem raise_of_loud (h : s.isQuiet src = false) (sev : Severity) (d : FixedDetail) :
    s.raise src sev d = (raisedAs s src ⟨sev, .waiting, s.clock, d⟩).attempt src :=
  if_neg (by rw [h]; exact Bool.false_ne_true)

/-- A mute condition is raised with the seat's last audio state (R11, R95, R109). -/
theorem muteRaised_raise (s : State) (i : SeatId) (k : SeatKind) (sev : Severity) (f : Mute → Mute) :
    MuteRaised s ((s.modMute i f).raise (.seat i k) sev (.audio (s.lastAudioOf i))) i k sev := by
  intro a last
  rw [lastAudioOf_eq last]
  refine ⟨fun quiet => ?_, fun loud sound _ below _ => ?_⟩
  · rw [raise_of_quiet (s := s.modMute i f) (src := .seat i k) quiet]
    exact ⟨raisedAs_slot _ _ _, raisedAs_roster (s.modMute i f) _ _, raisedAs_overflow (s.modMute i f) _ _, rfl⟩
  · rw [raise_of_loud (s := s.modMute i f) (src := .seat i k) loud]
    exact listingAttempted_raisedAs (s := s.modMute i f) sound below _ _

/-! ## A slot of another condition -/

theorem setSlot_detailOf (ne : src ≠ o) (t : State) (x : Slot) : (t.setSlot o x).detailOf src = t.detailOf src := by
  refine detailOf_congr rfl rfl rfl ?_
  unfold State.fixedOf
  rw [slot_setSlot_ne ne]

theorem entryCreated_setSlot (h : EntryCreated s t es src r) (ne : src ≠ o) (x : Slot) :
    EntryCreated s (t.setSlot o x) es src r := by
  unfold EntryCreated at h ⊢
  rw [slot_setSlot_ne ne, setSlot_detailOf ne]
  show _ ∧ (t.alerts.setSlot o x).rankCounter = _ ∧ ∃ e, (t.alerts.setSlot o x).roster = _ ∧
    (t.alerts.setSlot o x).nextTag = _ ∧ _
  rw [setSlot_rankCounter, setSlot_roster, setSlot_nextTag]
  exact h

theorem listingAttempted_setSlot (h : ListingAttempted s t src r) (ne : src ≠ o)
    (away : ∀ v ∈ s.alerts.roster, v.isEnded = false → v.source ≠ o) (x : Slot) :
    ListingAttempted s (t.setSlot o x) src r := by
  obtain ⟨ended, room, victim, full⟩ := h
  have overflow : (t.setSlot o x).alerts.overflow = t.alerts.overflow := setSlot_overflow _ _ _
  refine ⟨fun some => ?_, fun none few => ?_, fun v none many isVictim => ?_, fun none many => ?_⟩
  · obtain ⟨created, marks, attention⟩ := ended some
    exact ⟨entryCreated_setSlot created ne x, overflow.trans marks, attention⟩
  · obtain ⟨created, marks, attention⟩ := room none few
    exact ⟨entryCreated_setSlot created ne x, overflow.trans marks, attention⟩
  · obtain ⟨created, ports, waits⟩ := victim v none many isVictim
    refine ⟨entryCreated_setSlot created ne x, fun p => ⟨by rw [overflow]; exact (ports p).1, (ports p).2⟩, fun live => ?_⟩
    rw [slot_setSlot_ne (away v isVictim.1 live)]
    exact waits live
  · obtain ⟨roster, slot, rank, tag, ports⟩ := full none many
    refine ⟨(setSlot_roster _ _ _).trans roster, by rw [slot_setSlot_ne ne]; exact slot,
      (setSlot_rankCounter _ _ _).trans rank, (setSlot_nextTag _ _ _).trans tag, fun p => ?_⟩
    rw [overflow]
    exact ports p

theorem source_ne_of_idle (h : EntriesMatch s) (idle : (s.slot o).isRaised = false) :
    ∀ v ∈ s.alerts.roster, v.isEnded = false → v.source ≠ o := by
  rintro v mem live rfl
  obtain ⟨-, has, -, -⟩ := h
  obtain ⟨r, raised, -, -⟩ := has v mem (isEnded_eq_false.1 live)
  rw [raised] at idle
  exact nomatch idle

theorem muteRaised_setSlot (h : MuteRaised s t i k sev) (ne : Source.seat i k ≠ o) (idle : (s.slot o).isRaised = false)
    (x : Slot) : MuteRaised s (t.setSlot o x) i k sev := by
  intro a last
  obtain ⟨quieted, attempted⟩ := h a last
  refine ⟨fun quiet => ?_, fun loud sound agrees below live => ?_⟩
  · obtain ⟨slot, roster, overflow, attention⟩ := quieted quiet
    exact ⟨by rw [slot_setSlot_ne ne]; exact slot, (setSlot_roster _ _ _).trans roster,
      (setSlot_overflow _ _ _).trans overflow, attention⟩
  · exact listingAttempted_setSlot (attempted loud sound agrees below live) ne (source_ne_of_idle agrees idle) x

theorem endOrCancel_of_idle (h : (s.slot src).isRaised = false) : s.endOrCancel src = s.setSlot src .clear := by
  unfold State.endOrCancel
  split
  next raised =>
    rw [raised] at h
    exact nomatch h
  next => rfl
  next clear => rw [← clear, setSlot_self]

/-! ## VOICE_IN_MUTE and FLOOR_MUTED are raised -/

theorem holdOf_eq (h : MuteHold) : holdOf h = if h = .none then .free else .held := by cases h <;> rfl

theorem patternFor_of_voice (h : (s.slot (.seat i .voiceInMute)).isRaised = true) : s.patternFor i = .muteFlash := by
  rw [State.patternFor, h]
  rfl

theorem patternFor_of_floorMuted (h : (s.slot (.seat i .floorMuted)).isRaised = true) :
    s.patternFor i = if (s.slot (.seat i .voiceInMute)).isRaised then .muteFlash else .floorPrompt := by
  rw [State.patternFor, h]
  rfl

theorem severity_raise (s : State) (src : Source) (sev : Severity) (d : FixedDetail) :
    ((s.raise src sev d).slot src).severity? = some sev := by
  rw [severity?_eq, (setsGrade_raise s src sev d).1]
  rfl

theorem isRaised_raise (s : State) (src : Source) (sev : Severity) (d : FixedDetail) :
    ((s.raise src sev d).slot src).isRaised = true := isRaised_of_grade_raised (setsGrade_raise s src sev d).1

theorem slot_derived (s : State) (i : SeatId) (o : Source) : (s.derive i).evalOutputs.slot o = s.slot o :=
  slot_of_alerts ((frame_evalOutputs .alerts (by decide)).trans (frame_derive i .alerts (by decide))) o

theorem frame_derived (s : State) (i : SeatId) :
    ChangesOnly [.mute, .queue, .syncs, .reminders, .lamps] s (s.derive i).evalOutputs :=
  frame_then (frame_mono (frame_derive i) (by decide)) frame_evalOutputs (by decide)

theorem derived_mute {m : Mute} {v : Vector Mute 192} (h : s.mute = v.set i m) : (s.derive i).evalOutputs.mute =
    v.set i { m with pattern := s.patternFor i, order := if m.hold = .none then .free else .held } := by
  rw [show (s.derive i).evalOutputs.mute = (s.derive i).mute from frame_evalOutputs .mute (by decide), derive_of_mute h,
    holdOf_eq]

theorem frame_raised (f : Mute → Mute) (sev : Severity) (d : FixedDetail) :
    ChangesOnly [.mute, .alerts, .attention, .queue, .syncs, .reminders, .lamps] s
      (((s.modMute i f).raise (.seat i k) sev d).derive i).evalOutputs :=
  frame_then (frame_then (frame_mono (frame_modMute i f) (by decide)) (frame_raise _ _ _) (by decide)) (frame_derived _ _)
    (by decide)

theorem raise_mute_of (s : State) (i : SeatId) (f : Mute → Mute) (src : Source) (sev : Severity) (d : FixedDetail) :
    ((s.modMute i f).raise src sev d).mute = s.mute.set i (f s.mute[i]) := by
  rw [raise_mute, modMute_mute]

theorem voiceQualifyExpires_eq (h : s.mute[i].voiceQualify.isSome = true) : s.voiceQualifyExpires i =
    ((s.modMute i fun m => { m with voiceQualify := none, voiceEnd := some 30 }).raise (.seat i .voiceInMute)
      (if s.mute[i].floor then .warning else .notice) (.audio (s.lastAudioOf i))).derive i := by
  unfold State.voiceQualifyExpires
  split
  · rfl
  next none =>
    rw [none] at h
    exact nomatch h

theorem floorMutedQualifyExpires_eq (h : s.mute[i].floorMutedQualify.isSome = true) : s.floorMutedQualifyExpires i =
    ((s.modMute i fun m => { m with floorMutedQualify := none }).raise (.seat i .floorMuted) .notice
      (.audio (s.lastAudioOf i))).derive i := by
  unfold State.floorMutedQualifyExpires
  split
  · rfl
  next none =>
    rw [none] at h
    exact nomatch h

theorem openGraceExpires_eq (h : s.mute[i].openGrace.isSome = true) : s.openGraceExpires i =
    ((s.modMute i fun m => { m with openGrace := none }).raiseOpenNoFloor i (s.lastAudioOf i)).derive i := by
  unfold State.openGraceExpires
  split
  · rfl
  next none =>
    rw [none] at h
    exact nomatch h

theorem exec_voiceQualify (h : s.mute[i].voiceQualify.isSome = true) : ∃ t, exec (.voiceQualifyExpiry i) s = .next t ∧
    t.mute = s.mute.set i { s.mute[i] with voiceQualify := none, voiceEnd := some 30, pattern := .muteFlash,
                                           order := if s.mute[i].hold = .none then .free else .held } ∧
    (t.slot (.seat i .voiceInMute)).severity? = some (if s.mute[i].floor then .warning else .notice) ∧
    MuteRaised s t i .voiceInMute (if s.mute[i].floor then .warning else .notice) ∧
    ChangesOnly [.mute, .alerts, .attention, .queue, .syncs, .reminders, .lamps] s t := by
  refine ⟨_, congrArg Host.Outcome.next (if_pos h), ?_⟩
  rw [voiceQualifyExpires_eq h]
  refine ⟨?_, ?_, muteRaised_of_frame (muteRaised_raise s i _ _ _) (frame_derived _ i) (by decide), frame_raised _ _ _⟩
  · rw [derived_mute (raise_mute_of s i _ _ _ _), patternFor_of_voice (isRaised_raise _ _ _ _)]
  · rw [slot_derived]
    exact severity_raise _ _ _ _

theorem exec_floorMutedQualify (h : s.mute[i].floorMutedQualify.isSome = true) :
    ∃ t, exec (.floorMutedQualifyExpiry i) s = .next t ∧
      (t.slot (.seat i .floorMuted)).severity? = some .notice ∧
      t.mute = s.mute.set i { s.mute[i] with
        floorMutedQualify := none
        pattern := if (s.slot (.seat i .voiceInMute)).isRaised then .muteFlash else .floorPrompt
        order := if s.mute[i].hold = .none then .free else .held } ∧
      MuteRaised s t i .floorMuted .notice ∧
      ChangesOnly [.mute, .alerts, .attention, .queue, .syncs, .reminders, .lamps] s t := by
  refine ⟨_, congrArg Host.Outcome.next (if_pos h), ?_⟩
  rw [floorMutedQualifyExpires_eq h]
  refine ⟨?_, ?_, muteRaised_of_frame (muteRaised_raise s i _ _ _) (frame_derived _ i) (by decide), frame_raised _ _ _⟩
  · rw [slot_derived]
    exact severity_raise _ _ _ _
  · have voice := isRaised_of_grade ((setsGrade_raise (s.modMute i fun m => { m with floorMutedQualify := none })
      (.seat i .floorMuted) .notice (.audio (s.lastAudioOf i))).2 (.seat i .voiceInMute) nofun)
    rw [derived_mute (raise_mute_of s i _ _ _ _), patternFor_of_floorMuted (isRaised_raise _ _ _ _), voice]
    rfl

/-! ## OPEN_NO_FLOOR is raised -/

theorem dropFloorMuted_of_idle (idle : (s.slot (.seat i .floorMuted)).isRaised = false) : s.dropFloorMuted i =
    (s.setSlot (.seat i .floorMuted) .clear).modMute i fun m => { m with floorMutedQualify := none } := by
  rw [State.dropFloorMuted, endOrCancel_of_idle idle]

theorem muteRaised_dropFloorMuted (h : MuteRaised s t i .openNoFloor sev)
    (before : (s.slot (.seat i .floorMuted)).isRaised = false) (after : (t.slot (.seat i .floorMuted)).isRaised = false) :
    MuteRaised s (t.dropFloorMuted i) i .openNoFloor sev := by
  rw [dropFloorMuted_of_idle after]
  have cleared := muteRaised_setSlot (o := .seat i .floorMuted) h nofun before .clear
  exact muteRaised_of_frame cleared (frame_modMute i fun m => { m with floorMutedQualify := none }) (by decide)

theorem muteRaised_raiseOpenNoFloor (f : Mute → Mute) (idle : (s.slot (.seat i .floorMuted)).isRaised = false) :
    MuteRaised s ((s.modMute i f).raiseOpenNoFloor i (s.lastAudioOf i)) i .openNoFloor .warning := by
  have raised := muteRaised_raise s i .openNoFloor .warning f
  have after : (((s.modMute i f).raise (.seat i .openNoFloor) .warning (.audio (s.lastAudioOf i))).slot
      (.seat i .floorMuted)).isRaised = false :=
    (isRaised_of_grade ((setsGrade_raise (s.modMute i f) (.seat i .openNoFloor) _ _).2 (.seat i .floorMuted) nofun)).trans
      idle
  unfold State.raiseOpenNoFloor
  generalize (s.modMute i f).raise (.seat i .openNoFloor) .warning (.audio (s.lastAudioOf i)) = v at raised after ⊢
  dsimp only
  split
  · exact muteRaised_dropFloorMuted (muteRaised_of_frame raised (frame_modMute i _) (by decide)) idle after
  · exact raised

theorem exec_openGrace (h : s.mute[i].openGrace.isSome = true) : ∃ t, exec (.openGraceExpiry i) s = .next t ∧
    (t.slot (.seat i .openNoFloor)).severity? = some .warning ∧ t.mute[i].openGrace = none ∧
    t.mute[i].hold = (if s.params.autoMute = true ∧ s.mute[i].hold = .none then .auto else s.mute[i].hold) ∧
    (s.params.autoMute = true → s.mute[i].hold = .none →
      t.slot (.seat i .floorMuted) = .clear ∧ t.mute[i].floorMutedQualify = none) ∧
    t.mute[i].floor = s.mute[i].floor ∧ IndicatorFollows t i ∧ SameBut i s.mute t.mute ∧
    ((s.slot (.seat i .floorMuted)).isRaised = false → MuteRaised s t i .openNoFloor .warning) ∧
    ChangesOnly [.mute, .alerts, .attention, .queue, .syncs, .reminders, .lamps] s t := by
  refine ⟨_, congrArg Host.Outcome.next (if_pos h), ?_⟩
  rw [openGraceExpires_eq h]
  obtain ⟨opened, floorMuted, -, mute⟩ :=
    raiseOpenNoFloor_spec (s.modMute i fun m => { m with openGrace := none }) i (s.lastAudioOf i)
  rw [modMute_mute, set_set_self, get_set_self] at mute
  have muted := derived_mute mute
  have frame : ChangesOnly [.mute, .alerts, .attention, .queue, .syncs, .reminders, .lamps] s
      (((s.modMute i fun m => { m with openGrace := none }).raiseOpenNoFloor i (s.lastAudioOf i)).derive i).evalOutputs :=
    frame_then (frame_then (frame_mono (frame_modMute i _) (by decide)) (frame_raiseOpenNoFloor i _) (by decide))
      (frame_derived _ _) (by decide)
  have listed (idle : (s.slot (.seat i .floorMuted)).isRaised = false) :=
    muteRaised_of_frame (muteRaised_raiseOpenNoFloor (fun m => { m with openGrace := none }) idle) (frame_derived _ i) (by decide)
  have follows := indicatorFollows_of_frame (indicatorFollows_derive
    ((s.modMute i fun m => { m with openGrace := none }).raiseOpenNoFloor i (s.lastAudioOf i)) i) frame_evalOutputs (by decide)
  have slots := slot_derived ((s.modMute i fun m => { m with openGrace := none }).raiseOpenNoFloor i (s.lastAudioOf i)) i
  have auto : ((s.modMute i fun m => { m with openGrace := none }).params.autoMute && s.mute[i].hold == .none) = true ↔
      s.params.autoMute = true ∧ s.mute[i].hold = .none := by
    rw [Bool.and_eq_true_iff, beq_iff_eq]
    rfl
  generalize ((s.modMute i fun m => { m with openGrace := none }).raiseOpenNoFloor i (s.lastAudioOf i)) = u at *
  generalize (u.derive i).evalOutputs = t at *
  have at' := mute_at muted
  refine ⟨?_, ?_, ?_, fun on free => ?_, ?_, follows, sameBut_of_set muted, listed, frame⟩
  · rw [slots, severity?_eq, opened]
    rfl
  · rw [at']
    dsimp only
    split <;> rfl
  · rw [at']
    dsimp only
    split
    next yes => rw [if_pos (auto.1 yes)]
    next no => rw [if_neg fun both => no (auto.2 both)]
  · have both := auto.2 ⟨on, free⟩
    refine ⟨?_, ?_⟩
    · rw [slots, ← grade_eq_clear, floorMuted, modMute_mute, get_set_self]
      exact if_pos both
    · rw [at']
      dsimp only
      rw [if_pos both]
  · rw [at']
    dsimp only
    split <;> rfl

/-- Settles O25: the three qualify timers. -/
theorem qualifyTimersExpire : Obligations.QualifyTimersExpire :=
  ⟨fun _ _ h => exec_voiceQualify h, fun _ _ h => exec_openGrace h, fun _ _ h => exec_floorMutedQualify h⟩

/-! ## The timers that stop a condition -/

theorem voiceEndExpires_eq (h : s.mute[i].voiceEnd.isSome = true) : s.voiceEndExpires i =
    ((s.modMute i fun m => { m with voiceEnd := none }).endCondition (.seat i .voiceInMute)).derive i := by
  unfold State.voiceEndExpires
  split
  · rfl
  next none =>
    rw [none] at h
    exact nomatch h

theorem exec_voiceEnd (h : s.mute[i].voiceEnd.isSome = true) : ∃ t, exec (.voiceEndExpiry i) s = .next t ∧
    ((s.slot (.seat i .voiceInMute)).isRaised = true → t.slot (.seat i .voiceInMute) = .clear) ∧
    (RosterReady s 1 → ConditionEnded s t (.seat i .voiceInMute)) ∧
    ((s.slot (.seat i .voiceInMute)).isRaised = false → t.alerts = s.alerts ∧ t.attention = s.attention) ∧
    t.mute[i].voiceEnd = none ∧ SameBut i s.mute t.mute ∧
    ChangesOnly [.mute, .alerts, .attention, .queue, .syncs, .reminders, .lamps] s t := by
  refine ⟨_, congrArg Host.Outcome.next (if_pos h), ?_⟩
  rw [voiceEndExpires_eq h]
  have mute : ((s.modMute i fun m => { m with voiceEnd := none }).endCondition (.seat i .voiceInMute)).mute =
      s.mute.set i { s.mute[i] with voiceEnd := none } :=
    (frame_endCondition _ .mute (by decide)).trans (modMute_mute s i _)
  have muted := derived_mute mute
  refine ⟨fun raised => ?_, fun ready => ?_, fun idle => ?_, ?_, sameBut_of_set muted, ?_⟩
  · rw [slot_derived, ← grade_eq_clear]
    exact (setsGrade_endCondition (s := s.modMute i _) raised).1
  · have ended := conditionEnded_endCondition (s := s.modMute i fun m => { m with voiceEnd := none }) ready
      (.seat i .voiceInMute)
    exact conditionEnded_of_frame ended (frame_derived _ i) (by decide)
  · have same := endCondition_of_not_raised (s := s.modMute i fun m => { m with voiceEnd := none }) idle
    rw [same]
    exact ⟨frame_derived _ i .alerts (by decide), frame_derived _ i .attention (by decide)⟩
  · rw [mute_at muted]
  · exact frame_then (frame_then (frame_mono (frame_modMute i _) (by decide)) (frame_endCondition _) (by decide))
      (frame_derived _ _) (by decide)

theorem chatterWindowExpires_of_restart (h : s.mute[i].chatterWindow.isSome = true)
    (again : (s.slot (.seat i .muteChatter)).isRaised = true ∧ 2 ≤ s.mute[i].toggles) :
    s.chatterWindowExpires i = s.modMute i fun m => { m with toggles := 0, chatterWindow := some 100 } := by
  unfold State.chatterWindowExpires
  dsimp only
  split
  · exact if_pos again
  next none =>
    rw [none] at h
    exact nomatch h

theorem chatterWindowExpires_of_stop (h : s.mute[i].chatterWindow.isSome = true)
    (stop : ¬((s.slot (.seat i .muteChatter)).isRaised = true ∧ 2 ≤ s.mute[i].toggles)) :
    s.chatterWindowExpires i =
      (s.endOrCancel (.seat i .muteChatter)).modMute i fun m => { m with toggles := 0, chatterWindow := none } := by
  unfold State.chatterWindowExpires
  dsimp only
  split
  · exact if_neg stop
  next none =>
    rw [none] at h
    exact nomatch h

theorem conditionEnded_endOrCancel (ready : RosterReady s 1) (src : Source) : ConditionEnded s (s.endOrCancel src) src := by
  intro r raised
  have same : s.endOrCancel src = s.endCondition src := by
    unfold State.endOrCancel
    rw [raised]
  rw [same]
  exact conditionEnded_endCondition ready src r raised

theorem exec_chatterWindow (h : s.mute[i].chatterWindow.isSome = true) : ∃ t, exec (.chatterWindowExpiry i) s = .next t ∧
    ((s.slot (.seat i .muteChatter)).isRaised = true ∧ 2 ≤ s.mute[i].toggles →
      t.mute = s.mute.set i { s.mute[i] with toggles := 0, chatterWindow := some 100 } ∧ t.alerts = s.alerts) ∧
    (¬((s.slot (.seat i .muteChatter)).isRaised = true ∧ 2 ≤ s.mute[i].toggles) →
      t.mute = s.mute.set i { s.mute[i] with toggles := 0, chatterWindow := none } ∧
      t.slot (.seat i .muteChatter) = .clear ∧
      (RosterReady s 1 → ConditionEnded s t (.seat i .muteChatter))) ∧
    ChangesOnly [.mute, .alerts, .attention, .reminders, .lamps] s t := by
  refine ⟨_, congrArg Host.Outcome.next (if_pos h), fun again => ?_, fun stop => ?_,
    frame_then (frame_mono (frame_chatterWindowExpires i) (by decide)) frame_evalOutputs (by decide)⟩
  · rw [chatterWindowExpires_of_restart h again]
    exact ⟨(frame_evalOutputs .mute (by decide)).trans (modMute_mute s i _), frame_evalOutputs .alerts (by decide)⟩
  · rw [chatterWindowExpires_of_stop h stop]
    have kept : ChangesOnly [.mute, .reminders, .lamps] (s.endOrCancel (.seat i .muteChatter))
        ((s.endOrCancel (.seat i .muteChatter)).modMute i fun m => { m with toggles := 0, chatterWindow := none }).evalOutputs :=
      frame_then (frame_mono (frame_modMute i _) (by decide)) frame_evalOutputs (by decide)
    refine ⟨?_, ?_, fun ready => conditionEnded_of_frame (conditionEnded_endOrCancel ready _) kept (by decide)⟩
    · refine (frame_evalOutputs .mute (by decide)).trans ((modMute_mute _ i _).trans ?_)
      rw [endOrCancel_mute]
    · rw [slot_of_alerts (kept .alerts (by decide))]
      exact slot_endOrCancel s _

/-- Settles O26: the timer that stops VOICE_IN_MUTE and the chatter window. -/
theorem endTimersExpire : Obligations.EndTimersExpire :=
  ⟨fun _ _ h => exec_voiceEnd h, fun _ _ h => exec_chatterWindow h⟩

end Sys2Proof.Machine.Listings
end

section
/-! PROOFS. The listing rules read a port's role and view, and nothing else of it; what the steps leave of the ranks. -/

namespace Sys2Proof.Machine.Listings

open Sys2Proof Sys2Proof.Machine Sys2Proof.Machine.Laws Sys2Proof.Machine.SlotGrades Sys2Proof.Machine.SeatWork
open Sys2Proof.Machine.RosterSoundness Sys2Proof.Machine.Agreement Sys2Proof.Machine.PowerAndRestart

variable {s t u : State} {src : Source} {r : Raised} {es : List Entry} {sev low high : Severity} {P : Vector PortRec 4}
variable {cs : List (Source × Raised)} {srcs : List Source} {W : List Block} {n : Nat}

/-! ## Other port records -/

/-- The state with other port records. -/
def withPorts (s : State) (P : Vector PortRec 4) : State := { s with ports := P }

/-- The port records have the roles and views of the state's ports. -/
def SameViews (s : State) (P : Vector PortRec 4) : Prop :=
  ∀ p : PortId, P[p].role = s.ports[p].role ∧ P[p].view = s.ports[p].view

theorem sameViews_of_ports (h : SameViews s P) (same : t.ports = s.ports) : SameViews t P := by
  unfold SameViews
  rw [same]
  exact h

theorem dueTo_withPorts (h : SameViews s P) (p : PortId) (src : Source) (sev : Severity) :
    (withPorts s P).dueTo p src sev = s.dueTo p src sev := by
  obtain ⟨role, view⟩ := h p
  show ((P[p].role != .off) && P[p].view.admits src sev) = _
  rw [role, view]
  rfl

theorem frame_withPorts (h : ChangesOnly W s t) (P : Vector PortRec 4) : ChangesOnly W (withPorts s P) (withPorts t P) := by
  intro b hb
  have same := h b hb
  cases b
  case ports => rfl
  all_goals exact same

theorem frame_withPorts_left (h : ChangesOnly (.ports :: W) s t) (P : Vector PortRec 4) :
    ChangesOnly (.ports :: W) (withPorts s P) t := by
  intro b hb
  have same := h b hb
  cases b
  case ports => exact absurd List.mem_cons_self hb
  all_goals exact same

theorem listingAttempted_withPorts (same : SameViews s P) (h : ListingAttempted s t src r) :
    ListingAttempted (withPorts s P) (withPorts t P) src r := by
  unfold ListingAttempted at h ⊢
  simp only [State.due, dueTo_withPorts same]
  exact h

theorem entryRemoved_withPorts (same : SameViews s P) (h : EntryRemoved s t src) :
    EntryRemoved (withPorts s P) (withPorts t P) src := by
  unfold EntryRemoved at h ⊢
  simp only [dueTo_withPorts same]
  exact h

theorem escalatedFrom_withPorts (same : SameViews s P) (h : EscalatedFrom s t src low high) :
    EscalatedFrom (withPorts s P) (withPorts t P) src low high := by
  obtain ⟨other, raised⟩ := h
  refine ⟨other, fun r slot severity => ?_⟩
  obtain ⟨quieted, waiting, listed⟩ := raised r slot severity
  refine ⟨quieted, fun l => ?_, fun l => ?_⟩
  · obtain ⟨attempted, stay⟩ := waiting l
    exact ⟨listingAttempted_withPorts same attempted, stay⟩
  · simp only [dueTo_withPorts same]
    exact listed l

theorem ackedByAll_withPorts (same : SameViews s P) (e : Entry) : AckedByAll (withPorts s P) e ↔ AckedByAll s e := by
  unfold AckedByAll
  simp only [State.due, dueTo_withPorts same]

theorem conditionEnded_withPorts (same : SameViews s P) (h : ConditionEnded s t src) :
    ConditionEnded (withPorts s P) (withPorts t P) src := by
  intro r raised
  obtain ⟨unlisted, listed⟩ := h r raised
  refine ⟨unlisted, fun l pre e post split here => ?_⟩
  obtain ⟨stays, leaves⟩ := listed l pre e post split here
  rw [ackedByAll_withPorts same]
  exact ⟨stays, fun gone => entryRemoved_withPorts (s := { s with alerts := _ }) same (leaves gone)⟩

theorem attemptsInTurn_withPorts (same : SameViews s P) (h : AttemptsInTurn cs s t) :
    AttemptsInTurn cs (withPorts s P) (withPorts t P) := by
  induction cs generalizing s with
  | nil => exact h
  | cons c cs ih =>
    obtain ⟨u, frame, attempted, stay, rest⟩ := h
    exact ⟨withPorts u P, frame_withPorts frame P, listingAttempted_withPorts same attempted, stay,
      ih (sameViews_of_ports same (frame .ports (by decide))) rest⟩

theorem removedInTurn_withPorts (same : SameViews s P) (h : RemovedInTurn srcs s t) :
    RemovedInTurn srcs (withPorts s P) (withPorts t P) := by
  induction srcs generalizing s with
  | nil => exact h
  | cons src srcs ih =>
    obtain ⟨u, frame, removed, rest⟩ := h
    exact ⟨withPorts u P, frame_withPorts frame P, entryRemoved_withPorts same removed,
      ih (sameViews_of_ports same (frame .ports (by decide))) rest⟩

theorem sameViews_setTag (s : State) (p : PortId) (g : TagState) : SameViews (s.setTag p g) s.ports := by
  intro q
  rw [State.setTag, modPort_ports]
  by_cases same : q = p
  · subst same
    rw [get_set_self]
    exact ⟨rfl, rfl⟩
  · rw [get_set_ne _ same]
    exact ⟨rfl, rfl⟩

/-! ## The ranks the steps take -/

theorem rosterReady_mono {m : Nat} (h : RosterReady s n) (le : m ≤ n) : RosterReady s m := by
  obtain ⟨sound, agrees, ranks⟩ := h
  exact ⟨sound, agrees, by omega⟩

theorem escalate_rankCounter_le (ready : RosterReady s 1) (plain : src.detailAtEscalation = false) (sev : Severity) :
    (s.escalate src sev).alerts.rankCounter ≤ s.alerts.rankCounter + 1 := by
  obtain ⟨sound, agrees, ranks⟩ := ready
  cases raised : s.slot src with
  | clear | qualifying => 
    rw [escalate_of_not_raised (by rw [raised]; rfl)]
    omega
  | raised r =>
    have same := raisedAs_rankCounter s src { r with severity := sev }
    cases listing : r.listing with
    | quieted =>
      rw [escalate_of_quieted raised listing]
      exact same.le.trans (Nat.le_succ _)
    | waiting =>
      rw [escalate_of_waiting raised listing, ← same]
      exact attempt_rankCounter_le (by rw [same]; omega) src
    | listed =>
      obtain ⟨distinct, -, has, -⟩ := agrees
      obtain ⟨e, mem, here, -⟩ := has src r raised listing
      rw [escalate_of_listed raised listing, escalateEntry_eq (rosterSound_raisedAs sound _ _)
        (by rw [raisedAs_roster]; exact distinct) (by rw [same]; omega) plain
        (by rw [raisedAs_roster]; exact mem) here]
      exact (congrArg (· + 1) same).le

theorem rosterReady_escalateFrom (ready : RosterReady s (n + 1)) (plain : src.detailAtEscalation = false)
    (low high : Severity) : RosterReady (s.escalateFrom src low high) n := by
  unfold State.escalateFrom
  split
  · have le := escalate_rankCounter_le (rosterReady_mono ready (Nat.le_add_left 1 n)) plain high
    obtain ⟨sound, agrees, ranks⟩ := ready
    exact ⟨Steady.escalate steady_rosterSound src high sound, entriesMatch_escalate agrees src high, by omega⟩
  · exact rosterReady_mono ready (Nat.le_succ n)

theorem relist_rankCounter_le (below : s.alerts.rankCounter < Config.maxRank) :
    s.relist.alerts.rankCounter ≤ s.alerts.rankCounter + 1 :=
  relist_cases (motive := fun t => t.alerts.rankCounter ≤ s.alerts.rankCounter + 1) s (fun _ => Nat.le_succ _)
    fun c _ => attempt_rankCounter_le below c.1

theorem removalTest_rankCounter_le (below : s.alerts.rankCounter < Config.maxRank) (src : Source) :
    (s.removalTest src).alerts.rankCounter ≤ s.alerts.rankCounter + 1 :=
  removalTest_cases (motive := fun t => t.alerts.rankCounter ≤ s.alerts.rankCounter + 1) s src (Nat.le_succ _)
    fun _ _ _ _ _ => relist_rankCounter_le (s := s.dropEntry src) below

theorem rosterReady_removalTest (ready : RosterReady s (n + 1)) (src : Source) : RosterReady (s.removalTest src) n := by
  obtain ⟨sound, agrees, ranks⟩ := ready
  have below : s.alerts.rankCounter < Config.maxRank := by omega
  have le := removalTest_rankCounter_le below src
  exact ⟨Steady.removalTest steady_rosterSound src sound,
    entriesMatch_iff.2 (Agrees.removalTest (entriesMatch_iff.1 agrees) src), by omega⟩

end Sys2Proof.Machine.Listings
end

section
/-! PROOFS. GRANT (R89). -/

namespace Sys2Proof.Machine.Listings

open Sys2Proof Sys2Proof.Machine Sys2Proof.Machine.Laws Sys2Proof.Machine.SlotGrades Sys2Proof.Machine.SeatWork
open Sys2Proof.Machine.RosterSoundness Sys2Proof.Machine.Agreement Sys2Proof.Machine.SeatRequests Sys2Proof.Machine.Reads Sys2Proof.Machine.PortSettings

variable {s t u v : State} {src : Source} {r : Raised} {sev low high : Severity} {i : SeatId} {p : PortId}

/-! ## The steps -/

/-- GRANT behind its first two steps and the escalation of a LOST seat's SIGNAL_LOSS (R89, steps 1 to 3). -/
def lossEscalated (s : State) (i : SeatId) : State :=
  if s.seats[i].state = .lost then (s.giveFloor i).escalateFrom (.seat i .signalLoss) .warning .urgent else s.giveFloor i

/-- GRANT behind both escalations (R89, steps 1 to 4). -/
def voiceEscalated (s : State) (i : SeatId) : State :=
  (lossEscalated s i).escalateFrom (.seat i .voiceInMute) .notice .warning

theorem grantFloor_eq (s : State) (i : SeatId) : s.grantFloor i = ((voiceEscalated s i).dropOpenNoFloor i).derive i := rfl

theorem frame_lossEscalated (i : SeatId) : ChangesOnly [.mute, .floorCount, .alerts, .attention] s (lossEscalated s i) := by
  have given : ChangesOnly [.mute, .floorCount, .alerts, .attention] s (s.giveFloor i) :=
    frame_mono (frame_giveFloor i) (by decide)
  exact frame_ite (frame_then given (frame_escalateFrom _ _ _) (by decide)) given

theorem frame_voiceEscalated (i : SeatId) : ChangesOnly [.mute, .floorCount, .alerts, .attention] s (voiceEscalated s i) :=
  frame_then (frame_lossEscalated i) (frame_escalateFrom _ _ _) (by decide)

theorem giveFloor_mute (s : State) (i : SeatId) : (s.giveFloor i).mute = s.mute.set i
    { s.mute[i] with floor := true, hold := if s.mute[i].hold = .auto then .none else s.mute[i].hold } :=
  modMute_mute s i fun m => { m with floor := true, hold := if m.hold = .auto then .none else m.hold }

theorem escalateFrom_mute (s : State) (src : Source) (low high : Severity) : (s.escalateFrom src low high).mute = s.mute :=
  frame_escalateFrom src low high .mute (by decide)

theorem lossEscalated_mute (s : State) (i : SeatId) : (lossEscalated s i).mute = (s.giveFloor i).mute := by
  unfold lossEscalated
  split
  · exact escalateFrom_mute _ _ _ _
  · rfl

theorem voiceEscalated_mute (s : State) (i : SeatId) : (voiceEscalated s i).mute = s.mute.set i
    { s.mute[i] with floor := true, hold := if s.mute[i].hold = .auto then .none else s.mute[i].hold } := by
  rw [voiceEscalated, escalateFrom_mute, lossEscalated_mute, giveFloor_mute]

theorem voiceEscalated_floorCount (s : State) (i : SeatId) : (voiceEscalated s i).floorCount = s.floorCount + 1 := by
  have voice : (voiceEscalated s i).floorCount = (lossEscalated s i).floorCount :=
    frame_escalateFrom _ _ _ .floorCount (by decide)
  rw [voice]
  unfold lossEscalated
  split
  · exact frame_escalateFrom _ _ _ .floorCount (by decide)
  · rfl

theorem order_of_released (h : MuteHold) :
    holdOf (if h = .auto then .none else h) = if h = .console then .held else .free := by cases h <;> rfl

theorem grantFloor_mute (s : State) (i : SeatId) : ∃ pattern, (s.grantFloor i).mute = s.mute.set i
    { s.mute[i] with
      floor := true, hold := if s.mute[i].hold = .auto then .none else s.mute[i].hold, openGrace := none
      pattern := pattern, order := if s.mute[i].hold = .console then .held else .free } := by
  have dropped : ((voiceEscalated s i).dropOpenNoFloor i).mute = s.mute.set i
      { s.mute[i] with
        floor := true, hold := if s.mute[i].hold = .auto then .none else s.mute[i].hold, openGrace := none } := by
    rw [dropOpenNoFloor_mute, voiceEscalated_mute, set_set_self, get_set_self]
  have derived := derive_of_mute dropped
  rw [order_of_released] at derived
  exact ⟨_, derived⟩

theorem grantFloor_floorCount (s : State) (i : SeatId) : (s.grantFloor i).floorCount = s.floorCount + 1 := by
  rw [grantFloor_eq, show (State.derive _ i).floorCount = _ from frame_derive i .floorCount (by decide),
    show (State.dropOpenNoFloor _ i).floorCount = _ from frame_dropOpenNoFloor i .floorCount (by decide),
    voiceEscalated_floorCount]

/-! ## The slots -/

theorem severity_escalateFrom (h : (s.slot src).severity? = some low) (high : Severity) :
    ((s.escalateFrom src low high).slot src).severity? = some high := by
  have raised : (s.slot src).isRaised = true := by
    rw [isRaised_eq, ← severity?_eq, h]
    rfl
  rw [State.escalateFrom, if_pos h, severity?_eq, (setsGrade_escalate raised high).1]
  rfl

theorem grade_escalateFrom_ne {o : Source} (ne : o ≠ src) (low high : Severity) :
    grade ((s.escalateFrom src low high).slot o) = grade (s.slot o) := by
  unfold State.escalateFrom
  split
  next at' =>
    have raised : (s.slot src).isRaised = true := by
      rw [isRaised_eq, ← severity?_eq, at']
      rfl
    exact (setsGrade_escalate raised high).2 o ne
  next => rfl

theorem severity_lossEscalated (lost : s.seats[i].state = .lost)
    (h : (s.slot (.seat i .signalLoss)).severity? = some .warning) :
    ((lossEscalated s i).slot (.seat i .signalLoss)).severity? = some .urgent := by
  rw [lossEscalated, if_pos lost]
  exact severity_escalateFrom (s := s.giveFloor i) h .urgent

theorem severity_lossEscalated_ne {o : Source} (ne : o ≠ .seat i .signalLoss) :
    ((lossEscalated s i).slot o).severity? = (s.slot o).severity? := by
  unfold lossEscalated
  split
  · exact severity?_of_grade (grade_escalateFrom_ne (s := s.giveFloor i) ne _ _)
  · rfl

theorem severity_grantFloor {o : Source} (ne : o ≠ .seat i .openNoFloor) :
    ((s.grantFloor i).slot o).severity? = ((voiceEscalated s i).slot o).severity? := by
  rw [grantFloor_eq, slot_derive]
  exact severity?_of_grade ((setsGrade_dropOpenNoFloor _ i).2 o ne)

theorem grantFloor_signalLoss (lost : s.seats[i].state = .lost)
    (h : (s.slot (.seat i .signalLoss)).severity? = some .warning) :
    ((s.grantFloor i).slot (.seat i .signalLoss)).severity? = some .urgent := by
  have other : Source.seat i .signalLoss ≠ .seat i .openNoFloor := nofun
  rw [severity_grantFloor other]
  have apart : Source.seat i .signalLoss ≠ .seat i .voiceInMute := nofun
  exact (severity?_of_grade (grade_escalateFrom_ne apart _ _)).trans (severity_lossEscalated lost h)

theorem grantFloor_voiceInMute (h : (s.slot (.seat i .voiceInMute)).severity? = some .notice) :
    ((s.grantFloor i).slot (.seat i .voiceInMute)).severity? = some .warning := by
  have other : Source.seat i .voiceInMute ≠ .seat i .openNoFloor := nofun
  rw [severity_grantFloor other]
  have apart : Source.seat i .voiceInMute ≠ .seat i .signalLoss := nofun
  exact severity_escalateFrom ((severity_lossEscalated_ne apart).trans h) .warning

theorem grantFloor_openNoFloor (s : State) (i : SeatId) : (s.grantFloor i).slot (.seat i .openNoFloor) = .clear := by
  rw [grantFloor_eq, slot_derive]
  exact grade_eq_clear.1 (setsGrade_dropOpenNoFloor _ i).1

/-! ## The roster -/

/-- What GRANT does to the roster: the two escalations, and OPEN_NO_FLOOR ends behind them. -/
def GrantLists (s t : State) (i : SeatId) : Prop := ∃ u v : State,
  ChangesOnly [.mute, .floorCount, .alerts, .attention] s u ∧
  ChangesOnly [.mute, .floorCount, .alerts, .attention] s v ∧
  (s.seats[i].state = .lost → EscalatedFrom s u (.seat i .signalLoss) .warning .urgent) ∧
  (s.seats[i].state ≠ .lost → u.alerts = s.alerts ∧ u.attention = s.attention) ∧
  EscalatedFrom u v (.seat i .voiceInMute) .notice .warning ∧
  ConditionEnded v t (.seat i .openNoFloor) ∧
  ((v.slot (.seat i .openNoFloor)).isRaised = false →
    t.alerts = v.alerts.setSlot (.seat i .openNoFloor) .clear ∧ t.attention = v.attention)

theorem frame_dropped (i : SeatId) : ChangesOnly [.mute, .queue, .syncs, .reminders, .lamps]
    (v.endOrCancel (.seat i .openNoFloor)) ((v.dropOpenNoFloor i).derive i) :=
  frame_then (frame_mono (frame_modMute i _) (by decide)) (frame_derive i) (by decide)

theorem grantLists_grantFloor (ready : RosterReady s 3) (i : SeatId) : GrantLists s (s.grantFloor i) i := by
  have given : RosterReady (s.giveFloor i) 3 := ready
  have lossReady : RosterReady (lossEscalated s i) 2 := by
    unfold lossEscalated
    split
    · exact rosterReady_escalateFrom given rfl _ _
    · exact rosterReady_mono given (by omega)
  have voiceReady : RosterReady (voiceEscalated s i) 1 := rosterReady_escalateFrom lossReady rfl _ _
  have dropped := frame_dropped (v := voiceEscalated s i) i
  refine ⟨lossEscalated s i, voiceEscalated s i, frame_lossEscalated i, frame_voiceEscalated i, fun lost => ?_,
    fun other => ?_, escalatedFrom_escalateFrom (rosterReady_mono lossReady (by omega)) rfl _ _,
    conditionEnded_of_frame (conditionEnded_endOrCancel voiceReady _) dropped (by decide), fun idle => ?_⟩
  · rw [lossEscalated, if_pos lost]
    exact escalatedFrom_escalateFrom (s := s.giveFloor i) (rosterReady_mono given (by omega)) rfl _ _
  · rw [lossEscalated, if_neg other]
    exact ⟨rfl, rfl⟩
  · have alerts := dropped .alerts (by decide)
    have attention := dropped .attention (by decide)
    rw [endOrCancel_of_idle idle] at alerts attention
    exact ⟨alerts, attention⟩

theorem grantLists_withPorts {P : Vector PortRec 4} (same : SameViews s P) (h : GrantLists s t i) :
    GrantLists (withPorts s P) (withPorts t P) i := by
  obtain ⟨u, v, first, second, loss, none, voice, ended, idle⟩ := h
  have ports := sameViews_of_ports same (first .ports (by decide))
  have ports' := sameViews_of_ports same (second .ports (by decide))
  exact ⟨withPorts u P, withPorts v P, frame_withPorts first P, frame_withPorts second P,
    fun lost => escalatedFrom_withPorts same (loss lost), none, escalatedFrom_withPorts ports voice,
    conditionEnded_withPorts ports' ended, idle⟩

theorem grantLists_of_frame {W : List Block} (h : GrantLists s t i) (frame : ChangesOnly W t u)
    (hW : ∀ b ∈ listingBlocks, b ∉ W) : GrantLists s u i := by
  rw [← besides_eq frame hW]
  exact h

/-! ## The request -/

theorem grantRequest_of_vacant (h : s.bound i = false) : s.grantRequest (seatByte i).toNat = (.bare .vacant, s) := by
  rw [State.grantRequest, seatOfNumber_seatByte]
  dsimp only
  rw [h]
  rfl

theorem grantRequest_of_floor (bound : s.bound i = true) (h : s.mute[i].floor = true) :
    s.grantRequest (seatByte i).toNat = (.done [], s) := by
  rw [State.grantRequest, seatOfNumber_seatByte]
  dsimp only
  rw [bound, h]
  rfl

theorem grantRequest_of_full (bound : s.bound i = true) (h : s.mute[i].floor = false)
    (full : s.params.floorLimit ≤ s.floorCount) : s.grantRequest (seatByte i).toNat = (.bare .floorFull, s) := by
  rw [State.grantRequest, seatOfNumber_seatByte]
  dsimp only
  rw [bound, h, if_pos full]
  rfl

theorem grantRequest_of_room (bound : s.bound i = true) (h : s.mute[i].floor = false)
    (room : s.floorCount < s.params.floorLimit) :
    s.grantRequest (seatByte i).toNat = (.done [], (s.grantFloor i).evalOutputs) := by
  rw [State.grantRequest, seatOfNumber_seatByte]
  dsimp only
  rw [bound, if_neg (show ¬(!true) = true from nofun), if_neg (Bool.eq_false_iff.1 h), if_neg (Nat.not_le.2 room)]
  exact Runs.withOutputs_done [] _

theorem grantRequest_of_invalid {b : Byte} (h : b = 0 ∨ 192 < b.toNat) :
    s.grantRequest b.toNat = (.bare .badArgument, s) := by
  rw [State.grantRequest, seatOfNumber_of_invalid h]

theorem exec_grant (h : Admitted s p .grant) (bound : s.bound i = true) (without : s.mute[i].floor = false)
    (room : s.floorCount < s.params.floorLimit) : ∃ t, exec (.grant p [seatByte i]) s = .next t ∧
      t.mute[i].floor = true ∧ t.floorCount = s.floorCount + 1 ∧
      t.mute[i].hold = (if s.mute[i].hold = .auto then .none else s.mute[i].hold) ∧
      t.mute[i].order = (if s.mute[i].hold = .console then .held else .free) ∧
      (s.seats[i].state = .lost → (s.slot (.seat i .signalLoss)).severity? = some .warning →
        (t.slot (.seat i .signalLoss)).severity? = some .urgent) ∧
      ((s.slot (.seat i .voiceInMute)).severity? = some .notice →
        (t.slot (.seat i .voiceInMute)).severity? = some .warning) ∧
      t.slot (.seat i .openNoFloor) = .clear ∧ t.mute[i].openGrace = none ∧ SameBut i s.mute t.mute ∧
      (RosterReady s 3 → GrantLists s t i) ∧ Answers s t p 0x25 .done [] ∧
      ChangesOnly [.mute, .floorCount, .alerts, .attention, .queue, .syncs, .ports, .reminders, .lamps] s t := by
  have acts : (s.setTag p .none).perform p s.ports[p].tag [seatByte i] .grant =
      (⟨.done, [], false⟩, ((s.setTag p .none).grantFloor i).evalOutputs) :=
    grantRequest_of_room (s := s.setTag p .none) bound without room
  obtain ⟨t, taken, answers, kept, changes⟩ := exec_changed h rfl acts (frame_grantFloor i) (by decide)
  have slots (o : Source) := slot_of_alerts (kept .alerts (by decide)) o
  obtain ⟨pattern, granted⟩ := grantFloor_mute (s.setTag p .none) i
  have mute := (kept .mute (by decide)).trans granted
  have at' := mute_at mute
  refine ⟨t, taken, ?_, (kept .floorCount (by decide)).trans (grantFloor_floorCount (s.setTag p .none) i), ?_, ?_,
    fun lost warned => ?_, fun noticed => ?_, ?_, ?_, sameBut_of_set mute, fun ready => ?_, answers,
    frame_mono changes (by decide)⟩
  · rw [at']
  · rw [at']
    rfl
  · rw [at']
    rfl
  · rw [slots]
    exact grantFloor_signalLoss (s := s.setTag p .none) lost warned
  · rw [slots]
    exact grantFloor_voiceInMute (s := s.setTag p .none) noticed
  · rw [slots]
    exact grantFloor_openNoFloor _ i
  · rw [at']
  · have tagged : RosterReady (s.setTag p .none) 3 := ready
    have listed := grantLists_withPorts (sameViews_setTag s p .none) (grantLists_grantFloor tagged i)
    exact grantLists_of_frame listed (frame_withPorts_left kept s.ports) (by decide)

/-- Settles O46: GRANT's checks, and what it does to a bound seat without the floor. -/
theorem grantGivesFloor : Obligations.GrantGivesFloor := by
  refine fun s p h => ⟨fun b invalid => ?_, fun i => ⟨fun vacant => ?_, fun bound floor => ?_, fun bound without full => ?_,
    fun bound without room => exec_grant h bound without room⟩⟩
  · exact exec_answered h rfl (grantRequest_of_invalid (s := s.setTag p .none) invalid)
  · exact exec_answered h rfl (grantRequest_of_vacant (s := s.setTag p .none) vacant)
  · exact exec_answered h rfl (grantRequest_of_floor (s := s.setTag p .none) bound floor)
  · exact exec_answered h rfl (grantRequest_of_full (s := s.setTag p .none) bound without full.ge)

end Sys2Proof.Machine.Listings
end

section
/-! PROOFS. QUIET and UNQUIET on one seat (R10 to R12). -/

namespace Sys2Proof.Machine.Listings

open Sys2Proof Sys2Proof.Machine Sys2Proof.Machine.Laws Sys2Proof.Machine.SlotGrades Sys2Proof.Machine.SeatWork
open Sys2Proof.Machine.RosterSoundness Sys2Proof.Machine.Agreement Sys2Proof.Machine.SeatRequests Sys2Proof.Machine.Reads
open Sys2Proof.Machine.PortSettings Sys2Proof.Machine.Unbinding

variable {s t u : State} {src o : Source} {r : Raised} {i : SeatId} {p : PortId} {W : List Block} {n : Nat}
variable {a b c : Source × Raised} {cs ds : List (Source × Raised)}

/-! ## The order of the attempts -/

theorem severity_eq_of_num {x y : Severity} (h : x.num = y.num) : x = y := by
  cases x <;> cases y <;> first | rfl | exact nomatch h

theorem comesBefore_trans (hab : ComesBefore s a.1 a.2 b.1 b.2) (hbc : ComesBefore s b.1 b.2 c.1 c.2) :
    ComesBefore s a.1 a.2 c.1 c.2 := by
  unfold ComesBefore at *
  rcases hab with lower | ⟨same, order⟩
  · rcases hbc with lower' | ⟨same', -⟩
    · exact .inl (by omega)
    · exact .inl (by rw [same']; exact lower)
  · rcases hbc with lower' | ⟨same', order'⟩
    · exact .inl (by rw [← same]; exact lower')
    · refine .inr ⟨same'.trans same, ?_⟩
      rcases order with older | ⟨stamp, place⟩ <;> rcases order' with older' | ⟨stamp', place'⟩
      · exact .inl (by omega)
      · exact .inl (by rw [stamp']; exact older)
      · exact .inl (by rw [← stamp]; exact older')
      · exact .inr ⟨stamp'.trans stamp, by omega⟩

theorem not_comesBefore_self (a : Source × Raised) : ¬ComesBefore s a.1 a.2 a.1 a.2 := by
  rintro (lower | ⟨-, older | ⟨-, place⟩⟩)
  · exact Nat.lt_irrefl _ lower
  · exact Nat.lt_irrefl _ older
  · exact Nat.lt_irrefl _ place

theorem comesBefore_of_before (h : a.2.before s.clock b.2 = true) : ComesBefore s a.1 a.2 b.1 b.2 :=
  (before_iff.1 h).imp id fun ⟨same, older⟩ => ⟨same, .inl older⟩

/-- Of two conditions the second does not go before, the first in place comes before. -/
theorem comesBefore_of_not_before (h : b.2.before s.clock a.2 = false) (place : a.1.place < b.1.place) :
    ComesBefore s a.1 a.2 b.1 b.2 := by
  rw [Bool.eq_false_iff, ne_eq, before_iff, not_or, not_and] at h
  obtain ⟨notLower, notOlder⟩ := h
  by_cases same : a.2.severity = b.2.severity
  · have younger := notOlder same
    refine .inr ⟨same.symm, ?_⟩
    by_cases older : (s.clock - b.2.stamp).toNat < (s.clock - a.2.stamp).toNat
    · exact .inl older
    · have equal : s.clock - b.2.stamp = s.clock - a.2.stamp := BitVec.eq_of_toNat_eq (by omega)
      exact .inr ⟨by bv_omega, place⟩
  · have apart : a.2.severity.num ≠ b.2.severity.num := fun num => same (severity_eq_of_num num)
    exact .inl (by omega)

/-- The conditions in the order of their attempts. -/
def InOrder (s : State) (cs : List (Source × Raised)) : Prop := cs.Pairwise fun a b => ComesBefore s a.1 a.2 b.1 b.2

theorem inOrder_insertByOrder (h : InOrder s cs) (ahead : ∀ a ∈ cs, a.1.place < c.1.place) :
    InOrder s (insertByOrder s.clock c cs) := by
  induction cs with
  | nil => exact List.pairwise_singleton _ _
  | cons x xs ih =>
    obtain ⟨first, rest⟩ := List.pairwise_cons.1 h
    unfold insertByOrder
    split
    next before =>
      have front : ComesBefore s c.1 c.2 x.1 x.2 := comesBefore_of_before before
      refine List.pairwise_cons.2 ⟨fun y hy => ?_, h⟩
      rcases List.mem_cons.1 hy with rfl | hy
      · exact front
      · exact comesBefore_trans front (first y hy)
    next behind =>
      refine List.pairwise_cons.2 ⟨fun y hy => ?_, ih rest fun a ha => ahead a (.tail _ ha)⟩
      rcases List.mem_cons.1 ((perm_insertByOrder s.clock c xs).mem_iff.1 hy) with rfl | hy
      · exact comesBefore_of_not_before (Bool.eq_false_iff.2 behind) (ahead x List.mem_cons_self)
      · exact first y hy

theorem inOrder_foldl_insertByOrder (places : cs.Pairwise fun a b => a.1.place < b.1.place) (h : InOrder s ds)
    (ahead : ∀ a ∈ ds, ∀ b ∈ cs, a.1.place < b.1.place) :
    InOrder s (cs.foldl (fun acc c => insertByOrder s.clock c acc) ds) := by
  induction cs generalizing ds with
  | nil => exact h
  | cons c cs ih =>
    obtain ⟨first, rest⟩ := List.pairwise_cons.1 places
    refine ih rest (inOrder_insertByOrder h fun a ha => ahead a ha c List.mem_cons_self) fun a ha b hb => ?_
    rcases List.mem_cons.1 ((perm_insertByOrder s.clock c ds).mem_iff.1 ha) with rfl | ha
    · exact first b hb
    · exact ahead a ha b (.tail _ hb)

theorem places_quietedByKind (s : State) (i : SeatId) :
    (quietedByKind s i).Pairwise fun a b => a.1.place < b.1.place := by
  have kinds : seatKinds.Pairwise fun a b => a.idx.val < b.idx.val := by decide
  refine List.Pairwise.filterMap _ (fun k k' lt a ha b hb => ?_) kinds
  rw [((quietedByKind_step s i k a).1 ha).1, ((quietedByKind_step s i k' b).1 hb).1]
  exact Nat.add_lt_add_left lt _

theorem inOrder_quietedList (s : State) (i : SeatId) : InOrder s (s.quietedList i) :=
  inOrder_foldl_insertByOrder (places_quietedByKind s i) List.Pairwise.nil nofun

/-- The QUIETED conditions of a seat have one order (R12). -/
theorem eq_quietedList (h : QuietedInOrder s i cs) : cs = s.quietedList i := by
  obtain ⟨only, all, order⟩ := h
  have nodup : cs.Nodup := List.Pairwise.imp (R := fun a b => ComesBefore s a.1 a.2 b.1 b.2)
    (fun {a b} before (same : a = b) => not_comesBefore_self b (same ▸ before)) order
  have nodup' : (s.quietedList i).Nodup := (nodup_quietedList s i).of_map _
  refine List.Perm.eq_of_pairwise (fun a b _ _ hab hba => (not_comesBefore_self a (comesBefore_trans hab hba)).elim) order
    (inOrder_quietedList s i) ((List.perm_ext_iff_of_nodup nodup nodup').2 fun c => ?_)
  rw [mem_quietedList]
  refine ⟨only c, fun ⟨origin, raised, quieted⟩ => ?_⟩
  obtain ⟨src, r⟩ := c
  cases src with
  | link l => exact nomatch origin
  | seat j k =>
    cases origin
    exact all k r raised quieted

theorem length_quietedList (s : State) (i : SeatId) : (s.quietedList i).length ≤ 9 := by
  rw [(perm_quietedList s i).length_eq]
  exact List.length_filterMap_le _ _

/-! ## The attempts -/

theorem attemptsInTurn_of_same (h : AttemptsInTurn cs s t) (alerts : u.alerts = t.alerts)
    (attention : u.attention = t.attention) : AttemptsInTurn cs s u := by
  induction cs generalizing s with
  | nil =>
    obtain ⟨sameAlerts, sameAttention⟩ := h
    exact ⟨alerts.trans sameAlerts, attention.trans sameAttention⟩
  | cons c cs ih =>
    obtain ⟨v, frame, attempted, stay, rest⟩ := h
    exact ⟨v, frame, attempted, stay, ih rest⟩

theorem attemptsInTurn_foldl (nodup : (cs.map (·.1)).Nodup)
    (waits : ∀ c ∈ cs, s.slot c.1 = .raised { c.2 with listing := .waiting }) (agrees : Agrees nowhere (cs.map (·.1)) s)
    (sound : RosterSound s) (below : s.alerts.rankCounter + cs.length ≤ Config.maxRank) :
    AttemptsInTurn cs s (cs.foldl (fun t c => t.attempt c.1) s) := by
  induction cs generalizing s with
  | nil => exact ⟨rfl, rfl⟩
  | cons c cs ih =>
    rw [List.map_cons, List.nodup_cons] at nodup
    obtain ⟨fresh, nodup⟩ := nodup
    rw [List.length_cons] at below
    have lower : s.alerts.rankCounter < Config.maxRank := by omega
    have here := waits c List.mem_cons_self
    have attempted := listingAttempted_raisedAs sound lower c.1 { c.2 with listing := .waiting }
    have few : s.alerts.roster.length ≤ 48 := (rosterSound_iff.1 sound).length
    have stay := othersStay_raisedAs few c.1 { c.2 with listing := .waiting }
    rw [raisedAs_of_raised here] at attempted stay
    have waiting : Waiting (s.slot c.1) := ⟨_, here, rfl⟩
    have rank := attempt_rankCounter_le lower c.1
    refine ⟨s.attempt c.1, frame_attempt c.1, attempted, stay, ih nodup (fun d hd => ?_)
      (agrees.attempt waiting fun o ho => List.mem_cons.1 ho) (rosterSound_attempt sound c.1) (by omega)⟩
    have ne : d.1 ≠ c.1 := fun same => fresh (same ▸ List.mem_map_of_mem hd)
    have there := waits d (.tail _ hd)
    have unlisted (sev : Severity) (l : Listed (s.slot d.1) sev) : False :=
      l.not_waiting ⟨_, there, rfl⟩
    rw [agrees.slot_attempt ne unlisted]
    exact there

/-! ## No condition of a seat QUIETED -/

/-- No condition of the seat is QUIETED. -/
def NoneQuieted (i : SeatId) (s : State) : Prop := ∀ k r, s.slot (.seat i k) = .raised r → r.listing ≠ .quieted

theorem listing_of_mapRaised {x : Slot} {l : Listing} (h : (x.mapRaised fun r => { r with listing := l }) = .raised r) :
    r.listing = l := by
  obtain ⟨r0, -, rfl⟩ := mapRaised_eq_raised.1 h
  rfl

theorem noneQuieted_createEntry (h : NoneQuieted i s) (src : Source) (r : Raised) : NoneQuieted i (s.createEntry src r) := by
  intro k r' raised
  rw [slot_createEntry] at raised
  split at raised
  · rw [listing_of_mapRaised raised]
    nofun
  · exact h k r' raised

theorem noneQuieted_displace (h : NoneQuieted i s) (loud : s.seats[i].quiet = false) (v : Entry) :
    NoneQuieted i (s.displace v) := by
  intro k r raised
  rw [slot_displace] at raised
  split at raised
  next here =>
    rw [listing_of_mapRaised raised, ← here.2, show s.isQuiet (.seat i k) = false from loud]
    nofun
  next => exact h k r raised

theorem noneQuieted_attempt (h : NoneQuieted i s) (loud : s.seats[i].quiet = false) (src : Source) :
    NoneQuieted i (s.attempt src) := by
  refine attempt_cases (motive := NoneQuieted i) s src (fun _ => h) (fun r _ _ _ _ _ => ?_)
    (fun r _ _ _ => noneQuieted_createEntry h src r)
    (fun r v _ _ _ _ => noneQuieted_createEntry (noneQuieted_displace h loud v) src r) fun r _ _ _ _ => ?_
  · exact noneQuieted_createEntry (s := s.dropEntry src) (fun k r' raised => h k r' (by rwa [slot_dropEntry] at raised)) src r
  · intro k r' raised
    rw [slot_markOverflow, slot_setListing] at raised
    split at raised
    · rw [listing_of_mapRaised raised]
      nofun
    · exact h k r' raised

theorem noneQuieted_attempts (h : NoneQuieted i s) (loud : s.seats[i].quiet = false) (cs : List (Source × Raised)) :
    NoneQuieted i (cs.foldl (fun t c => t.attempt c.1) s) := by
  induction cs generalizing s with
  | nil => exact h
  | cons c cs ih =>
    refine ih (noneQuieted_attempt h loud c.1) ?_
    rw [show (s.attempt c.1).seats = s.seats from frame_attempt c.1 .seats (by decide)]
    exact loud

/-! ## Clearing the flag -/

/-- The seat without its quiet flag, its QUIETED conditions WAITING, before their attempts (R12). -/
def unquieted (s : State) (i : SeatId) : State :=
  (s.modSeat i fun q => { q with quiet := false }).relabel i .quieted .waiting

theorem clearQuiet_of_quiet (h : s.seats[i].quiet = true) :
    s.clearQuiet i = (s.quietedList i).foldl (fun t c => t.attempt c.1) (unquieted s i) := if_pos h

theorem frame_unquieted (i : SeatId) : ChangesOnly [.seats, .alerts] s (unquieted s i) := by
  intro b hb
  cases b
  case seats => exact absurd (by decide) hb
  case alerts => exact absurd (by decide) hb
  all_goals rfl

theorem unquieted_seats (s : State) (i : SeatId) : (unquieted s i).seats = s.seats.set i { s.seats[i] with quiet := false } :=
  rfl

theorem unquieted_slot (s : State) (i : SeatId) (o : Source) : (unquieted s i).slot o =
    if o.seat? = some i then (s.slot o).mapRaised fun r => if r.listing = .quieted then { r with listing := .waiting } else r
    else s.slot o := slot_relabel (s.modSeat i _) i .quieted .waiting o

theorem noneQuieted_unquieted (s : State) (i : SeatId) : NoneQuieted i (unquieted s i) := by
  intro k r raised
  rw [unquieted_slot, if_pos (show (Source.seat i k).seat? = some i from rfl)] at raised
  obtain ⟨r0, -, rfl⟩ := mapRaised_eq_raised.1 raised
  split
  · nofun
  next other => exact other

theorem noneQuieted_clearQuiet (quiet : s.seats[i].quiet = true) : NoneQuieted i (s.clearQuiet i) := by
  rw [clearQuiet_of_quiet quiet]
  refine noneQuieted_attempts (noneQuieted_unquieted s i) ?_ _
  rw [unquieted_seats, get_set_self]

theorem unquieted_waits (hc : c ∈ s.quietedList i) : (unquieted s i).slot c.1 = .raised { c.2 with listing := .waiting } := by
  obtain ⟨origin, raised, quieted⟩ := mem_quietedList.1 hc
  rw [unquieted_slot, if_pos origin, raised]
  exact congrArg Slot.raised (if_pos quieted)

theorem attemptsInTurn_clearQuiet (quiet : s.seats[i].quiet = true) (ready : RosterReady s 9) :
    AttemptsInTurn (s.quietedList i) (unquieted s i) (s.clearQuiet i) := by
  obtain ⟨sound, agrees, ranks⟩ := ready
  have few := length_quietedList s i
  rw [clearQuiet_of_quiet quiet]
  refine attemptsInTurn_foldl (nodup_quietedList s i) (fun c hc => unquieted_waits hc)
    (Agrees.relabel (s := s.modSeat i _) ((entriesMatch_iff.1 agrees).of_alerts rfl) i nofun nofun
      fun o r _ origin raised quieted => ?_)
    sound (show s.alerts.rankCounter + _ ≤ _ by omega)
  exact List.mem_map.2 ⟨(o, r), mem_quietedList.2 ⟨origin, raised, quieted⟩, rfl⟩

/-- What UNQUIET makes of the roster: the flag falls, the QUIETED conditions become WAITING, and each makes its
attempt. -/
def UnquietLists (s t : State) (i : SeatId) : Prop := ∀ cs, QuietedInOrder s i cs →
  ∃ u, ChangesOnly [.seats, .alerts] s u ∧ u.seats = t.seats ∧
    (∀ k, u.slot (.seat i k) = (s.slot (.seat i k)).mapRaised fun r =>
      if r.listing = .quieted then { r with listing := .waiting } else r) ∧
    (∀ src, src.seat? ≠ some i → u.slot src = s.slot src) ∧
    { u.alerts with seatSlots := s.alerts.seatSlots } = s.alerts ∧ AttemptsInTurn cs u t

theorem unquietLists_clearQuiet (quiet : s.seats[i].quiet = true) (ready : RosterReady s 9) :
    UnquietLists s (s.clearQuiet i) i := by
  intro cs order
  rw [eq_quietedList order]
  refine ⟨unquieted s i, frame_unquieted i, ?_, fun k => ?_, fun src other => ?_, rfl, attemptsInTurn_clearQuiet quiet ready⟩
  · exact (Runs.clearQuiet_seats s i).symm
  · exact (unquieted_slot s i _).trans (if_pos rfl)
  · rw [unquieted_slot, if_neg other]

theorem unquietLists_withPorts {P : Vector PortRec 4} (same : SameViews s P) (h : UnquietLists s t i) :
    UnquietLists (withPorts s P) (withPorts t P) i := by
  intro cs order
  obtain ⟨u, frame, seats, slots, others, tables, turns⟩ := h cs order
  exact ⟨withPorts u P, frame_withPorts frame P, seats, slots, others, tables,
    attemptsInTurn_withPorts (sameViews_of_ports same (frame .ports (by decide))) turns⟩

theorem unquietLists_of_frame (h : UnquietLists s t i) (frame : ChangesOnly W t u) (hW : ∀ b ∈ listingBlocks, b ∉ W)
    (hSeats : Block.seats ∉ W) : UnquietLists s u i := by
  intro cs order
  obtain ⟨v, before, seats, slots, others, tables, turns⟩ := h cs order
  refine ⟨v, before, seats.trans (frame .seats hSeats).symm, slots, others, tables, attemptsInTurn_of_same turns
    (frame .alerts (hW _ (by decide))) (frame .attention (hW _ (by decide)))⟩

/-! ## The requests -/

theorem quietRule_of_loud (active : s.seats[i].state = .active) (h : s.seats[i].quiet = false) :
    s.quietRule i = .change (s.setQuiet i) := by
  rw [State.quietRule, active, h]
  rfl

theorem quietRule_of_quiet (active : s.seats[i].state = .active) (h : s.seats[i].quiet = true) :
    s.quietRule i = .same s .done := by
  rw [State.quietRule, active, h]
  rfl

theorem quietRule_of_vacant (h : s.seats[i].state = .vacant) : s.quietRule i = .same s .vacant := by
  rw [State.quietRule, h]

theorem quietRule_of_absent (h : s.seats[i].state ≠ .active) (h' : s.seats[i].state ≠ .vacant) :
    s.quietRule i = .same s .absent := by
  unfold State.quietRule
  split
  next active => exact absurd active h
  next vacant => exact absurd vacant h'
  all_goals rfl

theorem unquietRule_of_quiet (h : s.seats[i].quiet = true) : s.unquietRule i = .change (s.clearQuiet i) := if_pos h

theorem unquietRule_of_loud (h : s.seats[i].quiet = false) : s.unquietRule i = .same s .done :=
  if_neg (by rw [h]; nofun)

theorem perform_quiet (s : State) (p : PortId) (ts : TagState) (i : SeatId) :
    s.perform p ts [seatByte i] .quiet = s.seatOrRange State.quietRule ts (seatByte i).toNat := rfl

theorem perform_unquiet (s : State) (p : PortId) (ts : TagState) (i : SeatId) :
    s.perform p ts [seatByte i] .unquiet = withOutputs (s.seatOrRange State.unquietRule ts (seatByte i).toNat) := rfl

theorem setQuiet_slot (s : State) (i : SeatId) (o : Source) : (s.setQuiet i).slot o =
    if o.seat? = some i then (s.slot o).mapRaised fun r => if r.listing = .waiting then { r with listing := .quieted } else r
    else s.slot o := slot_relabel (s.modSeat i _) i .waiting .quieted o

theorem exec_quiet_of_loud (h : Admitted s p .quiet) (active : s.seats[i].state = .active) (loud : s.seats[i].quiet = false) :
    ∃ t, exec (.quiet p [seatByte i]) s = .next t ∧ t.seats = s.seats.set i { s.seats[i] with quiet := true } ∧
      (∀ k, t.slot (.seat i k) = (s.slot (.seat i k)).mapRaised fun r =>
        if r.listing = .waiting then { r with listing := .quieted } else r) ∧
      (∀ src, src.seat? ≠ some i → t.slot src = s.slot src) ∧ t.alerts.roster = s.alerts.roster ∧
      Answers s t p 0x20 .done [1] ∧ ChangesOnly [.seats, .alerts, .ports] s t := by
  have acts : (s.setTag p .none).perform p s.ports[p].tag [seatByte i] .quiet =
      (.done [1], (s.setTag p .none).setQuiet i) := by
    rw [perform_quiet, seatOrRange_of_change (quietRule_of_loud (s := s.setTag p .none) active loud)]
  obtain ⟨taken, answers, changes⟩ := exec_done (args := [seatByte i]) h rfl acts (frame_setQuiet i) (by decide)
  have slots (o : Source) := setQuiet_slot (s.setTag p .none) i o
  have seats : ((s.setTag p .none).setQuiet i).seats = s.seats.set i { s.seats[i] with quiet := true } := rfl
  have roster : ((s.setTag p .none).setQuiet i).alerts.roster = s.alerts.roster := rfl
  generalize (s.setTag p .none).setQuiet i = u at *
  refine ⟨_, taken, seats, fun k => (slots _).trans (if_pos rfl), fun src other => (slots _).trans (if_neg other), roster,
    answers, frame_mono changes (by decide)⟩

theorem exec_unquiet_of_quiet (h : Admitted s p .unquiet) (quiet : s.seats[i].quiet = true) :
    ∃ t, exec (.unquiet p [seatByte i]) s = .next t ∧ t.seats = s.seats.set i { s.seats[i] with quiet := false } ∧
      NoneQuieted i t ∧ (RosterReady s 9 → UnquietLists s t i) ∧ Answers s t p 0x21 .done [1] ∧
      ChangesOnly [.seats, .alerts, .attention, .ports, .reminders, .lamps] s t := by
  have rule := unquietRule_of_quiet (s := s.setTag p .none) quiet
  have acts : (s.setTag p .none).perform p s.ports[p].tag [seatByte i] .unquiet =
      (⟨.done, [1], false⟩, ((s.setTag p .none).clearQuiet i).evalOutputs) := by
    rw [perform_unquiet, seatOrRange_of_change rule]
    exact Runs.withOutputs_done [1] _
  obtain ⟨t, taken, answers, kept, changes⟩ := exec_changed h rfl acts (frame_clearQuiet i) (by decide)
  have none := noneQuieted_clearQuiet (s := s.setTag p .none) quiet
  have seats := (kept .seats (by decide)).trans (Runs.clearQuiet_seats (s.setTag p .none) i)
  refine ⟨t, taken, seats, fun k r raised => none k r ?_, fun ready => ?_, answers, frame_mono changes (by decide)⟩
  · rwa [slot_of_alerts (kept .alerts (by decide))] at raised
  · have tagged : RosterReady (s.setTag p .none) 9 := ready
    have lists := unquietLists_withPorts (sameViews_setTag s p .none) (unquietLists_clearQuiet quiet tagged)
    exact unquietLists_of_frame lists (frame_withPorts_left kept s.ports) (by decide) (by decide)

theorem exec_unquiet_of_loud (h : Admitted s p .unquiet) (loud : s.seats[i].quiet = false) :
    ∃ t, exec (.unquiet p [seatByte i]) s = .next t ∧
      Answers s t p 0x21 .done [0] ∧ ChangesOnly [.ports, .reminders, .lamps] s t := by
  have rule := unquietRule_of_loud (s := s.setTag p .none) loud
  have acts : (s.setTag p .none).perform p s.ports[p].tag [seatByte i] .unquiet =
      (⟨.done, [0], false⟩, (s.setTag p .none).evalOutputs) := by
    rw [perform_unquiet, seatOrRange_of_same rule]
    exact Runs.withOutputs_done [0] _
  obtain ⟨t, taken, answers, -, changes⟩ := exec_changed (W := []) h rfl acts frame_refl nofun
  exact ⟨t, taken, answers, changes⟩

theorem exec_quiet_of_same {k : Completion} {result : List Byte} (h : Admitted s p .quiet)
    (acts : (s.setTag p .none).seatOrRange State.quietRule s.ports[p].tag (seatByte i).toNat =
      (⟨k, result, false⟩, s.setTag p .none)) :
    exec (.quiet p [seatByte i]) s = .next (s.answered p 0x20 k result) := exec_answered h rfl acts

/-- Settles O43: QUIET and UNQUIET on one seat. -/
theorem quietAndUnquiet : Obligations.QuietAndUnquiet := by
  refine ⟨fun s p i h => ⟨exec_quiet_of_loud h, fun active quiet => ?_, fun vacant => ?_, fun inactive bound => ?_⟩,
    fun s p i h => ⟨exec_unquiet_of_quiet h, exec_unquiet_of_loud h⟩⟩
  · have rule := quietRule_of_quiet (s := s.setTag p .none) active quiet
    exact exec_quiet_of_same h (seatOrRange_of_same rule)
  · have rule := quietRule_of_vacant (s := s.setTag p .none) vacant
    exact exec_quiet_of_same h (seatOrRange_of_refused rule nofun)
  · have rule := quietRule_of_absent (s := s.setTag p .none) inactive bound
    exact exec_quiet_of_same h (seatOrRange_of_refused rule nofun)

end Sys2Proof.Machine.Listings
end

section
/-! PROOFS. Removal tests made one after the other (R118, R119). -/

namespace Sys2Proof.Machine.Listings

open Sys2Proof Sys2Proof.Machine Sys2Proof.Machine.Laws Sys2Proof.Machine.SlotGrades
open Sys2Proof.Machine.RosterSoundness Sys2Proof.Machine.Agreement

variable {s t u : State} {src o : Source} {r : Raised} {e x : Entry} {es : List Entry} {srcs : List Source} {n : Nat}

/-- The entry leaves the roster at its removal test (R118). -/
def Leaving (s : State) (e : Entry) : Prop := e.isEnded = true ∧ (e.severity = .notice ∨ s.fullyAcked e = true)

/-- The condition has an entry that leaves the roster at its removal test. -/
def leaves (s : State) (src : Source) : Bool :=
  s.alerts.roster.any fun e => e.source == src && (e.isEnded && (e.severity == .notice || s.fullyAcked e))

theorem leaving_iff : (e.isEnded && (e.severity == .notice || s.fullyAcked e)) = true ↔ Leaving s e := by
  rw [Bool.and_eq_true_iff, Bool.or_eq_true_iff, beq_iff_eq]
  rfl

theorem leaves_iff : leaves s src = true ↔ ∃ e ∈ s.alerts.roster, e.source = src ∧ Leaving s e := by
  unfold leaves
  rw [List.any_eq_true]
  refine exists_congr fun e => and_congr_right fun _ => ?_
  rw [Bool.and_eq_true_iff, beq_iff_eq, leaving_iff]

/-- A source names one entry, which leaves with it. -/
theorem leaves_source (distinct : (s.alerts.roster.map (·.source)).Nodup) (mem : e ∈ s.alerts.roster) :
    leaves s e.source = true ↔ Leaving s e := by
  rw [leaves_iff]
  refine ⟨fun ⟨x, hx, same, leaving⟩ => ?_, fun leaving => ⟨e, mem, rfl, leaving⟩⟩
  rw [← List.inj_on_of_nodup_map distinct hx mem same]
  exact leaving

theorem removalTest_of_not_leaves (h : leaves s src = false) : s.removalTest src = s :=
  removalTest_cases (motive := fun t => t = s) s src rfl fun e mem here ended gone =>
    absurd (leaves_iff.2 ⟨e, mem, here, ended, gone⟩) (by rw [h]; nofun)

theorem removalTest_of_leaves_ready (ready : RosterReady s n) (h : leaves s src = true) :
    s.removalTest src = (s.dropEntry src).relist := by
  obtain ⟨e, mem, here, ended, gone⟩ := leaves_iff.1 h
  obtain ⟨-, ⟨distinct, -⟩, -⟩ := ready
  exact removalTest_of_leaves (find_of_distinct distinct mem here) ended (gone.imp id fullyAcked_iff.1)

theorem removalTests_of_none (h : ∀ x ∈ srcs, leaves s x = false) : s.removalTests srcs = s := by
  induction srcs with
  | nil => rfl
  | cons src srcs ih =>
    show (s.removalTest src).removalTests srcs = s
    rw [removalTest_of_not_leaves (h src List.mem_cons_self)]
    exact ih fun x hx => h x (.tail _ hx)

/-! ## The roster behind a removal -/

theorem mem_placed : x ∈ placed e es ↔ x = e ∨ x ∈ es := by
  unfold placed
  rw [List.mem_append, List.mem_cons, List.mem_filter, List.mem_filter, decide_eq_true_iff, decide_eq_true_iff]
  constructor
  · rintro (⟨mem, -⟩ | same | ⟨mem, -⟩)
    · exact .inr mem
    · exact .inl same
    · exact .inr mem
  · rintro (same | mem)
    · exact .inr (.inl same)
    · rcases Nat.lt_or_ge x.severity.num e.severity.num with below | above
      · exact .inr (.inr ⟨mem, below⟩)
      · exact .inl ⟨mem, above⟩

/-- Behind a removal the roster holds the other entries, and at most one more, which is LIVE. -/
theorem roster_relist_dropEntry (ready : RosterReady s 1) (here : leaves s src = true) :
    (s.dropEntry src).relist.alerts.roster = (s.dropEntry src).alerts.roster ∨
      ∃ e, e.isEnded = false ∧ (s.dropEntry src).relist.alerts.roster = placed e (s.dropEntry src).alerts.roster := by
  obtain ⟨sound, agrees, ranks⟩ := ready
  obtain ⟨v, mem, rfl, -⟩ := leaves_iff.1 here
  refine relist_cases (motive := fun t => t.alerts.roster = (s.dropEntry v.source).alerts.roster ∨ ∃ e, e.isEnded = false ∧
    t.alerts.roster = placed e (s.dropEntry v.source).alerts.roster) (s.dropEntry v.source) (fun _ => .inl rfl) fun c first => ?_
  obtain ⟨raised, waiting⟩ := mem_waitingList.1 (mem_of_firstWaiting first)
  have raisedBefore : s.slot c.1 = .raised c.2 := by rwa [slot_dropEntry] at raised
  obtain ⟨-, -, -, none⟩ := agrees
  have few : s.alerts.roster.length ≤ 48 := (rosterSound_iff.1 sound).length
  have room := Nat.lt_of_lt_of_le (length_dropEntry_lt mem) few
  have below : (s.dropEntry v.source).alerts.rankCounter < Config.maxRank := Nat.lt_of_lt_of_le (Nat.lt_succ_self _) ranks
  have other (y) (hy : y ∈ (s.dropEntry v.source).alerts.roster) : y.source ≠ c.1 := by
    rw [dropEntry_roster] at hy
    exact none _ _ raisedBefore waiting y (List.mem_filter.1 hy).1
  rw [attempt_of_room raised other room, createEntry_roster (rosterSound_dropEntry sound v.source) below]
  exact .inr ⟨_, rfl, rfl⟩

theorem mem_dropEntry : x ∈ (s.dropEntry src).alerts.roster ↔ x ∈ s.alerts.roster ∧ x.source ≠ src := by
  rw [dropEntry_roster, List.mem_filter, bne_iff_ne]

theorem mem_relist_dropEntry (ready : RosterReady s 1) (here : leaves s src = true) :
    (x ∈ s.alerts.roster ∧ x.source ≠ src → x ∈ (s.dropEntry src).relist.alerts.roster) ∧
    (x ∈ (s.dropEntry src).relist.alerts.roster → x.isEnded = false ∨ (x ∈ s.alerts.roster ∧ x.source ≠ src)) := by
  rw [← mem_dropEntry]
  rcases roster_relist_dropEntry ready here with same | ⟨e, live, more⟩
  · rw [same]
    exact ⟨id, .inr⟩
  · rw [more, mem_placed]
    exact ⟨.inr, fun h => h.imp (fun (same : x = e) => same ▸ live) id⟩

theorem frame_relist_dropEntry (src : Source) : ChangesOnly rosterBlocks s (s.dropEntry src).relist :=
  frame_then (frame_dropEntry src) frame_relist (by decide)

theorem leaving_congr (ports : t.ports = s.ports) : Leaving t e ↔ Leaving s e := by
  have acked : t.fullyAcked e = s.fullyAcked e := by
    unfold State.fullyAcked State.due
    simp only [dueTo_of_ports ports]
  unfold Leaving
  rw [acked]

/-- A removal leaves the entries of the other conditions as they were to their removal tests. -/
theorem leaves_relist (ready : RosterReady s 1) (here : leaves s src = true) (ne : o ≠ src) :
    leaves (s.dropEntry src).relist o = leaves s o := by
  have ports : (s.dropEntry src).relist.ports = s.ports := frame_relist_dropEntry src .ports (by decide)
  rw [Bool.eq_iff_iff, leaves_iff, leaves_iff]
  refine ⟨fun ⟨x, hx, same, leaving⟩ => ?_, fun ⟨x, hx, same, leaving⟩ => ?_⟩
  · rw [leaving_congr ports] at leaving
    obtain ⟨ended, gone⟩ := leaving
    rcases (mem_relist_dropEntry ready here).2 hx with live | ⟨mem, -⟩
    · rw [live] at ended
      exact nomatch ended
    · exact ⟨x, mem, same, ended, gone⟩
  · exact ⟨x, (mem_relist_dropEntry ready here).1 ⟨hx, same ▸ ne⟩, same, (leaving_congr ports).2 leaving⟩

/-! ## One after the other -/

theorem entryRemoved_of_frame {W : List Block} (h : EntryRemoved s t src) (frame : ChangesOnly W t u)
    (hW : ∀ b ∈ listingBlocks, b ∉ W) : EntryRemoved s u src := by
  rw [← besides_eq frame hW]
  exact h

theorem removedInTurn_of_same (h : RemovedInTurn srcs s t) (alerts : u.alerts = t.alerts)
    (attention : u.attention = t.attention) : RemovedInTurn srcs s u := by
  induction srcs generalizing s with
  | nil =>
    obtain ⟨sameAlerts, sameAttention⟩ := h
    exact ⟨alerts.trans sameAlerts, attention.trans sameAttention⟩
  | cons src srcs ih =>
    obtain ⟨v, frame, removed, rest⟩ := h
    exact ⟨v, frame, removed, ih rest⟩

/-- Removal tests on distinct conditions remove those whose entries leave, in their order, each with its re-listing: what
one removal lists is LIVE, and stays. -/
theorem removedInTurn_removalTests (ready : RosterReady s n) (nodup : srcs.Nodup)
    (few : (srcs.filter (leaves s)).length ≤ n) : RemovedInTurn (srcs.filter (leaves s)) s (s.removalTests srcs) := by
  induction srcs generalizing s n with
  | nil => exact ⟨rfl, rfl⟩
  | cons src srcs ih =>
    obtain ⟨fresh, nodup⟩ := List.nodup_cons.1 nodup
    show RemovedInTurn _ s ((s.removalTest src).removalTests srcs)
    cases here : leaves s src with
    | false =>
      rw [List.filter_cons_of_neg (by rw [here]; nofun)] at few ⊢
      rw [removalTest_of_not_leaves here]
      exact ih ready nodup few
    | true =>
      rw [List.filter_cons_of_pos here] at few ⊢
      obtain ⟨m, rfl⟩ := Nat.exists_eq_add_of_lt (Nat.lt_of_lt_of_le (Nat.succ_pos _) few)
      rw [Nat.zero_add] at few ready
      have ready' := rosterReady_removalTest ready src
      have one := rosterReady_mono ready (Nat.le_add_left 1 m)
      rw [removalTest_of_leaves_ready ready here] at ready' ⊢
      have same : srcs.filter (leaves s) = srcs.filter (leaves (s.dropEntry src).relist) :=
        List.filter_congr fun o ho => (leaves_relist one here fun eq => fresh (eq ▸ ho)).symm
      rw [same] at few ⊢
      obtain ⟨sound, agrees, ranks⟩ := one
      obtain ⟨e, mem, source, -⟩ := leaves_iff.1 here
      exact ⟨_, frame_relist_dropEntry src, entryRemoved_of_ready sound agrees (by omega) ⟨e, mem, source⟩,
        ih ready' nodup (Nat.le_of_succ_le_succ few)⟩

/-- Distinct conditions of entries on the roster are at most 48. -/
theorem length_le_of_sources (sound : RosterSound s) (nodup : srcs.Nodup)
    (here : ∀ x ∈ srcs, x ∈ s.alerts.roster.map (·.source)) : srcs.length ≤ 48 := by
  have le := (List.Nodup.subperm nodup here).length_le
  rw [List.length_map] at le
  exact le.trans (rosterSound_iff.1 sound).length

theorem removedInTurn_of_entries (ready : RosterReady s 48) {xs : List Entry} (nodup : (xs.map (·.source)).Nodup)
    (here : ∀ x ∈ xs, x ∈ s.alerts.roster) :
    RemovedInTurn ((xs.filter fun e => e.isEnded && (e.severity == .notice || s.fullyAcked e)).map (·.source)) s
      (s.removalTests (xs.map (·.source))) := by
  have same : (xs.map (·.source)).filter (leaves s) =
      (xs.filter fun e => e.isEnded && (e.severity == .notice || s.fullyAcked e)).map (·.source) := by
    rw [List.filter_map]
    refine congrArg (List.map _) (List.filter_congr fun e he => ?_)
    rw [Bool.eq_iff_iff, leaving_iff]
    exact leaves_source ready.2.1.1 (here e he)
  have few : ((xs.map (·.source)).filter (leaves s)).length ≤ 48 := by
    refine length_le_of_sources ready.1 (nodup.filter _) fun o ho => ?_
    obtain ⟨e, he, rfl⟩ := List.mem_map.1 (List.mem_filter.1 ho).1
    exact List.mem_map_of_mem (here e he)
  rw [← same]
  exact removedInTurn_removalTests ready nodup few

end Sys2Proof.Machine.Listings
end

section
/-! PROOFS. ACK (R121 to R124). -/

namespace Sys2Proof.Machine.Listings

open Sys2Proof Sys2Proof.Machine Sys2Proof.Machine.Laws Sys2Proof.Machine.SlotGrades
open Sys2Proof.Machine.RosterSoundness Sys2Proof.Machine.Agreement Sys2Proof.Machine.SeatRequests Sys2Proof.Machine.Reads
open Sys2Proof.Machine.PortSettings Sys2Proof.Machine.Parameters

variable {s t u : State} {src next : Source} {r : Raised} {e x : Entry} {es pre post : List Entry} {p q : PortId}
variable {a b : SeatId} {scope : Entry → Bool} {scopes : List (Entry → Bool)} {args : List Byte} {W : List Block} {w : BitVec 16}

/-! ## The entries acknowledged -/

/-- The entries that one of the scopes newly acknowledges, scope by scope (R121). -/
def newlyAcked (s : State) (p : PortId) (scopes : List (Entry → Bool)) : List Entry :=
  scopes.flatMap fun scope => s.alerts.roster.filter (Entry.newlyAcked p scope)

/-- The entry with the port in its ack set, if it is in one of the scopes. -/
def joined (p : PortId) (scopes : List (Entry → Bool)) (e : Entry) : Entry :=
  if scopes.any fun scope => scope e then { e with acks := e.acks.set p true } else e

/-- The state with the port in the ack sets, before the removal tests. -/
def ackedIn (s : State) (p : PortId) (scopes : List (Entry → Bool)) : State :=
  s.setRoster (s.alerts.roster.map (joined p scopes))

/-- The state behind the removal tests on the entries newly acknowledged. -/
def ackTested (s : State) (p : PortId) (scopes : List (Entry → Bool)) : State :=
  (ackedIn s p scopes).removalTests ((newlyAcked s p scopes).map (·.source))

theorem acknowledgeInTurn_eq (s : State) (p : PortId) (scopes : List (Entry → Bool)) : s.acknowledgeInTurn p scopes =
    (.done [byte1 (newlyAcked s p scopes).length], (ackTested s p scopes).evalOutputs) := rfl

theorem joined_source (p : PortId) (scopes : List (Entry → Bool)) (e : Entry) : (joined p scopes e).source = e.source := by
  unfold joined
  split <;> rfl

theorem joined_severity (p : PortId) (scopes : List (Entry → Bool)) (e : Entry) :
    (joined p scopes e).severity = e.severity := by
  unfold joined
  split <;> rfl

theorem joined_isEnded (p : PortId) (scopes : List (Entry → Bool)) (e : Entry) : (joined p scopes e).isEnded = e.isEnded := by
  unfold joined
  split <;> rfl

theorem joined_tag (p : PortId) (scopes : List (Entry → Bool)) (e : Entry) : (joined p scopes e).tag = e.tag := by
  unfold joined
  split <;> rfl

theorem joined_rank (p : PortId) (scopes : List (Entry → Bool)) (e : Entry) : (joined p scopes e).rank = e.rank := by
  unfold joined
  split <;> rfl

theorem joined_of_mem (h : scopes.any (fun scope => scope e) = true) :
    joined p scopes e = { e with acks := e.acks.set p true } := if_pos h

theorem face_joined (p : PortId) (scopes : List (Entry → Bool)) (e : Entry) : face (joined p scopes e) = face e := by
  unfold face
  rw [joined_source, joined_severity, joined_isEnded]

theorem mem_newlyAcked : e ∈ newlyAcked s p scopes ↔
    e ∈ s.alerts.roster ∧ scopes.any (fun scope => scope e) = true ∧ e.acks[p] = false := by
  unfold newlyAcked
  rw [List.mem_flatMap, List.any_eq_true]
  constructor
  · rintro ⟨scope, mem, he⟩
    obtain ⟨here, newly⟩ := List.mem_filter.1 he
    rw [Entry.newlyAcked, Bool.and_eq_true_iff, Bool.not_eq_true'] at newly
    exact ⟨here, ⟨scope, mem, newly.1⟩, newly.2⟩
  · rintro ⟨here, ⟨scope, mem, inside⟩, unacked⟩
    refine ⟨scope, mem, List.mem_filter.2 ⟨here, ?_⟩⟩
    rw [Entry.newlyAcked, inside, unacked]
    rfl

theorem rosterReady_ackedIn {n : Nat} (ready : RosterReady s n) : RosterReady (ackedIn s p scopes) n := by
  obtain ⟨sound, agrees, ranks⟩ := ready
  refine ⟨?_, entriesMatch_iff.2 (Agrees.map (entriesMatch_iff.1 agrees) (face_joined p scopes)), ranks⟩
  exact rosterSound_iff.2 ((rosterSound_iff.1 sound).map (joined_tag p scopes) (joined_rank p scopes)
    (joined_severity p scopes))

theorem frame_ackedIn (p : PortId) (scopes : List (Entry → Bool)) : ChangesOnly [.alerts] s (ackedIn s p scopes) :=
  frame_setRoster _

/-- The entry leaves at its removal test behind the ACK (R118). -/
def leavesAcked (s : State) (p : PortId) (e : Entry) : Bool :=
  e.isEnded && (e.severity == .notice || allPorts.all fun q => q == p || !s.due q e || e.acks[q])

theorem fullyAcked_joined (h : scopes.any (fun scope => scope e) = true) :
    (ackedIn s p scopes).fullyAcked (joined p scopes e) = allPorts.all fun q => q == p || !s.due q e || e.acks[q] := by
  have due (q : PortId) : (ackedIn s p scopes).due q (joined p scopes e) = s.due q e := by
    rw [joined_of_mem h]
    rfl
  unfold State.fullyAcked
  simp only [due]
  refine congrArg allPorts.all (funext fun q => ?_)
  rw [joined_of_mem h]
  by_cases same : q = p
  · subst same
    rw [get_set_self, beq_self_eq_true, Bool.or_true, Bool.true_or, Bool.true_or]
  · rw [get_set_ne _ same, beq_false_of_ne same, Bool.false_or]

theorem removedInTurn_ackTested (ready : RosterReady s 48) (nodup : ((newlyAcked s p scopes).map (·.source)).Nodup) :
    RemovedInTurn (((newlyAcked s p scopes).filter (leavesAcked s p)).map (·.source)) (ackedIn s p scopes)
      (ackTested s p scopes) := by
  have sources : (fun e => e.source) ∘ joined p scopes = fun e => e.source := funext (joined_source p scopes)
  have kept : ((newlyAcked s p scopes).map (joined p scopes)).map (·.source) = (newlyAcked s p scopes).map (·.source) := by
    rw [List.map_map, sources]
  have removed := removedInTurn_of_entries (xs := (newlyAcked s p scopes).map (joined p scopes))
    (rosterReady_ackedIn (p := p) (scopes := scopes) ready) (by rw [kept]; exact nodup) fun x hx => ?_
  · rw [kept, List.filter_map, List.map_map, sources] at removed
    rw [show (newlyAcked s p scopes).filter (leavesAcked s p) = _ from List.filter_congr fun e he => ?_]
    · exact removed
    · obtain ⟨-, inside, -⟩ := mem_newlyAcked.1 he
      show leavesAcked s p e = ((joined p scopes e).isEnded && ((joined p scopes e).severity == .notice || _))
      rw [fullyAcked_joined inside, joined_isEnded, joined_severity]
      rfl
  · obtain ⟨e, he, rfl⟩ := List.mem_map.1 hx
    exact List.mem_map_of_mem (mem_newlyAcked.1 he).1

theorem ackTested_of_live (live : ∀ e ∈ s.alerts.roster, e.phase = .live) : ackTested s p scopes = ackedIn s p scopes := by
  refine removalTests_of_none fun o _ => ?_
  rw [Bool.eq_false_iff, ne_eq, leaves_iff]
  rintro ⟨x, hx, -, ended, -⟩
  obtain ⟨e, he, rfl⟩ := List.mem_map.1 hx
  rw [joined_isEnded, isEnded_eq_false.2 (live e he)] at ended
  exact nomatch ended

/-! ## The request -/

theorem due_setTag (s : State) (p q : PortId) (g : TagState) : (s.setTag p g).due q = s.due q :=
  funext fun e => (dueTo_withPorts (sameViews_setTag s p g) q e.source e.severity).symm

/-- The ACK acts on these scopes. -/
def AckScopes (s : State) (p : PortId) (args : List Byte) (scopes : List (Entry → Bool)) : Prop :=
  (s.setTag p .none).ackRequest p s.ports[p].tag (argByte args 0) (argWord16 args 1).toNat =
    (s.setTag p .none).acknowledgeInTurn p scopes

theorem exec_ackScopes (h : Admitted s p .ack) (ha : args.length = 3) (acts : AckScopes s p args scopes)
    (tested : ackTested (s.setTag p .none) p scopes = u) (frame : ChangesOnly W (s.setTag p .none) u) (hW : Block.ports ∉ W) :
    ∃ t, exec (.ack p args) s = .next t ∧ Answers s t p 0x10 .done [byte1 (newlyAcked s p scopes).length] ∧
      ChangesOnly [.ports, .reminders, .lamps] u t ∧ ChangesOnly (.ports :: .reminders :: .lamps :: W) s t := by
  have performs : (s.setTag p .none).perform p s.ports[p].tag args .ack =
      (⟨.done, [byte1 (newlyAcked s p scopes).length], false⟩, u.evalOutputs) := by
    rw [← tested]
    exact acts.trans (acknowledgeInTurn_eq _ p scopes)
  exact exec_changed h ha performs frame hW

theorem frame_ackTested (p : PortId) (scopes : List (Entry → Bool)) :
    ChangesOnly [.alerts, .attention] s (ackTested s p scopes) :=
  frame_then (frame_mono (frame_ackedIn p scopes) (by decide)) (frame_removalTests _) (by decide)

theorem ackTaken_of_scopes (h : Admitted s p .ack) (ha : args.length = 3) (acts : AckScopes s p args scopes)
    (ready : RosterReady s 48) (nodup : ((newlyAcked s p scopes).map (·.source)).Nodup) : AckTaken s p args scopes := by
  obtain ⟨t, taken, answers, kept, changes⟩ := exec_ackScopes h ha acts rfl (frame_ackTested p scopes) (by decide)
  have tagged : RosterReady (s.setTag p .none) 48 := ready
  have same : leavesAcked (s.setTag p .none) p = leavesAcked s p := by
    unfold leavesAcked
    simp only [due_setTag]
  have removed := removedInTurn_ackTested (s := s.setTag p .none) (p := p) (scopes := scopes) tagged nodup
  rw [same] at removed
  have views : SameViews (ackedIn (s.setTag p .none) p scopes) s.ports :=
    sameViews_of_ports (sameViews_setTag s p .none) rfl
  have here := removedInTurn_withPorts views removed
  refine ⟨t, taken, removedInTurn_of_same here (kept .alerts (by decide)) (kept .attention (by decide)), answers,
    frame_mono changes (by decide)⟩

theorem ackAdds_of_scopes (h : Admitted s p .ack) (ha : args.length = 3) (acts : AckScopes s p args scopes)
    (live : ∀ e ∈ s.alerts.roster, e.phase = .live) (inside : ∀ e, scopes.any (fun f => f e) = scope e)
    (count : (newlyAcked s p scopes).length = s.alerts.roster.countP fun e => scope e && !e.acks[p]) :
    AckAdds s p args scope := by
  obtain ⟨t, taken, answers, kept, changes⟩ := exec_ackScopes h ha acts (ackTested_of_live live)
    (frame_ackedIn p scopes) (by decide)
  rw [count] at answers
  refine ⟨t, taken, (kept .alerts (by decide)).trans ?_, answers, frame_mono changes (by decide)⟩
  have join : joined p scopes = fun e => if scope e then { e with acks := e.acks.set p true } else e :=
    funext fun e => by rw [joined, inside]
  rw [← join]
  rfl

/-! ## One scope, and a range of seats -/

theorem newlyAcked_one (s : State) (p : PortId) (scope : Entry → Bool) :
    newlyAcked s p [scope] = s.alerts.roster.filter fun e => scope e && !e.acks[p] := by
  unfold newlyAcked
  rw [List.flatMap_singleton]
  rfl

theorem any_one (scope : Entry → Bool) (e : Entry) : [scope].any (fun f => f e) = scope e := Bool.or_false _

theorem length_newlyAcked_one (s : State) (p : PortId) (scope : Entry → Bool) :
    (newlyAcked s p [scope]).length = s.alerts.roster.countP fun e => scope e && !e.acks[p] := by
  rw [newlyAcked_one, List.countP_eq_length_filter]

theorem nodup_newlyAcked_one (distinct : (s.alerts.roster.map (·.source)).Nodup) (p : PortId) (scope : Entry → Bool) :
    ((newlyAcked s p [scope]).map (·.source)).Nodup := by
  rw [newlyAcked_one]
  exact (List.filter_sublist.map _).nodup distinct

/-- The entry's origin is one of the seats. -/
def ofSeats (is : List SeatId) (e : Entry) : Bool := is.any fun i => Entry.ofSeat i e

theorem any_ofSeat (is : List SeatId) (e : Entry) : (is.map Entry.ofSeat).any (fun f => f e) = ofSeats is e := by
  rw [List.any_map]
  rfl

theorem ofSeats_rangeSeats (a b : SeatId) (e : Entry) :
    ofSeats (rangeSeats a b) e = e.source.seat?.any fun i => decide (a ≤ i) && decide (i ≤ b) := by
  rw [Bool.eq_iff_iff, ofSeats, List.any_eq_true]
  cases origin : e.source.seat? with
  | none =>
    refine ⟨fun ⟨i, _, here⟩ => ?_, nofun⟩
    rw [Entry.ofSeat, origin, decide_eq_true_iff] at here
    exact nomatch here
  | some j =>
    rw [Option.any_some, Bool.and_eq_true_iff, decide_eq_true_iff, decide_eq_true_iff, ← mem_seatsBetween]
    refine ⟨fun ⟨i, mem, here⟩ => ?_, fun mem => ⟨j, mem, ?_⟩⟩
    · rw [Entry.ofSeat, origin, decide_eq_true_iff] at here
      exact Option.some.inj here ▸ mem
    · rw [Entry.ofSeat, origin]
      exact decide_eq_true rfl

theorem ofSeat_unique {i j : SeatId} (hi : Entry.ofSeat i e = true) (hj : Entry.ofSeat j e = true) : i = j := by
  rw [Entry.ofSeat, decide_eq_true_iff] at hi hj
  exact Option.some.inj (hi.symm.trans hj)

theorem perm_filter_append {α : Type} {f g : α → Bool} (apart : ∀ x, f x = true → g x = false) (xs : List α) :
    (xs.filter f ++ xs.filter g).Perm (xs.filter fun x => f x || g x) := by
  have split := List.filter_append_perm f (xs.filter fun x => f x || g x)
  rw [List.filter_filter, List.filter_filter] at split
  have first : (fun x => f x && (f x || g x)) = f := funext fun x => by cases f x <;> rfl
  have second : (fun x => !f x && (f x || g x)) = g := funext fun x => by
    cases fx : f x with
    | false => rfl
    | true => exact (apart x fx).symm
  rw [first, second] at split
  exact split

/-- What a range of seats newly acknowledges is what a scope of all of them does, in another order. -/
theorem perm_newlyAcked_seats (s : State) (p : PortId) {is : List SeatId} (nodup : is.Nodup) :
    (newlyAcked s p (is.map Entry.ofSeat)).Perm (s.alerts.roster.filter fun e => ofSeats is e && !e.acks[p]) := by
  induction is with
  | nil =>
    have none : (s.alerts.roster.filter fun e => ofSeats [] e && !e.acks[p]) = [] :=
      List.filter_eq_nil_iff.2 fun e _ => Bool.false_ne_true
    rw [none]
    exact .refl _
  | cons i is ih =>
    obtain ⟨fresh, nodup⟩ := List.nodup_cons.1 nodup
    have apart (e : Entry) (here : (Entry.ofSeat i e && !e.acks[p]) = true) : (ofSeats is e && !e.acks[p]) = false := by
      rw [Bool.and_eq_false_iff]
      refine .inl (Bool.eq_false_iff.2 fun more => ?_)
      obtain ⟨j, hj, there⟩ := List.any_eq_true.1 more
      exact fresh (ofSeat_unique (Bool.and_eq_true_iff.1 here).1 there ▸ hj)
    have both : (fun e : Entry => ofSeats (i :: is) e && !e.acks[p]) =
        fun e => (Entry.ofSeat i e && !e.acks[p]) || (ofSeats is e && !e.acks[p]) := funext fun e => by
      rw [← Bool.and_or_distrib_right]
      rfl
    rw [both]
    exact (List.Perm.append_left _ (ih nodup)).trans (perm_filter_append apart s.alerts.roster)

theorem nodup_newlyAcked_seats (distinct : (s.alerts.roster.map (·.source)).Nodup) (p : PortId) (a b : SeatId) :
    ((newlyAcked s p ((rangeSeats a b).map Entry.ofSeat)).map (·.source)).Nodup := by
  rw [((perm_newlyAcked_seats s p (is := rangeSeats a b) (nodup_seatsBetween a b)).map _).nodup_iff]
  exact (List.filter_sublist.map _).nodup distinct

/-! ## The argument bytes -/

theorem ackScopes_due (s : State) (p : PortId) (w : BitVec 16) : AckScopes s p (3 :: bytes16 w) [s.due p] := by
  unfold AckScopes
  rw [← due_setTag s p p .none]
  rfl

theorem value_of_seat (b : Byte) : (argWord16 [2, 0, b] 1).toNat = b.toNat := by
  show ((0 : Byte) ++ b).toNat = _
  rw [BitVec.toNat_append]
  exact Nat.zero_or _

theorem ackScopes_seat (s : State) (p : PortId) (i : SeatId) : AckScopes s p [2, 0, seatByte i] [Entry.ofSeat i] := by
  unfold AckScopes
  rw [value_of_seat]
  show State.ackSeat _ p _ _ = _
  unfold State.ackSeat
  rw [if_neg (toNat_seatByte_ne_zero i), seatOfNumber_seatByte]
  rfl

theorem ackScopes_range (h : s.ports[p].tag = .range a b) :
    AckScopes s p [2, 0, 0] ((rangeSeats a b).map Entry.ofSeat) := by
  unfold AckScopes
  rw [h]
  rfl

/-- The entry has the tag. -/
def tagged (n : Nat) (e : Entry) : Bool := decide (e.tag = n)

theorem ackRequest_tag (s : State) (p : PortId) (ts : TagState) (w : BitVec 16) :
    s.ackRequest p ts (argByte (1 :: bytes16 w) 0) (argWord16 (1 :: bytes16 w) 1).toNat = s.ackTag p w.toNat := by
  rw [argWord16_tail]
  rfl

theorem ackScopes_tag (h : ∃ e ∈ s.alerts.roster, e.tag = w.toNat) : AckScopes s p (1 :: bytes16 w) [tagged w.toNat] := by
  unfold AckScopes
  rw [ackRequest_tag]
  obtain ⟨e, mem, tag⟩ := h
  exact if_pos (List.any_eq_true.2 ⟨e, mem, decide_eq_true tag⟩)

theorem exec_ack_answered {c : Completion} (h : Admitted s p .ack) (ha : args.length = 3)
    (acts : (s.setTag p .none).ackRequest p s.ports[p].tag (argByte args 0) (argWord16 args 1).toNat =
      (.bare c, s.setTag p .none)) : exec (.ack p args) s = .next (s.answered p 0x10 c []) := exec_answered h ha acts

theorem exec_ack_stale (h : Admitted s p .ack) (none : ∀ e ∈ s.alerts.roster, e.tag ≠ w.toNat) :
    exec (.ack p (1 :: bytes16 w)) s = .next (s.answered p 0x10 .stale []) := by
  refine exec_ack_answered h rfl ?_
  rw [ackRequest_tag]
  refine if_neg fun some => ?_
  obtain ⟨e, mem, tag⟩ := List.any_eq_true.1 some
  exact none e mem (beq_iff_eq.1 tag)

theorem exec_ack_unknown {b : Byte} (h : Admitted s p .ack) (h1 : b ≠ 1) (h2 : b ≠ 2) (h3 : b ≠ 3) (w : BitVec 16) :
    exec (.ack p (b :: bytes16 w)) s = .next (s.answered p 0x10 .badArgument []) := by
  refine exec_ack_answered h rfl ?_
  show State.ackRequest _ p _ b _ = _
  rw [State.ackRequest, if_neg h1, if_neg h2, if_neg h3]

theorem exec_ack_noSeat (h : Admitted s p .ack) (high : 192 < w.toNat) :
    exec (.ack p (2 :: bytes16 w)) s = .next (s.answered p 0x10 .badArgument []) := by
  refine exec_ack_answered h rfl ?_
  rw [argWord16_tail]
  show State.ackSeat _ p _ w.toNat = _
  have none : seatOfNumber w.toNat = none := dif_neg (by omega)
  unfold State.ackSeat
  rw [if_neg (by omega), none]

/-! ## A last acknowledgement -/

theorem joined_of_not_mem (h : scopes.any (fun scope => scope e) = false) : joined p scopes e = e :=
  if_neg (by rw [h]; nofun)

/-- The entry that an acknowledgement by tag removes, among the others. -/
def LastAck (s : State) (p : PortId) (pre post : List Entry) (e : Entry) (n : Nat) : Prop :=
  s.alerts.roster = pre ++ e :: post ∧ e.tag = n ∧ e.isEnded = true ∧ e.acks[p] = false ∧
    (∀ x ∈ pre ++ post, x.tag ≠ e.tag ∧ x.source ≠ e.source) ∧ ∀ q : PortId, q ≠ p → s.due q e = true → e.acks[q] = true

variable {n : Nat}

theorem newlyAcked_of_lastAck (h : LastAck s p pre post e n) : newlyAcked s p [tagged n] = [e] := by
  obtain ⟨split, tag, -, unacked, others, -⟩ := h
  have away (x) (hx : x ∈ pre ++ post) : (tagged n x && !x.acks[p]) = false := by
    rw [tagged, decide_eq_false (tag ▸ (others x hx).1)]
    rfl
  rw [newlyAcked_one, split, List.filter_append, List.filter_cons_of_pos,
    List.filter_eq_nil_iff.2 fun x hx => Bool.eq_false_iff.1 (away x (List.mem_append_left _ hx)),
    List.filter_eq_nil_iff.2 fun x hx => Bool.eq_false_iff.1 (away x (List.mem_append_right _ hx))]
  · rfl
  · rw [tagged, decide_eq_true tag, unacked]
    rfl

theorem ackedIn_roster_of_lastAck (h : LastAck s p pre post e n) :
    (ackedIn s p [tagged n]).alerts.roster = pre ++ { e with acks := e.acks.set p true } :: post := by
  obtain ⟨split, tag, -, -, others, -⟩ := h
  have same (xs : List Entry) (hxs : ∀ x ∈ xs, x ∈ pre ++ post) : xs.map (joined p [tagged n]) = xs := by
    refine (List.map_congr_left fun x hx => joined_of_not_mem ?_).trans xs.map_id
    rw [any_one, tagged]
    exact decide_eq_false (tag ▸ (others x (hxs x hx)).1)
  show s.alerts.roster.map (joined p [tagged n]) = _
  rw [split, List.map_append, List.map_cons, same pre fun x => List.mem_append_left _,
    same post fun x => List.mem_append_right _, joined_of_mem]
  rw [any_one, tagged]
  exact decide_eq_true tag

theorem ackTested_of_lastAck (h : LastAck s p pre post e n) :
    ackTested s p [tagged n] = ((ackedIn s p [tagged n]).dropEntry e.source).relist := by
  have roster := ackedIn_roster_of_lastAck h
  rw [ackTested, newlyAcked_of_lastAck h]
  obtain ⟨-, -, ended, -, others, acked⟩ := h
  refine removalTest_of_leaves (e := { e with acks := e.acks.set p true }) ?_ ended (.inr fun q due => ?_)
  · rw [roster]
    exact find_source_of_split (fun x hx => (others x (List.mem_append_left _ hx)).2) rfl
  · show (e.acks.set p true)[q] = true
    by_cases same : q = p
    · subst same
      exact get_set_self _ _ _
    · rw [get_set_ne _ same]
      exact acked q same due

theorem dropped_of_lastAck (h : LastAck s p pre post e n) :
    ((ackedIn s p [tagged n]).alerts.roster.filter fun x => x.source != e.source) = pre ++ post := by
  rw [ackedIn_roster_of_lastAck h]
  obtain ⟨-, -, -, -, others, -⟩ := h
  have keep (xs : List Entry) (hxs : ∀ x ∈ xs, x ∈ pre ++ post) : (xs.filter fun x => x.source != e.source) = xs :=
    List.filter_eq_self.2 fun x hx => bne_iff_ne.2 (others x (hxs x hx)).2
  rw [List.filter_append, List.filter_cons_of_neg, keep pre fun x => List.mem_append_left _,
    keep post fun x => List.mem_append_right _]
  rw [bne_self_eq_false]
  nofun

theorem lastAck_setTag (h : LastAck s p pre post e n) (g : TagState) : LastAck (s.setTag p g) p pre post e n := by
  obtain ⟨split, tag, ended, unacked, others, acked⟩ := h
  refine ⟨split, tag, ended, unacked, others, fun q ne due => acked q ne ?_⟩
  rwa [due_setTag] at due

theorem scopes_of_lastAck (h : LastAck s p pre post e w.toNat) : AckScopes s p (1 :: bytes16 w) [tagged w.toNat] := by
  obtain ⟨split, tag, -⟩ := h
  exact ackScopes_tag ⟨e, by rw [split]; exact List.mem_append_right _ List.mem_cons_self, tag⟩

/-- The last acknowledgement an ENDED entry waits for leaves its place free. -/
theorem exec_lastAck_free (h : Admitted s p .ack) (last : LastAck s p pre post e w.toNat)
    (idle : ∀ src r, s.slot src = .raised r → r.listing ≠ .waiting) :
    ∃ t, exec (.ack p (1 :: bytes16 w)) s = .next t ∧ t.alerts = { s.alerts with roster := pre ++ post } ∧
      Answers s t p 0x10 .done [1] ∧ ChangesOnly [.alerts, .ports, .reminders, .lamps] s t := by
  have lastHere := lastAck_setTag last .none
  have tested := ackTested_of_lastAck lastHere
  rw [relist_of_none (s := (ackedIn (s.setTag p .none) p [tagged w.toNat]).dropEntry e.source) idle] at tested
  have frame : ChangesOnly [.alerts] (s.setTag p .none) _ :=
    frame_trans (frame_ackedIn p [tagged w.toNat]) (frame_setRoster _ : ChangesOnly [.alerts] _ (State.dropEntry _ e.source))
  obtain ⟨t, taken, answers, kept, changes⟩ := exec_ackScopes h rfl (scopes_of_lastAck last) tested frame (by decide)
  rw [newlyAcked_of_lastAck last] at answers
  refine ⟨t, taken, (kept .alerts (by decide)).trans ?_, answers, frame_mono changes (by decide)⟩
  rw [← dropped_of_lastAck lastHere]
  rfl

/-- The last acknowledgement an ENDED entry waits for lists the first WAITING condition in its place. -/
theorem exec_lastAck_next (h : Admitted s p .ack) (last : LastAck s p pre post e w.toNat) (first : FirstWaiting s next r)
    (none : ∀ x ∈ pre ++ post, x.source ≠ next) (sound : RosterSound s) (below : s.alerts.rankCounter < Config.maxRank) :
    ∃ t, exec (.ack p (1 :: bytes16 w)) s = .next t ∧ EntryCreated s t (pre ++ post) next r ∧
      t.alerts.overflow = s.alerts.overflow ∧ (∀ other, other ≠ next → t.slot other = s.slot other) ∧
      (∀ q : PortId, t.attention[q] = (s.dueTo q next r.severity || s.attention[q])) ∧
      Answers s t p 0x10 .done [1] ∧ ChangesOnly [.alerts, .attention, .ports, .reminders, .lamps] s t := by
  have lastHere := lastAck_setTag last .none
  have dropped := dropped_of_lastAck lastHere
  have tested := ackTested_of_lastAck lastHere
  have few : (pre ++ post).length < 48 := by
    have le : s.alerts.roster.length ≤ 48 := (rosterSound_iff.1 sound).length
    rw [last.1, List.length_append, List.length_cons] at le
    rw [List.length_append]
    omega
  have soundHere : RosterSound (ackedIn (s.setTag p .none) p [tagged w.toNat]) :=
    rosterSound_iff.2 ((rosterSound_iff.1 sound).map (joined_tag p _) (joined_rank p _) (joined_severity p _))
  have removed := entryRemoved_relist soundHere below (by rw [dropped]; exact few) fun o r' here => by
    have same := (firstWaiting_eq_some here).symm.trans (firstWaiting_eq_some (s := ackedIn (s.setTag p .none) p _) first)
    have eq : o = next := congrArg Prod.fst (Option.some.inj same)
    rw [dropped, eq]
    exact none
  have frame : ChangesOnly [.alerts, .attention] (s.setTag p .none) _ :=
    frame_then (frame_mono (frame_ackedIn p [tagged w.toNat]) (by decide)) (frame_relist_dropEntry e.source) (by decide)
  obtain ⟨t, taken, answers, kept, changes⟩ := exec_ackScopes h rfl (scopes_of_lastAck last) tested frame (by decide)
  rw [newlyAcked_of_lastAck last] at answers
  have views : SameViews (ackedIn (s.setTag p .none) p [tagged w.toNat]) s.ports :=
    sameViews_of_ports (sameViews_setTag s p .none) rfl
  have here := entryRemoved_of_frame (entryRemoved_withPorts views removed) (frame_withPorts_left kept s.ports) (by decide)
  obtain ⟨created, overflow, slots, attention⟩ := here.2 next r first
  rw [show ((withPorts (ackedIn (s.setTag p .none) p [tagged w.toNat]) s.ports).alerts.roster.filter fun x =>
    x.source != e.source) = pre ++ post from dropped] at created
  exact ⟨t, taken, created, overflow, slots, attention, answers, frame_mono changes (by decide)⟩

/-- Settles O39: ACK in each of its scopes, and what a last acknowledgement removes. -/
theorem ackActs : Obligations.AckActs := by
  refine ⟨fun s p h => ⟨fun live => ⟨fun w => ?_, fun i => ?_, fun a b range => ?_, fun w some => ?_⟩,
    fun w none => exec_ack_stale h none, fun b w h1 h2 h3 => exec_ack_unknown h h1 h2 h3 w, fun w high => exec_ack_noSeat h high,
    fun ready => ⟨fun w => ?_, fun i => ?_, fun a b range => ?_, fun w some => ?_⟩⟩,
    fun s p pre post e w h split tag ended unacked others acked => ?_⟩
  · exact ackAdds_of_scopes h rfl (ackScopes_due s p w) live (any_one _) (length_newlyAcked_one s p _)
  · exact ackAdds_of_scopes h rfl (ackScopes_seat s p i) live (any_one _) (length_newlyAcked_one s p _)
  · refine ackAdds_of_scopes h rfl (ackScopes_range range) live
      (fun e => (any_ofSeat _ e).trans (ofSeats_rangeSeats a b e)) ?_
    rw [(perm_newlyAcked_seats s p (is := rangeSeats a b) (nodup_seatsBetween a b)).length_eq, ← List.countP_eq_length_filter]
    exact congrArg (List.countP · _) (funext fun e => by rw [ofSeats_rangeSeats])
  · exact ackAdds_of_scopes h rfl (ackScopes_tag some) live (any_one _) (length_newlyAcked_one s p _)
  · exact ackTaken_of_scopes h rfl (ackScopes_due s p w) ready (nodup_newlyAcked_one ready.2.1.1 p _)
  · exact ackTaken_of_scopes h rfl (ackScopes_seat s p i) ready (nodup_newlyAcked_one ready.2.1.1 p _)
  · exact ackTaken_of_scopes h rfl (ackScopes_range range) ready (nodup_newlyAcked_seats ready.2.1.1 p a b)
  · exact ackTaken_of_scopes h rfl (ackScopes_tag some) ready (nodup_newlyAcked_one ready.2.1.1 p _)
  · have last : LastAck s p pre post e w.toNat := ⟨split, tag, ended, unacked, others, acked⟩
    exact ⟨exec_lastAck_free h last, fun src r first => exec_lastAck_next h last first⟩

end Sys2Proof.Machine.Listings
end

section
/-! PROOFS. SET-VIEW (R125, R155). -/

namespace Sys2Proof.Machine.Listings

open Sys2Proof Sys2Proof.Machine Sys2Proof.Machine.Laws Sys2Proof.Machine.SlotGrades
open Sys2Proof.Machine.RosterSoundness Sys2Proof.Machine.Agreement Sys2Proof.Machine.SeatRequests Sys2Proof.Machine.Reads
open Sys2Proof.Machine.PortSettings Sys2Proof.Machine.Parameters Sys2Proof.Machine.PowerAndRestart

variable {s t u : State} {e : Entry} {p q r : PortId} {v : View} {low : Severity} {base limit : Byte} {kinds : BitVec 16}

/-! ## The new view -/

/-- The entry is newly due to the port under the view, and not acknowledged by it. -/
def newlyDue (s : State) (q : PortId) (v : View) (e : Entry) : Bool :=
  v.admits e.source e.severity && !s.due q e && !e.acks[q]

/-- The state with the port's new view, and its attention (R155, R159). -/
def viewed (s : State) (q : PortId) (v : View) : State :=
  { s with
    ports := s.ports.set q { s.ports[q] with view := v }
    attention := Vector.ofFn fun r => s.attention[r] || (r == q && s.alerts.roster.any (newlyDue s q v)) }

theorem dueTo_viewed (on : s.ports[q].role ≠ .off) (v : View) (src : Source) (sev : Severity) :
    (viewed s q v).dueTo q src sev = v.admits src sev := by
  show ((s.ports.set q { s.ports[q] with view := v })[q].role != .off &&
    (s.ports.set q { s.ports[q] with view := v })[q].view.admits src sev) = _
  rw [get_set_self, bne_iff_ne.2 on, Bool.true_and]

theorem storeView_eq (on : s.ports[q].role ≠ .off) (v : View) : s.storeView q v =
    ((viewed s q v).removalTests ((s.alerts.roster.filter (·.isEnded)).map (·.source))).evalOutputs := by
  have attends : (s.modPort q fun x => { x with view := v }).attendNewlyDue s q = viewed s q v := by
    have due (e : Entry) :
        ((s.modPort q fun x => { x with view := v }).dueUnacked q e && !s.due q e) = newlyDue s q v e := by
      have admits : (s.modPort q fun x => { x with view := v }).due q e = v.admits e.source e.severity := dueTo_viewed on v _ _
      rw [State.dueUnacked, admits, newlyDue, Bool.and_right_comm]
    have same : ((s.modPort q fun x => { x with view := v }).attendNewlyDue s q).attention = (viewed s q v).attention := by
      show (Vector.ofFn fun r => _ || _) = Vector.ofFn fun r => _ || _
      refine congrArg Vector.ofFn (funext fun r => ?_)
      rw [Bool.or_comm]
      exact congrArg (fun f => s.attention[r] || (r == q && s.alerts.roster.any f)) (funext due)
    exact congrArg (fun w => { viewed s q v with attention := w }) same
  rw [State.storeView, attends]
  rfl

/-- What SET-VIEW makes of the roster in its first part: the removals behind the new view. -/
theorem removedInTurn_viewed (ready : RosterReady s 48) (q : PortId) (v : View) :
    RemovedInTurn ((s.alerts.roster.filter fun e => e.isEnded && (e.severity == .notice ||
        allPorts.all fun r => !(viewed s q v).due r e || e.acks[r])).map (·.source)) (viewed s q v)
      ((viewed s q v).removalTests ((s.alerts.roster.filter (·.isEnded)).map (·.source))) := by
  have readyHere : RosterReady (viewed s q v) 48 := ready
  have nodup : ((s.alerts.roster.filter (·.isEnded)).map (·.source)).Nodup :=
    (List.filter_sublist.map _).nodup ready.2.1.1
  have removed := removedInTurn_of_entries readyHere nodup fun x hx => (List.mem_filter.1 hx).1
  rw [List.filter_filter] at removed
  have same : (fun e : Entry => (e.isEnded && (e.severity == .notice || (viewed s q v).fullyAcked e)) && e.isEnded) =
      fun e => e.isEnded && (e.severity == .notice || allPorts.all fun r => !(viewed s q v).due r e || e.acks[r]) :=
    funext fun e => by
      cases e.isEnded
      · rfl
      · exact Bool.and_true _
  rw [same] at removed
  exact removed

theorem tests_of_live (live : ∀ e ∈ s.alerts.roster, e.phase = .live) :
    t.removalTests ((s.alerts.roster.filter (·.isEnded)).map (·.source)) = t := by
  have none : s.alerts.roster.filter (·.isEnded) = [] :=
    List.filter_eq_nil_iff.2 fun e he => Bool.eq_false_iff.1 (isEnded_eq_false.2 (live e he))
  rw [none]
  rfl

theorem attention_viewed (s : State) (q : PortId) (v : View) (r : PortId) : (viewed s q v).attention[r] = true ↔
    s.attention[r] = true ∨ (r = q ∧ ∃ e ∈ s.alerts.roster, v.admits e.source e.severity = true ∧ s.due q e = false ∧
      e.acks[q] = false) := by
  show (Vector.ofFn fun r : PortId => s.attention[r] || (r == q && s.alerts.roster.any (newlyDue s q v)))[r] = true ↔ _
  rw [get_ofFn, Bool.or_eq_true_iff, Bool.and_eq_true_iff, beq_iff_eq, List.any_eq_true]
  refine or_congr_right (and_congr_right fun _ => exists_congr fun e => and_congr_right fun _ => ?_)
  rw [newlyDue, Bool.and_eq_true_iff, Bool.and_eq_true_iff, Bool.not_eq_true', Bool.not_eq_true', and_assoc]

/-! ## The port settings -/

theorem storeView_view (s : State) (q : PortId) (v : View) : (s.storeView q v).ports[q].view = v := by
  rw [storeView_ports, modPort_ports, get_set_self]

theorem storeView_overrun (s : State) (p q : PortId) (v : View) : (s.storeView q v).ports[p].overrun = s.ports[p].overrun := by
  rw [storeView_ports, modPort_ports]
  by_cases same : p = q
  · subst same
    rw [get_set_self]
  · rw [get_set_ne _ same]

theorem respond_view (s : State) (p q : PortId) (code : Byte) (x : Reply) :
    (s.respond p code x).ports[q].view = s.ports[q].view := by
  rw [State.respond, modPort_ports]
  by_cases same : q = p
  · subst same
    rw [get_set_self]
  · rw [get_set_ne _ same]

theorem setTag_overrun (s : State) (p : PortId) (g : TagState) : (s.setTag p g).ports[p].overrun = s.ports[p].overrun := by
  rw [State.setTag, modPort_ports, get_set_self]

/-! ## The arguments -/

theorem portOfNumber_val (q : PortId) : portOfNumber (byte1 q.val).toNat = some q := by
  rw [toNat_byte1 (by omega)]
  exact dif_pos q.isLt

theorem severityOfCode_num (low : Severity) : severityOfCode (byte1 low.num) = some low := by cases low <;> rfl

theorem setViewRequest_of_stranger (s : State) (h : q ≠ p) (desk : s.ports[p].role ≠ .desk) (b l : Nat) (x : Byte)
    (k : BitVec 16) : s.setViewRequest p (byte1 q.val).toNat b l x k = (.bare .notPermitted, s) := by
  unfold State.setViewRequest
  rw [portOfNumber_val]
  exact if_pos ⟨h, desk⟩

theorem setViewRequest_of_off (s : State) (h : q = p ∨ s.ports[p].role = .desk) (off : s.ports[q].role = .off) (b l : Nat)
    (x : Byte) (k : BitVec 16) : s.setViewRequest p (byte1 q.val).toNat b l x k = (.bare .badArgument, s) := by
  unfold State.setViewRequest
  rw [portOfNumber_val]
  exact (if_neg (by tauto)).trans (if_pos off)

theorem setViewRequest_of_permitted (s : State) (h : q = p ∨ s.ports[p].role = .desk) (on : s.ports[q].role ≠ .off)
    (b l : Nat) (x : Byte) (k : BitVec 16) : s.setViewRequest p (byte1 q.val).toNat b l x k =
      match viewOfArgs b l x k with
      | some v => (.done [], s.storeView q v)
      | none => (.bare .badArgument, s) := by
  unfold State.setViewRequest
  rw [portOfNumber_val]
  exact (if_neg (by tauto)).trans (if_neg on)

theorem viewOfArgs_of_valid {b l : Nat} (low : Severity) (hb : 1 ≤ b ∧ b ≤ 192) (hl : 1 ≤ l ∧ l ≤ 192) (hk : kinds.toNat < 1024) :
    viewOfArgs b l (byte1 low.num) kinds = some ⟨b, l, low, kinds.setWidth 10⟩ := by
  unfold viewOfArgs
  rw [severityOfCode_num]
  exact if_pos ⟨hb.1, hb.2, hl.1, hl.2, hk⟩

theorem viewOfArgs_of_invalid {b l : Nat} (x : Byte) (h : ¬(1 ≤ b ∧ b ≤ 192 ∧ 1 ≤ l ∧ l ≤ 192 ∧ kinds.toNat < 1024)) :
    viewOfArgs b l x kinds = none := by
  unfold viewOfArgs
  split
  · exact if_neg h
  · rfl

theorem viewOfArgs_of_severity {x : Byte} (h : x.toNat = 0 ∨ 4 ≤ x.toNat) (b l : Nat) (k : BitVec 16) :
    viewOfArgs b l x k = none := by
  unfold viewOfArgs
  rw [LampSetting.severityOfCode_none h]

/-- The argument bytes of SET-VIEW. -/
def viewArgs (q : PortId) (base limit : Byte) (low : Severity) (kinds : BitVec 16) : List Byte :=
  byte1 q.val :: base :: limit :: byte1 low.num :: bytes16 kinds

theorem perform_setView (s : State) (p q : PortId) (ts : TagState) (base limit : Byte) (low : Severity) (kinds : BitVec 16) :
    s.perform p ts (viewArgs q base limit low kinds) .setView =
      s.setViewRequest p (byte1 q.val).toNat base.toNat limit.toNat (byte1 low.num) kinds := by
  have word : argWord16 (viewArgs q base limit low kinds) 4 = kinds := argWord16_bytes16 kinds
  rw [State.perform, word]
  rfl

theorem toNat_pos_of_ne {b : Byte} (h : b ≠ 0) : 1 ≤ b.toNat :=
  Nat.one_le_iff_ne_zero.2 fun zero => h (BitVec.eq_of_toNat_eq zero)

/-! ## The request -/

/-- What SET-VIEW does on a roster: nothing leaves a roster of LIVE entries; in any, the removals come one after the
other. -/
def ViewLists (s t : State) (q : PortId) (v : View) : Prop :=
  ((∀ e ∈ s.alerts.roster, e.phase = .live) → t.alerts = s.alerts ∧
    ∀ r : PortId, t.attention[r] = true ↔ s.attention[r] = true ∨
      (r = q ∧ ∃ e ∈ s.alerts.roster, v.admits e.source e.severity = true ∧ s.due q e = false ∧ e.acks[q] = false)) ∧
  (RosterReady s 48 → RemovedInTurn ((s.alerts.roster.filter fun e => e.isEnded && (e.severity == .notice ||
    allPorts.all fun r => !(viewed s q v).due r e || e.acks[r])).map (·.source)) (viewed s q v) t)

theorem viewLists_storeView (on : s.ports[q].role ≠ .off) (v : View) : ViewLists s (s.storeView q v) q v := by
  rw [storeView_eq on]
  refine ⟨fun live => ?_, fun ready => ?_⟩
  · rw [tests_of_live live]
    refine ⟨frame_evalOutputs .alerts (by decide), fun r => ?_⟩
    rw [show (viewed s q v).evalOutputs.attention = (viewed s q v).attention from frame_evalOutputs .attention (by decide)]
    exact attention_viewed s q v r
  · exact removedInTurn_of_same (removedInTurn_viewed ready q v) (frame_evalOutputs .alerts (by decide))
      (frame_evalOutputs .attention (by decide))

theorem viewLists_of_same (h : ViewLists s t q v) (alerts : u.alerts = t.alerts) (attention : u.attention = t.attention) :
    ViewLists s u q v := by
  obtain ⟨live, ready⟩ := h
  refine ⟨fun all => ?_, fun sound => removedInTurn_of_same (ready sound) alerts attention⟩
  rw [alerts, attention]
  exact live all

theorem viewed_setTag (s : State) (p q : PortId) (g : TagState) (v : View) :
    withPorts (viewed (s.setTag p g) q v) (s.ports.set q { s.ports[q] with view := v }) = viewed s q v := by
  have newly : newlyDue (s.setTag p g) q v = newlyDue s q v := funext fun e => by
    rw [newlyDue, due_setTag]
    rfl
  unfold viewed
  rw [newly]
  rfl

theorem sameViews_viewed (s : State) (p q : PortId) (g : TagState) (v : View) :
    SameViews (viewed (s.setTag p g) q v) (s.ports.set q { s.ports[q] with view := v }) := by
  intro r
  obtain ⟨role, view⟩ := sameViews_setTag s p g r
  show _ = ((s.setTag p g).ports.set q { (s.setTag p g).ports[q] with view := v })[r].role ∧
    _ = ((s.setTag p g).ports.set q { (s.setTag p g).ports[q] with view := v })[r].view
  by_cases same : r = q
  · subst same
    rw [get_set_self, get_set_self]
    exact ⟨role, rfl⟩
  · rw [get_set_ne _ same, get_set_ne _ same]
    exact ⟨role, view⟩

theorem viewLists_of_setTag {g : TagState} (h : ViewLists (s.setTag p g) t q v) : ViewLists s t q v := by
  obtain ⟨live, ready⟩ := h
  have same := sameViews_viewed s p q g v
  have due (r : PortId) (e : Entry) : (viewed (s.setTag p g) q v).due r e = (viewed s q v).due r e := by
    rw [← viewed_setTag s p q g v]
    exact (dueTo_withPorts same r _ _).symm
  refine ⟨fun all => ?_, fun sound => ?_⟩
  · rw [← due_setTag s p q g]
    exact live all
  · have removed := removedInTurn_withPorts same (ready sound)
    rw [viewed_setTag] at removed
    simp only [due] at removed
    exact removedInTurn_of_same removed rfl rfl

theorem exec_setView (h : Admitted s p .setView) (may : q = p ∨ s.ports[p].role = .desk) (on : s.ports[q].role ≠ .off)
    (hb : 1 ≤ base.toNat ∧ base.toNat ≤ 192) (hl : 1 ≤ limit.toNat ∧ limit.toNat ≤ 192) (hk : kinds.toNat < 1024)
    (hv : v = ⟨base.toNat, limit.toNat, low, kinds.setWidth 10⟩) :
    ∃ t, exec (.setView p (viewArgs q base limit low kinds)) s = .next t ∧ t.ports[q].view = v ∧
      t.ports[p].response = some ⟨0x11, .done, s.ports[p].overrun, [], false⟩ ∧
      (∀ r : PortId, r ≠ p → r ≠ q → t.ports[r] = s.ports[r]) ∧ ViewLists s t q v ∧
      ChangesOnly [.ports, .alerts, .attention, .reminders, .lamps] s t := by
  have may' : q = p ∨ (s.setTag p .none).ports[p].role = .desk := by rwa [setTag_role]
  have on' : (s.setTag p .none).ports[q].role ≠ .off := by rwa [setTag_role]
  have acts : (s.setTag p .none).perform p s.ports[p].tag (viewArgs q base limit low kinds) .setView =
      (.done [], (s.setTag p .none).storeView q v) := by
    rw [perform_setView, setViewRequest_of_permitted _ may' on', viewOfArgs_of_valid low hb hl hk, hv]
  have taken := exec_admitted (args := viewArgs q base limit low kinds) h rfl
  rw [acts] at taken
  have lists := viewLists_of_setTag (viewLists_storeView on' v)
  have view := storeView_view (s.setTag p .none) q v
  have overrun := (storeView_overrun (s.setTag p .none) p q v).trans (setTag_overrun s p .none)
  have ports := storeView_ports (s.setTag p .none) q v
  have frame : ChangesOnly [.ports, .alerts, .attention, .reminders, .lamps] s ((s.setTag p .none).storeView q v) :=
    frame_then (frame_mono (frame_setTag p .none) (by decide)) (frame_storeView q v) (by decide)
  generalize (s.setTag p .none).storeView q v = u at *
  refine ⟨_, taken, (respond_view u p q _ _).trans view, ?_, fun r other away => ?_, viewLists_of_same lists rfl rfl,
    frame_then frame (frame_modPort p _) (by decide)⟩
  · rw [respond_response, overrun]
    rfl
  · rw [State.respond, modPort_ports, get_set_ne _ other, ports, modPort_ports, get_set_ne _ away, State.setTag, modPort_ports,
      get_set_ne _ other]

theorem exec_setView_answered {c : Completion} {args : List Byte} (h : Admitted s p .setView) (ha : args.length = 6)
    (acts : (s.setTag p .none).perform p s.ports[p].tag args .setView = (.bare c, s.setTag p .none)) :
    exec (.setView p args) s = .next (s.answered p 0x11 c []) := exec_answered h ha acts

/-- A target that is no port, or a severity of no code, is a bad argument to whoever may set the view. -/
theorem setViewRequest_of_badArgument {n b l : Nat} {x : Byte} {k : BitVec 16}
    (h : 4 ≤ n ∨ ((n = p.val ∨ s.ports[p].role = .desk) ∧ (x.toNat = 0 ∨ 4 ≤ x.toNat))) :
    s.setViewRequest p n b l x k = (.bare .badArgument, s) := by
  by_cases high : 4 ≤ n
  · have none : portOfNumber n = none := dif_neg (by omega)
    unfold State.setViewRequest
    rw [none]
  · obtain ⟨may, severity⟩ := h.resolve_left high
    have some : portOfNumber n = some ⟨n, by omega⟩ := dif_pos (by omega)
    have permitted : ¬((⟨n, by omega⟩ : PortId) ≠ p ∧ s.ports[p].role ≠ .desk) := by
      rintro ⟨other, desk⟩
      exact other (Fin.ext (may.resolve_right desk))
    unfold State.setViewRequest
    rw [some, viewOfArgs_of_severity severity]
    dsimp only
    rw [if_neg permitted]
    split <;> rfl

/-- Settles O40: SET-VIEW's checks in order, and the view it leaves. -/
theorem setViewReplacesView : Obligations.SetViewReplacesView := by
  refine ⟨fun s p q base limit low kinds h => ⟨fun other desk => ?_, fun may off => ?_, fun may on bad => ?_,
    fun may on hb hb' hl hl' hk => ?_⟩, fun s p args h length bad => ?_⟩
  · refine exec_setView_answered h rfl ((perform_setView _ _ _ _ _ _ _ _).trans (setViewRequest_of_stranger _ other ?_ _ _ _ _))
    rwa [setTag_role]
  · refine exec_setView_answered h rfl ((perform_setView _ _ _ _ _ _ _ _).trans (setViewRequest_of_off _ ?_ ?_ _ _ _ _))
    · rwa [setTag_role]
    · rwa [setTag_role]
  · have invalid : ¬(1 ≤ base.toNat ∧ base.toNat ≤ 192 ∧ 1 ≤ limit.toNat ∧ limit.toNat ≤ 192 ∧ kinds.toNat < 1024) := by
      rintro ⟨lowBase, highBase, lowLimit, highLimit, fits⟩
      rcases bad with rfl | high | rfl | high | high
      · exact absurd lowBase (by decide)
      · omega
      · exact absurd lowLimit (by decide)
      · omega
      · omega
    refine exec_setView_answered h rfl ((perform_setView _ _ _ _ _ _ _ _).trans
      ((setViewRequest_of_permitted _ ?_ ?_ _ _ _ _).trans ?_))
    · rwa [setTag_role]
    · rwa [setTag_role]
    · rw [viewOfArgs_of_invalid _ invalid]
  · obtain ⟨t, taken, view, response, others, lists, changes⟩ :=
      exec_setView (low := low) h may on ⟨toNat_pos_of_ne hb, hb'⟩ ⟨toNat_pos_of_ne hl, hl'⟩ hk rfl
    exact ⟨t, taken, view, response, others, lists.1, lists.2, changes⟩
  · refine exec_setView_answered h length (setViewRequest_of_badArgument ?_)
    rw [setTag_role]
    exact bad

end Sys2Proof.Machine.Listings
end

section
/-! PROOFS. Entries that leave the queue, markers, and the port break (R130, R138 to R140, R146). -/

namespace Sys2Proof.Machine.QueueSteps

open Sys2Proof Sys2Proof.Machine Sys2Proof.Machine.Laws Sys2Proof.Machine.QueueOps Sys2Proof.Machine.PortSettings
open Sys2Proof.Machine.Reads Sys2Proof.Machine.Runs Sys2Proof.Machine.Invariants Sys2Proof.Machine.SimpleCommands Sys2Proof.Machine.PowerAndRestart

variable {s t : State} {i j : SeatId} {p q : PortId} {skip : Option SeatId} {x : QEntry} {f : QEntry → Bool} {n : Nat}
variable {pre post rest : List QEntry}

/-! ## Owed service -/

theorem serveOwed_queue (s : State) (skip : Option SeatId) :
    (s.serveOwed skip).queue = s.queue ∨ ∃ i, (s.serveOwed skip).queue = s.queue ++ [QEntry.sync i .queued] := by
  refine serveOwed_cases (motive := fun t => t.queue = s.queue ∨ ∃ i, t.queue = s.queue ++ [QEntry.sync i .queued]) s skip
    (fun _ => .inl rfl) fun i _ _ => ?_
  rcases requestSync_queue s i with same | ⟨-, -, -, more⟩
  · exact .inl same
  · exact .inr ⟨i, more⟩

theorem marker_mem_serveOwed : QEntry.marker q n ∈ (s.serveOwed skip).queue ↔ QEntry.marker q n ∈ s.queue := by
  rcases serveOwed_queue s skip with same | ⟨i, more⟩
  · rw [same]
  · rw [more, List.mem_append, List.mem_singleton]
    exact or_iff_left nofun

theorem countP_marker_serveOwed (s : State) (skip : Option SeatId) (p : PortId) :
    (s.serveOwed skip).queue.countP (·.isMarkerOf p) = s.queue.countP (·.isMarkerOf p) := by
  rcases serveOwed_queue s skip with same | ⟨i, more⟩
  · rw [same]
  · rw [more, List.countP_append]
    rfl

/-! ## An entry leaves -/

theorem afterLeave_of_headed (h : Headed s.queue) (skip : Option SeatId) (fuel : Nat) :
    State.afterLeave skip fuel s = s.serveOwed skip := by
  cases fuel with
  | zero => rfl
  | succ fuel =>
    unfold State.afterLeave
    split
    next p n rest same => exact absurd same (h p n rest)
    next => rfl

theorem afterLeave_of_marker (h : s.queue = .marker p n :: rest) (headed : Headed rest) (skip : Option SeatId) (fuel : Nat) :
    State.afterLeave skip (fuel + 1) s = (({ s with queue := rest }.completeMarker p n).serveOwed skip).serveOwed skip := by
  have step : State.afterLeave skip (fuel + 1) s =
      (State.afterLeave skip fuel ({ s with queue := rest }.completeMarker p n)).serveOwed skip := by
    rw [State.afterLeave]
    split
    next p' n' rest' same =>
      rw [h] at same
      injection same with first others
      injection first with port number
      rw [port, number, others]
    next other => exact absurd h (other p n rest)
  rw [step]
  exact congrArg (State.serveOwed · skip)
    (afterLeave_of_headed (s := { s with queue := rest }.completeMarker p n) headed skip fuel)

theorem leave_of_none (h : s.queue.any f = false) (skip : Option SeatId) : s.leave skip f = s :=
  if_neg (by rw [h]; nofun)

theorem leave_of_headed (here : s.queue.any f = true) (h : Headed (s.queue.eraseP f)) (skip : Option SeatId) :
    s.leave skip f = ({ s with queue := s.queue.eraseP f }).serveOwed skip := by
  unfold State.leave
  rw [if_pos here]
  exact afterLeave_of_headed (s := { s with queue := s.queue.eraseP f }) h skip _

/-! ## The markers of a port leave -/

theorem headed_eraseP_marker (h : Headed s.queue) (p : PortId) : Headed (s.queue.eraseP (·.isMarkerOf p)) := by
  intro q n rest same
  cases queue : s.queue with
  | nil =>
    rw [queue] at same
    exact nomatch same
  | cons x xs =>
    rw [queue, List.eraseP_cons_of_neg fun own => ?_] at same
    · injection same with first
      exact h q n xs (queue.trans (congrArg (· :: xs) first))
    · obtain ⟨m, rfl⟩ := isMarkerOf_iff.1 own
      exact h p m xs queue

theorem countP_eraseP {q : List QEntry} (here : q.any f = true) : (q.eraseP f).countP f + 1 = q.countP f := by
  obtain ⟨x, mem, own⟩ := List.any_eq_true.1 here
  obtain ⟨y, pre, post, -, first, split, left⟩ := List.exists_of_eraseP mem own
  rw [left, split, List.countP_append, List.countP_append, List.countP_cons_of_pos first, Nat.add_assoc]

/-- What is left of the queue when every marker of the port has left it. -/
structure MarkersGone (s t : State) (p : PortId) : Prop where
  none : t.noMarkerOf p
  others : ∀ (q : PortId) (n : Nat), q ≠ p → (QEntry.marker q n ∈ t.queue ↔ QEntry.marker q n ∈ s.queue)
  frame : ChangesOnly [.queue, .syncs] s t

theorem noMarkerOf_of_countP (h : s.queue.countP (·.isMarkerOf p) = 0) : s.noMarkerOf p := fun n mem =>
  absurd (isMarkerOf_iff.2 ⟨n, rfl⟩) (List.countP_eq_zero.1 h _ mem)

theorem markersGone_self (h : s.queue.countP (·.isMarkerOf p) = 0) : MarkersGone s s p :=
  ⟨noMarkerOf_of_countP h, fun _ _ _ => Iff.rfl, frame_refl⟩

theorem dropMarkers_of_none (h : s.queue.countP (·.isMarkerOf p) = 0) (fuel : Nat) : s.dropMarkers p fuel = s := by
  induction fuel with
  | zero => rfl
  | succ fuel ih =>
    have none : s.queue.any (·.isMarkerOf p) = false :=
      List.any_eq_false.2 fun x hx => List.countP_eq_zero.1 h x hx
    rw [State.dropMarkers, leave_of_none none, ih]

theorem markersGone_dropMarkers (h : Headed s.queue) (fuel : Nat) (enough : s.queue.countP (·.isMarkerOf p) ≤ fuel) :
    MarkersGone s (s.dropMarkers p fuel) p := by
  induction fuel generalizing s with
  | zero => exact markersGone_self (Nat.le_zero.1 enough)
  | succ fuel ih =>
    cases here : s.queue.any (·.isMarkerOf p) with
    | false =>
      have none : s.queue.countP (·.isMarkerOf p) = 0 :=
        List.countP_eq_zero.2 fun x hx => List.any_eq_false.1 here x hx
      rw [dropMarkers_of_none none]
      exact markersGone_self none
    | true =>
      have headed := headed_eraseP_marker h p
      have left := leave_of_headed here headed none
      have fewer : (s.leave none (·.isMarkerOf p)).queue.countP (·.isMarkerOf p) ≤ fuel := by
        rw [left, countP_marker_serveOwed]
        exact Nat.le_of_succ_le_succ ((countP_eraseP here).trans_le enough)
      have headedLeft : Headed (s.leave none (·.isMarkerOf p)).queue := headed_leave h none _
      obtain ⟨gone, others, frame⟩ := ih headedLeft fewer
      refine ⟨gone, fun q n ne => (others q n ne).trans ?_, ?_⟩
      · rw [left, marker_mem_serveOwed]
        refine List.mem_eraseP_of_neg fun own => ?_
        obtain ⟨m, same⟩ := isMarkerOf_iff.1 own
        injection same with port
        exact ne port
      · have step : ChangesOnly [.queue, .syncs] s (s.leave none (·.isMarkerOf p)) := by
          rw [left]
          exact frame_trans (frame_mono (frame_setQueue _) (by decide)) (frame_serveOwed none)
        exact frame_trans step frame

/-! ## The port break -/

theorem portBreaks_of_listening (on : s.ports[p].role ≠ .off) (open' : s.ports[p].inBreak = false) :
    s.portBreaks p = if s.ports[p].restarting then (broken s p).beginRestart else broken s p := by
  have hears : s.ports[p].deaf = false := by
    rw [PortRec.deaf, open', Bool.or_false]
    exact beq_false_of_ne on
  rw [portBreaks_eq, hears]
  rfl

theorem exec_portBreak_plain (on : s.ports[p].role ≠ .off) (open' : s.ports[p].inBreak = false) (headed : Headed s.queue)
    (plain : ∀ r, s.ports[p].response = some r → r.restarts = false) :
    ∃ t, exec (.portBreak p) s = .next t ∧
      t.ports = s.ports.set p s.ports[p].reset ∧ t.attention = s.attention.set p false ∧ t.noMarkerOf p ∧
      (∀ (q : PortId) (n : Nat), q ≠ p → (QEntry.marker q n ∈ t.queue ↔ QEntry.marker q n ∈ s.queue)) ∧
      ChangesOnly [.ports, .attention, .queue, .syncs] s t := by
  have ends : s.ports[p].restarting = false := by
    unfold PortRec.restarting
    cases response : s.ports[p].response with
    | none => rfl
    | some r => exact plain r response
  obtain ⟨gone, others, frame⟩ := markersGone_dropMarkers (s := (s.modPort p PortRec.reset).clearAttention p) (p := p) headed
    s.queue.length List.countP_le_length
  refine ⟨broken s p, congrArg Host.Outcome.next ?_, frame .ports (by decide), frame .attention (by decide), gone, others, ?_⟩
  · show s.portBreaks p = _
    rw [portBreaks_of_listening on open', ends]
    rfl
  · exact frame_then (frame_then (frame_mono (frame_modPort p _) (by decide)) (frame_clearAttention p) (by decide)) frame
      (by decide)

theorem restarted_radio (r : SeatRec) : r.restarted.radio = r.radio := by
  unfold SeatRec.restarted
  split <;> rfl

theorem exec_portBreak_restarting {r : Response} (on : s.ports[p].role ≠ .off) (open' : s.ports[p].inBreak = false)
    (response : s.ports[p].response = some r) (restarts : r.restarts = true) :
    ∃ t, exec (.portBreak p) s = .next t ∧ t.part = .starting ∧ t.clock = 0 ∧ t.initTimer = some 40 ∧
      t.ports[p] = s.ports[p].reset ∧ t.queue = [] ∧ t.alerts.roster = [] ∧ t.openFrames = [] ∧ t.strangers = [] ∧
      t.params = s.params ∧ (∀ q : PortId, t.attention[q] = false) ∧
      (∀ i : SeatId, t.seats[i].radio = s.seats[i].radio) := by
  have begins : s.ports[p].restarting = true := by
    unfold PortRec.restarting
    rw [response]
    exact restarts
  have frame : ChangesOnly (.ports :: queueBlocks) s (broken s p) :=
    frame_then (frame_then (frame_mono (frame_modPort p _) (by decide)) (frame_clearAttention p) (by decide))
      (frame_dropMarkers p _) (by decide)
  have kept : (broken s p).ports = s.ports.set p s.ports[p].reset := frame_dropMarkers p _ .ports (by decide)
  have seats : (broken s p).seats = s.seats := frame .seats (by decide)
  have params : (broken s p).params = s.params := frame .params (by decide)
  refine ⟨(broken s p).beginRestart, congrArg Host.Outcome.next ?_, rfl, rfl, rfl, ?_, rfl, rfl, rfl, rfl, ?_, fun q => ?_,
    fun i => ?_⟩
  · show s.portBreaks p = _
    rw [portBreaks_of_listening on open', begins]
    rfl
  · rw [beginRestart_port, kept, get_set_self]
    rfl
  · exact params
  · show noPorts[q] = false
    exact Vector.getElem_replicate _
  · rw [beginRestart_seat, restarted_radio, seats]

theorem exec_portBreakEnd (h : s.ports[p].inBreak = true) : exec (.portBreakEnd p) s = .next
    { s with ports := s.ports.set p { s.ports[p] with
      inBreak := false, lineActive := false, breakTimer := none, rx := .hunting } } :=
  congrArg Host.Outcome.next (if_pos h)

/-- Settles O12: a port break, one that cuts off a RESTART response, and the return of the held line. -/
theorem portBreaks : Obligations.PortBreaks :=
  ⟨fun _ _ on open' headed plain => exec_portBreak_plain on open' headed plain,
    fun _ _ _ on open' response restarts => exec_portBreak_restarting on open' response restarts,
    fun _ _ h => exec_portBreakEnd h⟩

/-! ## MARK -/

theorem markRequest_of_full (h : 24 ≤ s.queue.length) (p : PortId) : s.markRequest p = (.bare .queueFull, s) := if_pos h

theorem markRequest_of_limit (room : s.queue.length < 24) (h : 2 ≤ s.markerCount p) :
    s.markRequest p = (.bare .markLimit, s) := (if_neg (Nat.not_le.2 room)).trans (if_pos h)

theorem markRequest_of_room (room : s.queue.length < 24) (h : s.markerCount p < 2) :
    s.markRequest p = (.done [byte1 s.markers[p].next], s.placeMarker p) :=
  (if_neg (Nat.not_le.2 room)).trans (if_neg (Nat.not_le.2 h))

theorem placeMarker_of_some (h : s.queue ≠ []) (p : PortId) : s.placeMarker p =
    { s with
      queue := s.queue ++ [QEntry.marker p s.markers[p].next]
      markers := s.markers.set p { s.markers[p] with next := succMarker s.markers[p].next } } := by
  unfold State.placeMarker
  exact if_neg fun empty => h (List.isEmpty_iff.1 empty)

/-- The state in which the port's next marker has completed in an empty queue, before owed service. -/
def markCompleted (s : State) (p : PortId) : State :=
  { s with
    markers := s.markers.set p { next := succMarker s.markers[p].next, last := s.markers[p].next }
    attention := s.attention.set p true }

theorem placeMarker_of_empty (h : s.queue = []) (p : PortId) :
    s.placeMarker p = (markCompleted s p).serveOwed none := by
  have completed : (s.modMarkers p fun m => { m with next := succMarker s.markers[p].next }).completeMarker p
      s.markers[p].next = markCompleted s p := by
    rw [State.completeMarker, attend_port]
    unfold markCompleted
    simp only [State.modMarkers, set_set_self, get_set_self]
  unfold State.placeMarker
  rw [h]
  exact congrArg (State.serveOwed · none) completed

theorem exec_mark_placed (h : Admitted s p .mark) (room : s.queue.length < 24) (few : s.markerCount p < 2)
    (some : s.queue ≠ []) : exec (.mark p []) s = .next
      { s.answered p 0x15 .done [byte1 s.markers[p].next] with
        queue := s.queue ++ [QEntry.marker p s.markers[p].next]
        markers := s.markers.set p { s.markers[p] with next := succMarker s.markers[p].next } } := by
  have taken := exec_admitted (args := []) h rfl
  have acts : (s.setTag p .none).perform p s.ports[p].tag [] .mark =
      (.done [byte1 s.markers[p].next], (s.setTag p .none).placeMarker p) :=
    markRequest_of_room (s := s.setTag p .none) room few
  rw [acts, placeMarker_of_some (s := s.setTag p .none) some] at taken
  rw [← respond_setTag]
  exact taken

theorem exec_mark_completed (h : Admitted s p .mark) (empty : s.queue = []) :
    ∃ t, exec (.mark p []) s = .next t ∧ Answers s t p 0x15 .done [byte1 s.markers[p].next] ∧
      t.markers = s.markers.set p { next := succMarker s.markers[p].next, last := s.markers[p].next } ∧
      t.attention = s.attention.set p true ∧ t.noMarkerOf p ∧
      ChangesOnly [.queue, .syncs, .markers, .attention, .ports] s t := by
  have acts : (s.setTag p .none).perform p s.ports[p].tag [] .mark =
      (.done [byte1 s.markers[p].next], (s.setTag p .none).placeMarker p) := by
    refine markRequest_of_room (s := s.setTag p .none) ?_ ?_
    · rw [show (s.setTag p .none).queue = [] from empty]
      decide
    · rw [State.markerCount, show (s.setTag p .none).queue = [] from empty]
      exact Nat.zero_lt_two
  obtain ⟨taken, answers, changes⟩ := Unbinding.exec_done (args := []) h rfl acts (frame_placeMarker p) (by decide)
  have placed := placeMarker_of_empty (s := s.setTag p .none) empty p
  have served := frame_serveOwed (s := markCompleted (s.setTag p .none) p) none
  have gone : ((markCompleted (s.setTag p .none) p).serveOwed none).noMarkerOf p := fun n mem => by
    rw [marker_mem_serveOwed, show (markCompleted (s.setTag p .none) p).queue = [] from empty] at mem
    exact nomatch mem
  rw [← placed] at served gone
  generalize (s.setTag p .none).placeMarker p = u at *
  exact ⟨_, taken, answers, served .markers (by decide), served .attention (by decide), gone, frame_mono changes (by decide)⟩

theorem exec_mark_refused {c : Completion} (h : Admitted s p .mark)
    (acts : (s.setTag p .none).markRequest p = (.bare c, s.setTag p .none)) :
    exec (.mark p []) s = .next (s.answered p 0x15 c []) := exec_answered (args := []) h rfl acts

/-- Settles O29: MARK, refused, placed, or completed at once. -/
theorem markPlacesMarker : Obligations.MarkPlacesMarker := fun s p h =>
  ⟨fun full => exec_mark_refused h (markRequest_of_full (s := s.setTag p .none) full p),
    fun room limit => exec_mark_refused h (markRequest_of_limit (s := s.setTag p .none) room limit),
    fun room few some => exec_mark_placed h room few some, fun empty => exec_mark_completed h empty⟩

end Sys2Proof.Machine.QueueSteps
end

section
/-! PROOFS. Downlink slots and the confirmation window (R131 to R135, R139). -/

namespace Sys2Proof.Machine.QueueSteps

open Sys2Proof Sys2Proof.Machine Sys2Proof.Machine.Laws Sys2Proof.Machine.QueueOps Sys2Proof.Machine.SyncRecords
open Sys2Proof.Machine.SimpleCommands

variable {s t : State} {i j : SeatId} {l : LinkId} {p q : PortId} {skip : Option SeatId} {x : QEntry} {g : InFlight} {n : Nat}
variable {pre post rest : List QEntry}

/-! ## The choice for a slot -/

theorem reissueFor_eq_some {c : SeatId × InFlight} : s.reissueFor l x = some c ↔
    x = .sync c.1 (.inFlight c.2) ∧ c.2.reissueDue = true ∧ s.seats[c.1].bestLink = some l := by
  obtain ⟨i, g⟩ := c
  unfold State.reissueFor
  split
  next j h =>
    rw [Option.ite_none_right_eq_some, Bool.and_eq_true_iff, State.heardBestOn, beq_iff_eq]
    constructor
    · rintro ⟨⟨due, best⟩, same⟩
      injection same with same
      injection same with seat flight
      subst seat flight
      exact ⟨rfl, due, best⟩
    · rintro ⟨same, due, best⟩
      injection same with seat flight
      injection flight with flight
      subst seat flight
      exact ⟨⟨due, best⟩, rfl⟩
  next other => exact ⟨nofun, fun ⟨same, _⟩ => absurd same (other i g)⟩

theorem firstIssueFor_eq_some : s.firstIssueFor l x = some i ↔
    x = .sync i .queued ∧ s.seats[i].bestLink = some l ∧ ∀ g, QEntry.sync i (.inFlight g) ∉ s.queue := by
  unfold State.firstIssueFor
  split
  next j =>
    rw [Option.ite_none_right_eq_some, Bool.and_eq_true_iff, State.heardBestOn, beq_iff_eq, Option.isNone_iff_eq_none,
      inFlight_eq_none]
    constructor
    · rintro ⟨⟨best, grounded⟩, same⟩
      injection same with seat
      subst seat
      exact ⟨rfl, best, grounded⟩
    · rintro ⟨same, best, grounded⟩
      injection same with seat
      subst seat
      exact ⟨⟨best, grounded⟩, rfl⟩
  next other => exact ⟨nofun, fun ⟨same, _⟩ => absurd same (other i)⟩

/-- No reissue is due on the link. -/
theorem findSome_reissueFor_none (h : ∀ j g, QEntry.sync j (.inFlight g) ∈ s.queue → g.reissueDue = true →
    s.seats[j].bestLink ≠ some l) : s.queue.findSome? (s.reissueFor l) = none := by
  rw [List.findSome?_eq_none_iff]
  intro x hx
  rw [Option.eq_none_iff_forall_ne_some]
  intro c same
  obtain ⟨rfl, due, best⟩ := reissueFor_eq_some.1 same
  exact h c.1 c.2 hx due best

theorem findSome_reissueFor_some (split : s.queue = pre ++ .sync i (.inFlight g) :: post) (due : g.reissueDue = true)
    (best : s.seats[i].bestLink = some l)
    (first : ∀ j h, QEntry.sync j (.inFlight h) ∈ pre → h.reissueDue = true → s.seats[j].bestLink ≠ some l) :
    s.queue.findSome? (s.reissueFor l) = some (i, g) := by
  have ahead : pre.findSome? (s.reissueFor l) = none := by
    rw [List.findSome?_eq_none_iff]
    intro x hx
    rw [Option.eq_none_iff_forall_ne_some]
    intro c same
    obtain ⟨rfl, due, best⟩ := reissueFor_eq_some.1 same
    exact first c.1 c.2 hx due best
  have here : s.reissueFor l (.sync i (.inFlight g)) = some (i, g) := reissueFor_eq_some.2 ⟨rfl, due, best⟩
  rw [split, List.findSome?_append, ahead, List.findSome?_cons, here]
  rfl

theorem findSome_firstIssueFor_none (h : ∀ j, QEntry.sync j .queued ∈ s.queue →
    s.seats[j].bestLink ≠ some l ∨ ∃ g, QEntry.sync j (.inFlight g) ∈ s.queue) :
    s.queue.findSome? (s.firstIssueFor l) = none := by
  rw [List.findSome?_eq_none_iff]
  intro x hx
  rw [Option.eq_none_iff_forall_ne_some]
  intro j same
  obtain ⟨rfl, best, grounded⟩ := firstIssueFor_eq_some.1 same
  rcases h j hx with elsewhere | ⟨g, flying⟩
  · exact elsewhere best
  · exact grounded g flying

theorem findSome_firstIssueFor_some (split : s.queue = pre ++ .sync i .queued :: post) (best : s.seats[i].bestLink = some l)
    (grounded : ∀ g, QEntry.sync i (.inFlight g) ∉ s.queue)
    (first : ∀ j, QEntry.sync j .queued ∈ pre →
      s.seats[j].bestLink ≠ some l ∨ ∃ g, QEntry.sync j (.inFlight g) ∈ s.queue) :
    s.queue.findSome? (s.firstIssueFor l) = some i := by
  have ahead : pre.findSome? (s.firstIssueFor l) = none := by
    rw [List.findSome?_eq_none_iff]
    intro x hx
    rw [Option.eq_none_iff_forall_ne_some]
    intro j same
    obtain ⟨rfl, best, grounded⟩ := firstIssueFor_eq_some.1 same
    rcases first j hx with elsewhere | ⟨g, flying⟩
    · exact elsewhere best
    · exact grounded g flying
  have here : s.firstIssueFor l (.sync i .queued) = some i := firstIssueFor_eq_some.2 ⟨rfl, best, grounded⟩
  rw [split, List.findSome?_append, ahead, List.findSome?_cons, here]
  rfl

/-! ## A slot opens -/

/-- The slot timer of the link restarts. -/
def slotRestarted (s : State) (l : LinkId) : State := s.modLink l fun r => { r with slot := some 50 }

theorem exec_downlinkSlot (h : s.links[l].slot.isSome = true) :
    exec (.downlinkSlot l) s = .next ((slotRestarted s l).openSlot l) := by
  refine congrArg Host.Outcome.next ?_
  show s.slotExpires l = _
  unfold State.slotExpires
  split
  · rfl
  next none =>
    rw [none] at h
    exact nomatch h

theorem sent_links (s : State) (l : LinkId) (o : Order) :
    ((slotRestarted s l).modLink l fun r => { r with tx := some o }).links =
      s.links.set l { s.links[l] with slot := some 50, tx := some o } := by
  rw [modLink_links, slotRestarted, modLink_links, set_set_self, get_set_self]

theorem openSlot_of_reissue (h : s.queue.findSome? (s.reissueFor l) = some (i, g)) : s.openSlot l = s.reissue l i g := by
  unfold State.openSlot
  rw [h]

theorem openSlot_of_firstIssue (none : s.queue.findSome? (s.reissueFor l) = none)
    (h : s.queue.findSome? (s.firstIssueFor l) = some i) : s.openSlot l = s.firstIssue l i := by
  unfold State.openSlot
  rw [none]
  dsimp only
  rw [h]

theorem openSlot_of_none (noReissue : s.queue.findSome? (s.reissueFor l) = none)
    (noIssue : s.queue.findSome? (s.firstIssueFor l) = none) : s.openSlot l = s := by
  unfold State.openSlot
  rw [noReissue]
  dsimp only
  rw [noIssue]

theorem not_isInFlightOf (h : ∀ g, QEntry.sync i (.inFlight g) ∉ rest) : ∀ x ∈ rest, x.isInFlightOf i = false := by
  intro x hx
  rw [Bool.eq_false_iff]
  intro own
  obtain ⟨g, rfl⟩ := isInFlightOf_iff.1 own
  exact h g hx

theorem exec_reissue (running : s.links[l].slot.isSome = true) (split : s.queue = pre ++ .sync i (.inFlight g) :: post)
    (due : g.reissueDue = true) (best : s.seats[i].bestLink = some l)
    (first : ∀ j h, QEntry.sync j (.inFlight h) ∈ pre → h.reissueDue = true → s.seats[j].bestLink ≠ some l)
    (single : ∀ h, QEntry.sync i (.inFlight h) ∉ pre) : exec (.downlinkSlot l) s = .next
      { s with
        queue := pre ++
          QEntry.sync i (.inFlight { g with issues := g.issues + 1, window := some 600, reissueDue := false }) :: post
        links := s.links.set l { s.links[l] with
          slot := some 50, tx := some ⟨s.seats[i].radio.getD 0, g.tag, g.pattern, g.hold⟩ } } := by
  have chosen := findSome_reissueFor_some (s := slotRestarted s l) split due best first
  have replaced := replaceFirst_of_split (f := (·.isInFlightOf i)) (post := post)
    (.sync i (.inFlight { g with issues := g.issues + 1, window := some 600, reissueDue := false }))
    (not_isInFlightOf single) (isInFlightOf_self i g)
  rw [exec_downlinkSlot running, openSlot_of_reissue chosen, ← sent_links, ← replaced, ← split]
  rfl

theorem isQueuedOf_self (i : SeatId) : (QEntry.sync i .queued).isQueuedOf i = true := isQueuedOf_iff.2 rfl

/-- The first issue of the oldest QUEUED SYNC that may go (R131, R132). -/
theorem exec_firstIssue (running : s.links[l].slot.isSome = true) (split : s.queue = pre ++ .sync i .queued :: post)
    (best : s.seats[i].bestLink = some l)
    (none : ∀ j h, QEntry.sync j (.inFlight h) ∈ s.queue → h.reissueDue = true → s.seats[j].bestLink ≠ some l)
    (grounded : ∀ h, QEntry.sync i (.inFlight h) ∉ s.queue)
    (first : ∀ j, QEntry.sync j .queued ∈ pre →
      s.seats[j].bestLink ≠ some l ∨ ∃ h, QEntry.sync j (.inFlight h) ∈ s.queue) : exec (.downlinkSlot l) s = .next
      { s with
        queue := pre ++ QEntry.sync i (.inFlight
          { tag := s.syncs[i].orderTag + 1, pattern := s.mute[i].pattern, hold := s.mute[i].order, issues := 1,
            window := some 600, reissueDue := false }) :: post
        syncs := s.syncs.set i { s.syncs[i] with orderTag := s.syncs[i].orderTag + 1 }
        links := s.links.set l { s.links[l] with
          slot := some 50
          tx := some ⟨s.seats[i].radio.getD 0, s.syncs[i].orderTag + 1, s.mute[i].pattern, s.mute[i].order⟩ } } := by
  have chosen := findSome_firstIssueFor_some (s := slotRestarted s l) split best grounded first
  have ahead : ∀ x ∈ pre, x.isQueuedOf i = false := fun x hx => Bool.eq_false_iff.2 fun own => by
    rw [isQueuedOf_iff.1 own] at hx
    rcases first i hx with elsewhere | ⟨h, flying⟩
    · exact elsewhere best
    · exact grounded h flying
  have replaced := replaceFirst_of_split (f := (·.isQueuedOf i)) (post := post)
    (.sync i (.inFlight
      { tag := s.syncs[i].orderTag + 1, pattern := s.mute[i].pattern, hold := s.mute[i].order, issues := 1,
        window := some 600, reissueDue := false })) ahead (isQueuedOf_self i)
  rw [exec_downlinkSlot running,
    openSlot_of_firstIssue (findSome_reissueFor_none (s := slotRestarted s l) none) chosen, ← sent_links, ← replaced, ← split]
  rfl

theorem exec_idleSlot (running : s.links[l].slot.isSome = true)
    (none : ∀ j h, QEntry.sync j (.inFlight h) ∈ s.queue → h.reissueDue = true → s.seats[j].bestLink ≠ some l)
    (none' : ∀ j, QEntry.sync j .queued ∈ s.queue →
      s.seats[j].bestLink ≠ some l ∨ ∃ h, QEntry.sync j (.inFlight h) ∈ s.queue) :
    exec (.downlinkSlot l) s = .next { s with links := s.links.set l { s.links[l] with slot := some 50 } } := by
  rw [exec_downlinkSlot running, openSlot_of_none (findSome_reissueFor_none (s := slotRestarted s l) none)
    (findSome_firstIssueFor_none (s := slotRestarted s l) none')]
  rfl

/-! ## The confirmation window -/

theorem exec_syncWindow_due (split : s.queue = pre ++ .sync i (.inFlight g) :: post)
    (single : ∀ h, QEntry.sync i (.inFlight h) ∉ pre ++ post) (running : g.window.isSome = true) (few : g.issues < 3) :
    exec (.syncWindowExpiry i) s = .next
      { s with queue := pre ++ QEntry.sync i (.inFlight { g with window := none, reissueDue := true }) :: post } := by
  have before (h) : QEntry.sync i (.inFlight h) ∉ pre := fun mem => single h (List.mem_append_left _ mem)
  have replaced := replaceFirst_of_split (f := (·.isInFlightOf i)) (post := post)
    (.sync i (.inFlight { g with window := none, reissueDue := true })) (not_isInFlightOf before) (isInFlightOf_self i g)
  refine congrArg Host.Outcome.next ?_
  show s.syncWindowExpires i = _
  unfold State.syncWindowExpires
  rw [inFlight_of_split split before]
  obtain ⟨w, window⟩ := Option.isSome_iff_exists.1 running
  dsimp only
  rw [window]
  dsimp only
  rw [if_pos (show g.issues < Config.maxIssues from few), split, replaced]

/-- The state when the SYNC of the seat has failed and left the queue, before the steps of R130. -/
def syncFailed (s : State) (i : SeatId) (rest : List QEntry) : State :=
  { s with queue := rest, syncs := s.syncs.set i { s.syncs[i] with stalled := true } }

theorem exec_syncWindow_fails (split : s.queue = pre ++ .sync i (.inFlight g) :: post)
    (single : ∀ h, QEntry.sync i (.inFlight h) ∉ pre ++ post) (running : g.window.isSome = true) (spent : 3 ≤ g.issues) :
    exec (.syncWindowExpiry i) s = .next (State.afterLeave none (pre ++ post).length (syncFailed s i (pre ++ post))) := by
  have before (h) : QEntry.sync i (.inFlight h) ∉ pre := fun mem => single h (List.mem_append_left _ mem)
  have ahead : ∀ x ∈ pre, ¬x.isInFlightOf i = true := fun x hx => Bool.eq_false_iff.1 (not_isInFlightOf before x hx)
  have left : s.queue.eraseP (·.isInFlightOf i) = pre ++ post := by
    rw [split, List.eraseP_append_right _ ahead, List.eraseP_cons_of_pos (isInFlightOf_self i g)]
  have here : s.queue.any (·.isInFlightOf i) = true :=
    List.any_eq_true.2 ⟨_, split ▸ List.mem_append_right _ List.mem_cons_self, isInFlightOf_self i g⟩
  refine congrArg Host.Outcome.next ?_
  show s.syncWindowExpires i = _
  unfold State.syncWindowExpires
  rw [inFlight_of_split split before]
  obtain ⟨w, window⟩ := Option.isSome_iff_exists.1 running
  dsimp only
  rw [window]
  dsimp only
  rw [if_neg (show ¬g.issues < Config.maxIssues from Nat.not_lt.2 spent), ← left]
  exact if_pos here

/-- No owed flag is set that was not set before. -/
def OwesAtMost (s t : State) : Prop := ∀ j : SeatId, t.syncs[j].owed = true → s.syncs[j].owed = true

theorem owesAtMost_serveOwed (h : OwesAtMost s t) (skip : Option SeatId) : OwesAtMost s (t.serveOwed skip) := by
  refine serveOwed_cases (motive := OwesAtMost s) t skip (fun _ => h) fun i may _ j owed => ?_
  by_cases same : j = i
  · subst same
    exact h j ((owedSeat_iff t skip j).1 may).2.1
  · rw [requestSync_sync_ne same] at owed
    exact h j owed

theorem owesAtMost_afterLeave (h : OwesAtMost s t) (skip : Option SeatId) (fuel : Nat) :
    OwesAtMost s (State.afterLeave skip fuel t) :=
  afterLeave_induction (P := OwesAtMost s) (fun _ k => owesAtMost_serveOwed k skip) (fun _ _ _ _ _ k => k) fuel h

theorem keepsOrders_afterLeave (skip : Option SeatId) (fuel : Nat) : KeepsOrders s (State.afterLeave skip fuel s) :=
  afterLeave_induction (P := KeepsOrders s) (fun _ k => k.trans (keepsOrders_serveOwed skip))
    (fun _ _ _ _ _ k => k.trans (keepsOrders_of_syncs rfl)) fuel keepsOrders_refl

/-- Every IN_FLIGHT SYNC in the queue is one of these. -/
def FliesAtMost (q : List QEntry) (t : State) : Prop := ∀ j g, QEntry.sync j (.inFlight g) ∈ t.queue → QEntry.sync j (.inFlight g) ∈ q

theorem fliesAtMost_afterLeave (h : FliesAtMost rest t) (skip : Option SeatId) (fuel : Nat) :
    FliesAtMost rest (State.afterLeave skip fuel t) := by
  refine afterLeave_induction (P := FliesAtMost rest) (fun u k j g mem => k j g ?_) (fun u p n more queue k j g mem => k j g ?_)
    fuel h
  · rcases serveOwed_queue u skip with same | ⟨i, added⟩
    · rwa [same] at mem
    · rw [added, List.mem_append, List.mem_singleton] at mem
      exact mem.resolve_right nofun
  · rw [queue]
    exact .tail _ mem

theorem mayBeServed_iff (s : State) (rest : List QEntry) (i j : SeatId) :
    (syncFailed s i rest).owedSeat none j = true ↔ MayBeServed s rest j := by
  have owed : (syncFailed s i rest).syncs[j].owed = s.syncs[j].owed := by
    show (s.syncs.set i { s.syncs[i] with stalled := true })[j].owed = _
    by_cases same : j = i
    · subst same
      rw [get_set_self]
    · rw [get_set_ne _ same]
  rw [owedSeat_iff, owed]
  exact ⟨fun ⟨active, owes, free, _⟩ => ⟨active, owes, free⟩, fun ⟨active, owes, free⟩ => ⟨active, owes, free, nofun⟩⟩

theorem serveOwed_of_none (h : ∀ j, s.owedSeat skip j = false) : s.serveOwed skip = s :=
  serveOwed_cases (motive := fun t => t = s) s skip (fun _ => rfl) fun i may _ => absurd may (by rw [h i]; nofun)

/-- Owed service goes to the lowest-numbered seat that qualifies (R130). -/
theorem serveOwed_of_first (h : s.owedSeat skip j = true) (first : ∀ k, k < j → s.owedSeat skip k = false) :
    s.serveOwed skip = s.requestSync j := by
  refine serveOwed_cases (motive := fun t => t = s.requestSync j) s skip (fun none => absurd h (by rw [none j]; nofun))
    fun i may lowest => ?_
  rcases lt_trichotomy i j with below | same | above
  · exact absurd may (by rw [first i below]; nofun)
  · rw [same]
  · exact absurd h (by rw [lowest j above]; nofun)

theorem requestSync_of_room (active : s.seats[i].state = .active) (none : QEntry.sync i .queued ∉ s.queue)
    (room : s.queue.length < 24) : s.requestSync i =
      ({ s with queue := s.queue ++ [QEntry.sync i .queued] }).modSync i fun y => { y with owed := false } :=
  requestSync_cases (motive := fun t => t = _) s i (fun other => absurd active other) (fun _ held => absurd held none)
    (fun _ _ full => absurd full (Nat.not_le.2 room)) fun _ _ _ => rfl

/-- Owed service behind a failed SYNC. -/
theorem serveOwed_syncFailed (s : State) (i : SeatId) (rest : List QEntry) (room : rest.length < 24) :
    ((∀ j, ¬MayBeServed s rest j) → ((syncFailed s i rest).serveOwed none).queue = rest ∧
      ∀ j : SeatId, ((syncFailed s i rest).serveOwed none).syncs[j].owed = s.syncs[j].owed) ∧
    (∀ j, MayBeServed s rest j → (∀ k, k < j → ¬MayBeServed s rest k) →
      ((syncFailed s i rest).serveOwed none).queue = rest ++ [QEntry.sync j .queued] ∧
      ((syncFailed s i rest).serveOwed none).syncs[j].owed = false) := by
  have idle (k) (h : ¬MayBeServed s rest k) : (syncFailed s i rest).owedSeat none k = false :=
    Bool.eq_false_iff.2 fun may => h ((mayBeServed_iff s rest i k).1 may)
  refine ⟨fun no => ?_, fun j may first => ?_⟩
  · rw [serveOwed_of_none fun k => idle k (no k)]
    refine ⟨rfl, fun j => ?_⟩
    show (s.syncs.set i { s.syncs[i] with stalled := true })[j].owed = _
    by_cases same : j = i
    · subst same
      rw [get_set_self]
    · rw [get_set_ne _ same]
  · rw [serveOwed_of_first ((mayBeServed_iff s rest i j).2 may) fun k below => idle k (first k below)]
    obtain ⟨active, -, none⟩ := may
    rw [requestSync_of_room (s := syncFailed s i rest) active none room]
    refine ⟨rfl, ?_⟩
    rw [modSync_syncs, get_set_self]

/-- What a failed SYNC leaves (R130, R135, R139). -/
theorem exec_syncWindow_spent (split : s.queue = pre ++ .sync i (.inFlight g) :: post)
    (single : ∀ h, QEntry.sync i (.inFlight h) ∉ pre ++ post) (running : g.window.isSome = true) (spent : 3 ≤ g.issues) :
    ∃ t, exec (.syncWindowExpiry i) s = .next t ∧ t.syncs[i].stalled = true ∧
      (∀ j : SeatId, t.syncs[j].confirmed = s.syncs[j].confirmed ∧ t.syncs[j].orderTag = s.syncs[j].orderTag ∧
        (t.syncs[j].owed = true → s.syncs[j].owed = true) ∧
        (j ≠ i → t.syncs[j].stalled = s.syncs[j].stalled)) ∧
      (∀ h, QEntry.sync i (.inFlight h) ∉ t.queue) ∧
      ((∀ p n rest, pre ++ post ≠ QEntry.marker p n :: rest) → s.queue.length ≤ 24 →
        t.markers = s.markers ∧ t.attention = s.attention ∧
        ((∀ j, ¬MayBeServed s (pre ++ post) j) → t.queue = pre ++ post ∧ ∀ j : SeatId, t.syncs[j].owed = s.syncs[j].owed) ∧
        (∀ j, MayBeServed s (pre ++ post) j → (∀ k, k < j → ¬MayBeServed s (pre ++ post) k) →
          t.queue = pre ++ post ++ [QEntry.sync j .queued] ∧ t.syncs[j].owed = false)) ∧
      (∀ p n rest, pre = [] → post = QEntry.marker p n :: rest → (∀ q m more, rest ≠ QEntry.marker q m :: more) →
        t.markers = s.markers.set p { s.markers[p] with last := n } ∧ t.attention = s.attention.set p true) ∧
      ChangesOnly [.queue, .syncs, .markers, .attention] s t := by
  refine ⟨_, exec_syncWindow_fails split single running spent, ?_, fun j => ?_, fun h mem => ?_, fun headed much => ?_,
    fun p n rest empty head headed => ?_, ?_⟩
  · obtain ⟨-, -, stalled⟩ := keepsOrders_afterLeave (s := syncFailed s i (pre ++ post)) none (pre ++ post).length i
    rw [stalled]
    show (s.syncs.set i { s.syncs[i] with stalled := true })[i].stalled = true
    rw [get_set_self]
  · obtain ⟨confirmed, tag, stalled⟩ := keepsOrders_afterLeave (s := syncFailed s i (pre ++ post)) none (pre ++ post).length j
    have kept (other : j ≠ i) : (syncFailed s i (pre ++ post)).syncs[j] = s.syncs[j] := get_set_ne _ other _
    have fields : (syncFailed s i (pre ++ post)).syncs[j].confirmed = s.syncs[j].confirmed ∧
        (syncFailed s i (pre ++ post)).syncs[j].orderTag = s.syncs[j].orderTag ∧
        (syncFailed s i (pre ++ post)).syncs[j].owed = s.syncs[j].owed := by
      by_cases same : j = i
      · subst same
        have here : (syncFailed s j (pre ++ post)).syncs[j] = { s.syncs[j] with stalled := true } := get_set_self _ _ _
        rw [here]
        exact ⟨rfl, rfl, rfl⟩
      · rw [kept same]
        exact ⟨rfl, rfl, rfl⟩
    obtain ⟨sameConfirmed, sameTag, sameOwed⟩ := fields
    refine ⟨confirmed.trans sameConfirmed, tag.trans sameTag, fun owed => ?_, fun other => stalled.trans ?_⟩
    · have before : OwesAtMost (syncFailed s i (pre ++ post)) (syncFailed s i (pre ++ post)) := fun _ h => h
      exact sameOwed ▸ owesAtMost_afterLeave before none _ j owed
    · rw [kept other]
  · have flies : FliesAtMost (pre ++ post) (syncFailed s i (pre ++ post)) := fun _ _ h => h
    exact single h (fliesAtMost_afterLeave flies none _ i h mem)
  · have room : (pre ++ post).length < 24 := by
      rw [split, List.length_append, List.length_cons] at much
      rw [List.length_append]
      omega
    rw [afterLeave_of_headed (s := syncFailed s i (pre ++ post)) headed]
    obtain ⟨idle, served⟩ := serveOwed_syncFailed s i (pre ++ post) room
    have frame := frame_serveOwed (s := syncFailed s i (pre ++ post)) none
    exact ⟨frame .markers (by decide), frame .attention (by decide), idle, served⟩
  · subst empty head
    rw [List.nil_append, List.length_cons,
      afterLeave_of_marker (s := syncFailed s i (.marker p n :: rest)) rfl headed]
    have frame : ChangesOnly [.queue, .syncs] ({ syncFailed s i (.marker p n :: rest) with queue := rest }.completeMarker p n)
        ((({ syncFailed s i (.marker p n :: rest) with queue := rest }.completeMarker p n).serveOwed none).serveOwed none) :=
      frame_trans (frame_serveOwed none) (frame_serveOwed none)
    refine ⟨frame .markers (by decide), (frame .attention (by decide)).trans ?_⟩
    rw [State.completeMarker, attend_port]
    rfl
  · have failed : ChangesOnly queueBlocks s (syncFailed s i (pre ++ post)) := by
      intro b hb
      cases b
      case queue => exact absurd (by decide) hb
      case syncs => exact absurd (by decide) hb
      all_goals rfl
    exact frame_mono (frame_trans failed (frame_afterLeave none _)) (by decide)

/-- Settles O27: what a slot sends, and what an expired confirmation window leaves. -/
theorem slotsIssueOrders : Obligations.SlotsIssueOrders :=
  ⟨fun _ _ _ _ _ _ running split due best first single => exec_reissue running split due best first single,
    fun _ _ _ _ _ running split best none grounded first => exec_firstIssue running split best none grounded first,
    fun _ _ running none none' => exec_idleSlot running none none', fun _ _ => rfl,
    fun _ _ _ _ _ split single running => ⟨fun few => exec_syncWindow_due split single running few,
      fun spent => exec_syncWindow_spent split single running spent⟩⟩

end Sys2Proof.Machine.QueueSteps
end

section
/-! PROOFS. COPY frames in the Merge Unit (R42 to R48). -/

namespace Sys2Proof.Machine.Copies

open Sys2Proof Sys2Proof.Machine Sys2Proof.Machine.Laws Sys2Proof.Machine.SeatWork Sys2Proof.Machine.AntennaLinks Sys2Proof.Machine.TableMoves

variable {s t u g : State} {l m : LinkId} {o x : OpenFrame} {k : FrameKey} {payload : MicPayload} {raw : Byte}
variable {pre post rest : List OpenFrame} {strength : Int}

/-! ## The open-frame table -/

/-- The state with an open frame more, at the tail of the table. -/
def opened (s : State) (o : OpenFrame) : State := { s with openFrames := s.openFrames ++ [o] }

theorem stands_opened (fresh : ∀ x ∈ s.openFrames, OpenFrame.key x ≠ OpenFrame.key o) : Stands (opened s o) o := by
  refine ⟨List.mem_append_right _ List.mem_cons_self, fun x hx same => ?_⟩
  rcases List.mem_append.1 hx with old | new
  · exact absurd same (fresh x old)
  · exact List.mem_singleton.1 new

theorem openFrame?_of_fresh (fresh : ∀ x ∈ s.openFrames, OpenFrame.key x ≠ k) : s.openFrame? k = none :=
  List.find?_eq_none.2 fun x hx same => fresh x hx (beq_iff_eq.1 same)

theorem complete_iff : s.complete o = true ↔ ∀ m : LinkId, s.links[m].state = .up → m ∈ o.heard := by
  unfold State.complete
  rw [List.all_eq_true]
  refine ⟨fun all m up => ?_, fun all m _ => ?_⟩
  · have here := all m (List.mem_finRange m)
    rw [up, Bool.or_eq_true_iff] at here
    exact List.contains_iff_mem.1 (here.resolve_left nofun)
  · rw [Bool.or_eq_true_iff, bne_iff_ne, List.contains_iff_mem]
    exact or_iff_not_imp_left.2 fun up => all m (Decidable.not_not.1 up)

theorem testComplete_of_missing (h : Stands s o) (missing : ∃ m : LinkId, s.links[m].state = .up ∧ m ∉ o.heard) :
    s.testComplete (OpenFrame.key o) = s := by
  obtain ⟨m, up, absent⟩ := missing
  unfold State.testComplete
  rw [openFrame?_of_stands h]
  exact if_neg fun complete => absent (complete_iff.1 complete m up)

theorem testComplete_of_complete (h : Stands s o) (all : ∀ m : LinkId, s.links[m].state = .up → m ∈ o.heard) :
    s.testComplete (OpenFrame.key o) = s.settle o := by
  unfold State.testComplete
  rw [openFrame?_of_stands h]
  exact if_pos (complete_iff.2 all)

/-! ## Settling -/

theorem settledFrame_state (s : State) (f : Settled) (m : LinkId) : (s.settledFrame f).links[m].state = s.links[m].state := by
  unfold State.settledFrame
  split
  · rfl
  · split
    next i _ =>
      obtain ⟨n, same⟩ := (atSeat_seatFrame (s := s) (i := i) (f := f.read)).links m
      rw [same]
    · exact congrArg (fun w : Vector LinkRec 6 => w[m].state) (frame_strangerFrame f .links (by decide))

theorem settle_state (s : State) (o : OpenFrame) (m : LinkId) : (s.settle o).links[m].state = s.links[m].state :=
  settledFrame_state _ _ m

theorem forceOldest_of_room (h : s.openFrames.length < 16) : s.forceOldest = s := by
  unfold State.forceOldest
  split
  · exact if_neg (Nat.not_le.2 h)
  · rfl

theorem forceOldest_of_full (h : s.openFrames.length = 16) (head : s.openFrames.head? = some o) :
    s.forceOldest = s.settle o := by
  unfold State.forceOldest
  split
  next x rest frames =>
    rw [frames] at head
    rw [← Option.some.inj head]
    exact if_pos h.ge
  next frames =>
    rw [frames] at head
    exact nomatch head

theorem forceOldest_state (s : State) (m : LinkId) : s.forceOldest.links[m].state = s.links[m].state := by
  unfold State.forceOldest
  split
  · split
    · exact settle_state s _ m
    · rfl
  · rfl

theorem mem_of_mem_forceOldest (h : x ∈ s.forceOldest.openFrames) : x ∈ s.openFrames := by
  unfold State.forceOldest at h
  split at h
  · split at h
    · rw [settle_openFrames] at h
      exact (List.mem_filter.1 h).1
    · exact h
  · exact h

theorem settle_head_openFrames (head : s.openFrames.head? = some o) (nodup : (s.openFrames.map OpenFrame.key).Nodup) :
    (s.settle o).openFrames = s.openFrames.drop 1 := by
  obtain ⟨rest, frames⟩ := List.head?_eq_some_iff.1 head
  rw [settle_openFrames, frames, List.filter_cons_of_neg (by rw [bne_self_eq_false]; nofun)]
  rw [frames, List.map_cons, List.nodup_cons] at nodup
  refine List.filter_eq_self.2 fun x hx => bne_iff_ne.2 fun same => nodup.1 ?_
  exact same ▸ List.mem_map_of_mem hx

theorem stands_head (head : s.openFrames.head? = some o) (nodup : (s.openFrames.map OpenFrame.key).Nodup) : Stands s o := by
  have mem : o ∈ s.openFrames := List.mem_of_head? head
  exact ⟨mem, fun x hx same => List.inj_on_of_nodup_map nodup hx mem same⟩

/-! ## A copy that opens a frame -/

/-- The open frame that a copy on the link opens (R43). -/
def newFrame (s : State) (l : LinkId) (payload : MicPayload) (raw : Byte) : OpenFrame :=
  newOpenFrame payload l (correctedStrength raw.toInt s.links[l].offset) s.params.mergeWindow

theorem copyArrives_of_fresh (fresh : ∀ o ∈ s.openFrames, OpenFrame.key o ≠ MicPayload.key payload) (l : LinkId)
    (strength : Int) : s.copyArrives payload l strength =
      (opened s.forceOldest (newOpenFrame payload l strength s.params.mergeWindow)).testComplete (MicPayload.key payload) := by
  have params : s.forceOldest.params = s.params := frame_forceOldest .params (by decide)
  unfold State.copyArrives
  dsimp only
  rw [openFrame?_of_fresh fresh, ← params]
  rfl

/-- What a copy that opens a frame leaves before the outputs: the new frame stands open while another link is UP, and
settles else (R43, R47). -/
theorem copyArrives_opens (fresh : ∀ o ∈ s.openFrames, OpenFrame.key o ≠ MicPayload.key payload) (strength : Int) :
    ((∃ m : LinkId, m ≠ l ∧ s.links[m].state = .up) → s.copyArrives payload l strength =
      opened s.forceOldest (newOpenFrame payload l strength s.params.mergeWindow)) ∧
    ((∀ m : LinkId, m ≠ l → s.links[m].state ≠ .up) → s.copyArrives payload l strength =
      (opened s.forceOldest (newOpenFrame payload l strength s.params.mergeWindow)).settle
        (newOpenFrame payload l strength s.params.mergeWindow)) := by
  rw [copyArrives_of_fresh fresh]
  have stands : Stands (opened s.forceOldest (newOpenFrame payload l strength s.params.mergeWindow))
      (newOpenFrame payload l strength s.params.mergeWindow) :=
    stands_opened fun x hx => fresh x (mem_of_mem_forceOldest hx)
  refine ⟨fun ⟨m, other, up⟩ => testComplete_of_missing stands ⟨m, ?_, fun heard => other (List.mem_singleton.1 heard)⟩,
    fun none => testComplete_of_complete stands fun m up => ?_⟩
  · exact (forceOldest_state s m).trans up
  · by_cases same : m = l
    · exact List.mem_singleton.2 same
    · exact absurd ((forceOldest_state s m).symm.trans up) (none m same)

theorem exec_copy (h : s.linkHears l = true) (payload : MicPayload) (raw : Byte) : exec (.copy l payload raw) s = .next
    ((s.goodFrame l).copyArrives payload l (correctedStrength raw.toInt s.links[l].offset)).evalOutputs :=
  congrArg Host.Outcome.next (if_pos h)

theorem hears_of_up (ready : s.part = .ready) (up : s.links[l].state = .up) : s.linkHears l = true :=
  (linkHears_iff s l).2 ⟨ready, .inr (.inl up)⟩

/-- The silence timer of an UP link restarts (R28). -/
def silenceRestarted (s : State) (l : LinkId) : State :=
  { s with links := s.links.set l { s.links[l] with silence := some 15 } }

theorem goodFrame_up (up : s.links[l].state = .up) : s.goodFrame l = silenceRestarted s l := goodFrame_of_up up

theorem silenceRestarted_state (s : State) (l m : LinkId) : (silenceRestarted s l).links[m].state = s.links[m].state := by
  show (s.links.set l { s.links[l] with silence := some 15 })[m].state = _
  by_cases same : m = l
  · subst same
    rw [get_set_self]
  · rw [get_set_ne _ same]

theorem frame_silenceRestarted (l : LinkId) : ChangesOnly [.links] s (silenceRestarted s l) :=
  frame_modLink l fun r => { r with silence := some 15 }

theorem frame_opened (o : OpenFrame) : ChangesOnly [.openFrames] s (opened s o) := by
  intro b hb
  cases b
  case openFrames => exact absurd (by decide) hb
  all_goals rfl

/-- A copy on an UP link that opens a frame, and another link is UP. -/
theorem exec_copy_open (ready : s.part = .ready) (up : s.links[l].state = .up)
    (fresh : ∀ o ∈ s.openFrames, OpenFrame.key o ≠ MicPayload.key payload)
    (other : ∃ m : LinkId, m ≠ l ∧ s.links[m].state = .up) : exec (.copy l payload raw) s = .next
      (opened (silenceRestarted s l).forceOldest (newFrame s l payload raw)).evalOutputs := by
  obtain ⟨m, ne, upHere⟩ := other
  rw [exec_copy (hears_of_up ready up), goodFrame_up up]
  refine congrArg (fun t => Host.Outcome.next (State.evalOutputs t)) ?_
  exact (copyArrives_opens (s := silenceRestarted s l) fresh _).1 ⟨m, ne, (silenceRestarted_state s l m).trans upHere⟩

/-- A copy on the only UP link that opens a frame. -/
theorem exec_copy_settle (ready : s.part = .ready) (up : s.links[l].state = .up)
    (fresh : ∀ o ∈ s.openFrames, OpenFrame.key o ≠ MicPayload.key payload)
    (alone : ∀ m : LinkId, m ≠ l → s.links[m].state ≠ .up) : exec (.copy l payload raw) s = .next
      ((opened (silenceRestarted s l).forceOldest (newFrame s l payload raw)).settle (newFrame s l payload raw)).evalOutputs := by
  rw [exec_copy (hears_of_up ready up), goodFrame_up up]
  refine congrArg (fun t => Host.Outcome.next (State.evalOutputs t)) ?_
  refine (copyArrives_opens (s := silenceRestarted s l) fresh _).2 fun m ne => ?_
  rw [silenceRestarted_state]
  exact alone m ne

/-- A frame that settles at once settles as its merge window's expiry would settle it. -/
theorem exec_window_opened (fresh : ∀ o ∈ t.openFrames, OpenFrame.key o ≠ MicPayload.key payload) :
    exec (.mergeWindowExpiry (MicPayload.key payload)) (opened t (newFrame s l payload raw)) = .next
      ((opened t (newFrame s l payload raw)).settle (newFrame s l payload raw)).evalOutputs :=
  exec_windowExpiry (o := newFrame s l payload raw) (stands_opened fresh)

theorem exec_copy_room (ready : s.part = .ready) (up : s.links[l].state = .up)
    (fresh : ∀ o ∈ s.openFrames, OpenFrame.key o ≠ MicPayload.key payload)
    (other : ∃ m : LinkId, m ≠ l ∧ s.links[m].state = .up) (room : s.openFrames.length < 16) :
    ∃ t, exec (.copy l payload raw) s = .next t ∧ t.openFrames = s.openFrames ++ [newFrame s l payload raw] ∧
      t.links = s.links.set l { s.links[l] with silence := some 15 } ∧
      ChangesOnly [.openFrames, .links, .reminders, .lamps] s t := by
  refine ⟨_, exec_copy_open ready up fresh other, ?_⟩
  rw [forceOldest_of_room (s := silenceRestarted s l) room]
  have out := frame_evalOutputs (s := opened (silenceRestarted s l) (newFrame s l payload raw))
  refine ⟨out .openFrames (by decide), out .links (by decide), ?_⟩
  exact frame_then (frame_then (frame_mono (frame_silenceRestarted l) (by decide)) (frame_opened _) (by decide)) out (by decide)

/-! ## A copy on a link that is not UP -/

theorem hears_of_down (ready : s.part = .ready) (down : s.links[l].state = .down ∨ s.links[l].state = .silent) :
    s.linkHears l = true := (linkHears_iff s l).2 ⟨ready, down.imp id .inr⟩

theorem not_up_of_down (down : s.links[l].state = .down ∨ s.links[l].state = .silent) : s.links[l].state ≠ .up := by
  rcases down with down | silent
  · rw [down]
    nofun
  · rw [silent]
    nofun

theorem goodFrame_link_ne (down : s.links[l].state ≠ .up) (ne : m ≠ l) : (s.goodFrame l).links[m] = s.links[m] := by
  rw [goodFrame_links_of_not_up down, get_set_ne _ ne]

theorem exec_copy_brought (ready : s.part = .ready) (down : s.links[l].state = .down ∨ s.links[l].state = .silent)
    (fresh : ∀ o ∈ s.openFrames, OpenFrame.key o ≠ MicPayload.key payload)
    (other : ∃ m : LinkId, m ≠ l ∧ s.links[m].state = .up) (room : s.openFrames.length < 16) :
    ∃ t, exec (.copy l payload raw) s = .next t ∧ t.openFrames = s.openFrames ++ [newFrame s l payload raw] ∧
      t.links = s.links.set l { s.links[l] with state := .up, silence := some 15, slot := some 50 } ∧
      ChangesOnly [.openFrames, .links, .signal, .alerts, .attention, .reminders, .lamps] s t := by
  obtain ⟨m, ne, up⟩ := other
  have notUp := not_up_of_down down
  have good := frame_goodFrame (s := s) l
  have links := goodFrame_links_of_not_up notUp
  have frames : (s.goodFrame l).openFrames = s.openFrames := good .openFrames (by decide)
  have params : (s.goodFrame l).params = s.params := good .params (by decide)
  have upHere : (s.goodFrame l).links[m].state = .up := by rw [goodFrame_link_ne notUp ne, up]
  have arrives := (copyArrives_opens (s := s.goodFrame l) (l := l) (payload := payload) (by rw [frames]; exact fresh)
    (correctedStrength raw.toInt s.links[l].offset)).1 ⟨m, ne, upHere⟩
  rw [params, forceOldest_of_room (by rw [frames]; exact room)] at arrives
  have taken := exec_copy (hears_of_down ready down) payload raw
  rw [arrives] at taken
  generalize s.goodFrame l = g at *
  have out := frame_evalOutputs (s := opened g (newFrame s l payload raw))
  refine ⟨_, taken, (out .openFrames (by decide)).trans (congrArg (· ++ [newFrame s l payload raw]) frames),
    (out .links (by decide)).trans links, ?_⟩
  exact frame_then (frame_then (frame_mono good (by decide)) (frame_opened _) (by decide)) out (by decide)

/-! ## A copy into a full table -/

theorem exec_copy_full (ready : s.part = .ready) (up : s.links[l].state = .up)
    (fresh : ∀ o ∈ s.openFrames, OpenFrame.key o ≠ MicPayload.key payload)
    (other : ∃ m : LinkId, m ≠ l ∧ s.links[m].state = .up) (full : s.openFrames.length = 16)
    (head : s.openFrames.head? = some o) (nodup : (s.openFrames.map OpenFrame.key).Nodup) :
    exec (.copy l payload raw) s = .next { ((silenceRestarted s l).settle o).evalOutputs with
      openFrames := s.openFrames.drop 1 ++ [newFrame s l payload raw] } := by
  have frames : ((silenceRestarted s l).settle o).openFrames = s.openFrames.drop 1 :=
    settle_head_openFrames (s := silenceRestarted s l) head nodup
  rw [exec_copy_open ready up fresh other, forceOldest_of_full (s := silenceRestarted s l) full head, ← frames]
  rfl

theorem exec_copy_full_alone (ready : s.part = .ready) (up : s.links[l].state = .up)
    (fresh : ∀ o ∈ s.openFrames, OpenFrame.key o ≠ MicPayload.key payload)
    (alone : ∀ m : LinkId, m ≠ l → s.links[m].state ≠ .up) (full : s.openFrames.length = 16)
    (head : s.openFrames.head? = some o) (nodup : (s.openFrames.map OpenFrame.key).Nodup) :
    exec (.copy l payload raw) s = exec (.mergeWindowExpiry (MicPayload.key payload))
      { ((silenceRestarted s l).settle o).evalOutputs with
        reminders := s.reminders, lamps := s.lamps, openFrames := s.openFrames.drop 1 ++ [newFrame s l payload raw] } := by
  have frames : ((silenceRestarted s l).settle o).openFrames = s.openFrames.drop 1 :=
    settle_head_openFrames (s := silenceRestarted s l) head nodup
  have frame : ChangesOnly settleBlocks (silenceRestarted s l) ((silenceRestarted s l).settle o) := frame_settle o
  have reminders : ((silenceRestarted s l).settle o).reminders = s.reminders := frame .reminders (by decide)
  have lamps : ((silenceRestarted s l).settle o).lamps = s.lamps := frame .lamps (by decide)
  have left : ∀ x ∈ ((silenceRestarted s l).settle o).openFrames, OpenFrame.key x ≠ MicPayload.key payload := fun x hx =>
    fresh x (List.mem_of_mem_drop (frames ▸ hx))
  rw [exec_copy_settle ready up fresh alone, forceOldest_of_full (s := silenceRestarted s l) full head,
    ← exec_window_opened left, ← frames, ← reminders, ← lamps]
  rfl

/-! ## A link that a copy brings UP -/

theorem silenceRestarted_of_fresh (h : s.links[l].silence = some 15) : silenceRestarted s l = s := by
  have same : s.links.set l { s.links[l] with silence := some 15 } = s.links := by
    rw [← h]
    exact Vector.set_getElem_self _
  unfold silenceRestarted
  rw [same]

/-- A copy on a link that a good frame has just brought UP is that copy on the link as it was. -/
theorem exec_copy_goodFrame (ready : s.part = .ready) (down : s.links[l].state = .down ∨ s.links[l].state = .silent)
    (payload : MicPayload) (raw : Byte) : exec (.copy l payload raw) s = exec (.copy l payload raw) (s.goodFrame l) := by
  have links := goodFrame_links_of_not_up (not_up_of_down down)
  have here : (s.goodFrame l).links[l] = { s.links[l] with state := .up, silence := some 15, slot := some 50 } := by
    rw [links, get_set_self]
  have part : (s.goodFrame l).part = .ready := (frame_goodFrame (s := s) l .part (by decide)).trans ready
  have up : (s.goodFrame l).links[l].state = .up := by rw [here]
  have silence : (s.goodFrame l).links[l].silence = some 15 := by rw [here]
  have offset : (s.goodFrame l).links[l].offset = s.links[l].offset := by rw [here]
  rw [exec_copy (hears_of_down ready down), exec_copy (hears_of_up part up), goodFrame_up up,
    silenceRestarted_of_fresh silence, offset]

theorem exec_copy_status (ready : s.part = .ready) (down : s.links[l].state = .down ∨ s.links[l].state = .silent)
    (payload : MicPayload) (raw : Byte) (x : BitVec 32) :
    ∃ u, exec (.status l x) s = .next u ∧ u.links[l].state = .up ∧
      exec (.copy l payload raw) s = exec (.copy l payload raw)
        { u with
          links := u.links.set l { u.links[l] with identity := s.links[l].identity }
          reminders := s.reminders, lamps := s.lamps } := by
  have links := goodFrame_links_of_not_up (not_up_of_down down)
  have reminders : (s.goodFrame l).reminders = s.reminders := frame_goodFrame (s := s) l .reminders (by decide)
  have lamps : (s.goodFrame l).lamps = s.lamps := frame_goodFrame (s := s) l .lamps (by decide)
  rw [exec_copy_goodFrame ready down payload raw]
  refine ⟨_, exec_status_of_hearing (hears_of_down ready down) x, ?_, ?_⟩
  all_goals generalize s.goodFrame l = g at *
  all_goals
    have told : ((g.modLink l fun r => { r with identity := some x }).evalOutputs).links =
        g.links.set l { g.links[l] with identity := some x } := frame_evalOutputs .links (by decide)
  · rw [told, get_set_self, links, get_set_self]
  · have back : (g.links.set l { g.links[l] with identity := some x }).set l
        { (g.links.set l { g.links[l] with identity := some x })[l] with identity := s.links[l].identity } = g.links := by
      rw [get_set_self, set_set_self, links, get_set_self, set_set_self]
    refine congrArg (exec (.copy l payload raw)) ?_
    rw [told, back, ← reminders, ← lamps]
    rfl

/-- Settles O13: a COPY with no open frame of its key. -/
theorem copyOpensFrame : Obligations.CopyOpensFrame := by
  refine ⟨fun s l payload raw ready fresh => ⟨fun up other room => exec_copy_room ready up fresh other room,
    fun down other room => exec_copy_brought ready down fresh other room, fun up other full nodup => ?_,
    fun up alone room => ?_, fun o head up full nodup => ?_⟩,
    fun s l payload raw x ready down => exec_copy_status ready down payload raw x⟩
  · have some : s.openFrames.head?.isSome = true := by
      rw [List.isSome_head?]
      rintro empty
      rw [empty] at full
      exact nomatch full
    obtain ⟨o, head⟩ := Option.isSome_iff_exists.1 some
    exact ⟨_, exec_copy_full ready up fresh other full head nodup, rfl⟩
  · rw [exec_copy_settle ready up fresh alone, forceOldest_of_room (s := silenceRestarted s l) room,
      ← exec_window_opened (t := silenceRestarted s l) fresh]
    rfl
  · exact ⟨_, exec_windowExpiry (stands_head (s := silenceRestarted s l) head nodup),
      fun other => exec_copy_full ready up fresh other full head nodup,
      fun alone => exec_copy_full_alone ready up fresh alone full head nodup⟩

/-! ## A copy that joins a frame -/

/-- The open frame with a copy from the link joined to it (R45, R46). -/
def joinedFrame (o : OpenFrame) (l : LinkId) (b : Int) : OpenFrame :=
  { o with
    heard := if l ∈ o.heard then o.heard else o.heard ++ [l]
    bestStrength := max o.bestStrength b
    bestLink := if o.bestStrength < b then l else if b = o.bestStrength then min l o.bestLink else o.bestLink }

theorem compare_eq (o : OpenFrame) (l : LinkId) (b : Int) : o.compare l b =
    { o with
      bestStrength := max o.bestStrength b
      bestLink := if o.bestStrength < b then l else if b = o.bestStrength then min l o.bestLink else o.bestLink } := by
  unfold OpenFrame.compare
  split
  next stronger => rw [max_eq_right (Int.le_of_lt stronger)]
  next weaker =>
    rw [max_eq_left (Int.not_lt.1 weaker)]
    split <;> rfl

theorem join_eq (o : OpenFrame) (l : LinkId) (b : Int) : o.join l b = joinedFrame o l b := by
  unfold OpenFrame.join joinedFrame
  rw [compare_eq]
  by_cases heard : l ∈ o.heard
  · rw [if_pos heard]
    exact if_pos (List.contains_iff_mem.2 heard)
  · rw [if_neg heard]
    exact if_neg fun contains => heard (List.contains_iff_mem.1 contains)

theorem mem_heard_joined : m ∈ (joinedFrame o l strength).heard ↔ m = l ∨ m ∈ o.heard := by
  show m ∈ (if l ∈ o.heard then o.heard else o.heard ++ [l]) ↔ _
  split
  next heard => exact ⟨.inr, fun h => h.elim (fun same => same ▸ heard) id⟩
  next => rw [List.mem_append, List.mem_singleton, or_comm]

/-- The state with the open frame in its place in the table. -/
def joinedIn (s : State) (pre post : List OpenFrame) (o : OpenFrame) : State := { s with openFrames := pre ++ o :: post }

theorem stands_joinedIn (others : ∀ x ∈ pre ++ post, OpenFrame.key x ≠ OpenFrame.key o) :
    Stands (joinedIn s pre post o) o := by
  refine ⟨List.mem_append_right _ List.mem_cons_self, fun x hx same => ?_⟩
  rcases List.mem_append.1 hx with ahead | here
  · exact absurd same (others x (List.mem_append_left _ ahead))
  · rcases List.mem_cons.1 here with here | behind
    · exact here
    · exact absurd same (others x (List.mem_append_right _ behind))

theorem copyArrives_joins (split : s.openFrames = pre ++ o :: post) (key : OpenFrame.key o = MicPayload.key payload)
    (others : ∀ x ∈ pre ++ post, OpenFrame.key x ≠ MicPayload.key payload) (l : LinkId) (b : Int) :
    s.copyArrives payload l b = (joinedIn s pre post (joinedFrame o l b)).testComplete (MicPayload.key payload) := by
  have same : s = joinedIn s pre post o := by
    unfold joinedIn
    rw [← split]
  have stands : Stands s o := by
    rw [same]
    exact stands_joinedIn fun x hx => key ▸ others x hx
  have found : s.openFrame? (MicPayload.key payload) = some o := key ▸ openFrame?_of_stands stands
  have kept (xs : List OpenFrame) (hxs : ∀ x ∈ xs, x ∈ pre ++ post) :
      (xs.map fun (x : OpenFrame) => if x.key = MicPayload.key payload then x.join l b else x) = xs :=
    (List.map_congr_left fun x hx => if_neg (others x (hxs x hx))).trans xs.map_id
  unfold State.copyArrives
  dsimp only
  rw [found]
  dsimp only
  rw [split, List.map_append, List.map_cons, kept pre fun x => List.mem_append_left _,
    kept post fun x => List.mem_append_right _, if_pos key, join_eq]
  rfl

theorem exec_copy_joined (ready : s.part = .ready) (up : s.links[l].state = .up) (split : s.openFrames = pre ++ o :: post)
    (key : OpenFrame.key o = MicPayload.key payload)
    (others : ∀ x ∈ pre ++ post, OpenFrame.key x ≠ MicPayload.key payload) :
    exec (.copy l payload raw) s = .next ((joinedIn (silenceRestarted s l) pre post
      (joinedFrame o l (correctedStrength raw.toInt s.links[l].offset))).testComplete (MicPayload.key payload)).evalOutputs := by
  rw [exec_copy (hears_of_up ready up), goodFrame_up up, copyArrives_joins (s := silenceRestarted s l) split key others]

theorem exec_copy_joins_open (ready : s.part = .ready) (up : s.links[l].state = .up)
    (split : s.openFrames = pre ++ o :: post) (key : OpenFrame.key o = MicPayload.key payload)
    (others : ∀ x ∈ pre ++ post, OpenFrame.key x ≠ MicPayload.key payload)
    (missing : ∃ m : LinkId, s.links[m].state = .up ∧ m ≠ l ∧ m ∉ o.heard) :
    ∃ t, exec (.copy l payload raw) s = .next t ∧
      t.openFrames = pre ++ joinedFrame o l (correctedStrength raw.toInt s.links[l].offset) :: post ∧
      t.links = s.links.set l { s.links[l] with silence := some 15 } ∧
      ChangesOnly [.openFrames, .links, .reminders, .lamps] s t := by
  have stands : Stands (joinedIn (silenceRestarted s l) pre post
      (joinedFrame o l (correctedStrength raw.toInt s.links[l].offset)))
      (joinedFrame o l (correctedStrength raw.toInt s.links[l].offset)) :=
    stands_joinedIn fun x hx => fun same => others x hx (same.trans key)
  have taken := exec_copy_joined (raw := raw) ready up split key others
  obtain ⟨m, upHere, ne, absent⟩ := missing
  have stays := testComplete_of_missing stands
    ⟨m, (silenceRestarted_state s l m).trans upHere, fun heard => (mem_heard_joined.1 heard).elim ne absent⟩
  rw [show OpenFrame.key (joinedFrame o l _) = MicPayload.key payload from key] at stays
  rw [stays] at taken
  have out := frame_evalOutputs (s := joinedIn (silenceRestarted s l) pre post
    (joinedFrame o l (correctedStrength raw.toInt s.links[l].offset)))
  have joins : ChangesOnly [.openFrames] (silenceRestarted s l) (joinedIn (silenceRestarted s l) pre post
      (joinedFrame o l (correctedStrength raw.toInt s.links[l].offset))) := by
    intro b hb
    cases b
    case openFrames => exact absurd (by decide) hb
    all_goals rfl
  refine ⟨_, taken, out .openFrames (by decide), out .links (by decide), ?_⟩
  exact frame_then (frame_then (frame_mono (frame_silenceRestarted l) (by decide)) joins (by decide)) out (by decide)

theorem exec_copy_joins_settle (ready : s.part = .ready) (up : s.links[l].state = .up)
    (split : s.openFrames = pre ++ o :: post) (key : OpenFrame.key o = MicPayload.key payload)
    (others : ∀ x ∈ pre ++ post, OpenFrame.key x ≠ MicPayload.key payload)
    (all : ∀ m : LinkId, s.links[m].state = .up → m ≠ l → m ∈ o.heard) :
    exec (.copy l payload raw) s = exec (.mergeWindowExpiry (MicPayload.key payload))
      (joinedIn (silenceRestarted s l) pre post (joinedFrame o l (correctedStrength raw.toInt s.links[l].offset))) := by
  have stands : Stands (joinedIn (silenceRestarted s l) pre post
      (joinedFrame o l (correctedStrength raw.toInt s.links[l].offset)))
      (joinedFrame o l (correctedStrength raw.toInt s.links[l].offset)) :=
    stands_joinedIn fun x hx => fun same => others x hx (same.trans key)
  have settles := testComplete_of_complete stands fun m upHere => mem_heard_joined.2 ?_
  · have window := exec_windowExpiry stands
    rw [show OpenFrame.key (joinedFrame o l _) = MicPayload.key payload from key] at settles window
    rw [exec_copy_joined ready up split key others, settles, window]
  · by_cases same : m = l
    · exact .inl same
    · exact .inr (all m ((silenceRestarted_state s l m).symm.trans upHere) same)

/-- Settles O14: a COPY joins the open frame of its key. -/
theorem copyJoinsFrame : Obligations.CopyJoinsFrame := fun _ _ _ _ _ _ _ ready up split key others =>
  ⟨fun missing => exec_copy_joins_open ready up split key others missing,
    fun all => exec_copy_joins_settle ready up split key others all⟩

end Sys2Proof.Machine.Copies
end
